-- ==== Sys2Proof/Word.lean ====
section
/-!
DEFINITION. The words the model is built of: a register (64 bits), a line (128 bytes), a byte, and the
byte-enables of a line. Bit 0 is the least significant bit (R2), and byte i of a line is bits [8i+7:8i] (R3).
-/

namespace Sys2Proof

/-- A register, or one 8-byte word of a line (R57, R122). -/
abbrev Word := BitVec 64

/-- A line of 128 bytes (R4); byte i is bits [8i+7:8i]. -/
abbrev Line := BitVec 1024

/-- One byte. -/
abbrev Byte := BitVec 8

/-- Byte-enables of a line: bit i enables byte i (R245). -/
abbrev Mask := BitVec 128

end Sys2Proof
end

