-- ==== Sys2Proof/Syntax.lean ====
section
/-!
DEFINITION. The commands of the block: one constructor of Instr for each row of spec/opcode_table.json, with the
operands that what arrives from outside carries (a frame, a message, a register write, an amount measured on a pin).
Unit numbers are Fin types, so a port, channel, jet or tenant slot the Golik does not have cannot be named (R14, R15).
-/

namespace Sys2Proof

/-- Where a request or a response arrives: a Speger port, or a lane group of the Thoit link (R24, R31). -/
inductive Via where
  | port (p : Fin 48)
  | group (g : Fin 2)
deriving DecidableEq, Repr

/-- Who writes a register (R49, R58): a fabric request under a context tag, the companion through the Thoit link's
register window, or the management bus through a mirror entry. -/
inductive Writer where
  | tag (t : BitVec 16)
  | companion
  | bus
deriving DecidableEq, Repr

/-- The source a series of ordered requests and an echo record belong to (R218, R264). -/
inductive Source where
  | device (d : BitVec 14)
  | companion
deriving DecidableEq, Repr

/-- A ring bridge edge (R17), in the order of Table 1-8. -/
inductive Edge where
  | b0b1 | b1b3 | b3b2 | b2b0
deriving DecidableEq, Repr

/-- One frame of the Speger fabric, or the same message on the Thoit link: the header of Table 9-2, the payload where
the type has one, and for MWRITE and GMWRITE the byte-enables of the MASK frame that follows (R241, R245). -/
structure Frame where
  ver : BitVec 4 := 1
  typ : BitVec 8 := 0
  vc : BitVec 3 := 0
  isSeal : Bool := false
  ctx : BitVec 16 := 0
  src : BitVec 14 := 0
  ord : Bool := false
  dst : BitVec 14 := 0
  seq : BitVec 24 := 0
  gauge : BitVec 8 := 0
  status : BitVec 8 := 0
  addr : BitVec 46 := 0
  aux : BitVec 64 := 0
  data : Line := 0
  mask : Mask := BitVec.allOnes 128
deriving DecidableEq, Repr

/-- What the word code made of the sixteen words of a line: corrected with one bit, corrected with two bits,
uncorrectable; the others are clean (R122, R123). wrong holds the bits an error of four or more bits has turned in words that
decode clean or corrected all the same (R122). -/
structure Decoded where
  one : BitVec 16 := 0
  two : BitVec 16 := 0
  ue : BitVec 16 := 0
  wrong : Line := 0
deriving DecidableEq, Repr

/-- The two management buses (R448). -/
inductive Bus where
  | a | b
deriving DecidableEq, Repr

/-- A management-bus request: its identifier (Table 17-5) and message header (Table 17-6) but for OP, which the
command names; rsv says that a reserved bit of the header is not zero. -/
structure BusMsg where
  dest : Byte := 0
  src : Byte := 0
  txn : Byte := 0
  last : Bool := false
  count : Byte := 0
  sub : Byte := 0
  index : BitVec 16 := 0
  seg : BitVec 24 := 0
  rsv : Bool := false
  data : List Byte := []
deriving DecidableEq, Repr

/-- The slot fields of a memory-slot instruction (Table 13-5). -/
structure MemSlot where
  a : BitVec 5 := 0
  b : BitVec 5 := 0
  c : BitVec 5 := 0
  d : BitVec 5 := 0
  f : BitVec 4 := 0
  off : BitVec 32 := 0
deriving DecidableEq, Repr

/-- The slot fields of a scalar-slot instruction (Table 13-5). -/
structure ScalarSlot where
  d : BitVec 5 := 0
  a : BitVec 5 := 0
  b : BitVec 5 := 0
  i : Bool := false
  rsv : BitVec 8 := 0
  imm : BitVec 32 := 0
deriving DecidableEq, Repr

/-- The slot fields of a vector-slot instruction (Table 13-5). -/
structure VectorSlot where
  fmt : BitVec 4 := 0
  vd : BitVec 5 := 0
  va : BitVec 5 := 0
  vb : BitVec 5 := 0
  vc : BitVec 5 := 0
  mask : BitVec 3 := 0
  acc : BitVec 6 := 0
  rsv : BitVec 23 := 0
  imm : BitVec 32 := 0
deriving DecidableEq, Repr

/-- The slot fields of a control-slot instruction (Table 13-5). -/
structure ControlSlot where
  x : BitVec 5 := 0
  target : BitVec 11 := 0
  per : BitVec 8 := 0
deriving DecidableEq, Repr

/-- The straps sampled at power-on (R449, R545): the bus address. -/
structure Straps where
  busAddress : Byte := 0x23
deriving DecidableEq, Repr

/-- What the antifuse banks hold at power-on, as far as the spec reads them (R493, R499, R502, R511), and whether the B0 bank can be
read. -/
structure FuseRead where
  zeroized : Bool := false
  epochsUsed : BitVec 13 := 0
  b0Readable : Bool := true
  svnMin : BitVec 6 := 0
  policy : BitVec 2 := 0
  slotsProgrammed : BitVec 4 := 1
  slotsRevoked : BitVec 4 := 0
deriving DecidableEq, Repr

/-- Causes of a power-stage fault (event 0x8105, Table 19-7). -/
inductive StageFault where
  | phase | rail | current
deriving DecidableEq, Repr

/-- What a basin die lost (event 0x8106, Table 19-7). -/
inductive ClockSource where
  | reference | enginePll | tidePll
deriving DecidableEq, Repr

/-- One reading of every temperature sensor, signed °C (R488): four on each basin die, one on each weir die and on
each stack base die. -/
structure Temps where
  basin : Vector Byte 16
  weir : Vector Byte 12
  stack : Vector Byte 12
deriving DecidableEq, Repr

/-- Tamper causes (R508), in the order of the cause bits. -/
inductive Tamper where
  | voltage | clock | cold | mesh | debug | escalation
deriving DecidableEq, Repr

/-- What the image check finds by computation over the buffered image (R497, R498): whether SHA-256 of PUBKEY equals the digest
of KEY_SLOT, whether SIGNATURE verifies, whether SHA-256 of the body equals BODY_DIGEST, and SHA-256 of the whole image. -/
structure ImageFacts where
  keyMatches : Bool := true
  signatureOk : Bool := true
  bodyOk : Bool := true
  digest : BitVec 256 := 0
deriving DecidableEq, Repr

/-- What the self-tests of step 7 of start-up find (R515, R521): failed basin dies, jets and bridge edges, and the atlas-cache ways
that fail, each by basin die and set (R175). -/
structure SelfTest where
  failedDies : BitVec 4 := 0
  failedJets : BitVec 104 := 0
  failedEdges : BitVec 4 := 0
  ways : List (Fin 4 × Fin 8192) := []
deriving DecidableEq, Repr

/-- What a failure of the array is, or a repair record replaces (R135, R136): a row or a column of a bank, or nothing that a row or
column describes. -/
inductive ArrayPart where
  | row (n : Nat) | column (n : Nat) | other
deriving DecidableEq, Repr

/-- A place on a stack: channel of the stack, bank, and what is there. -/
structure ArrayPlace where
  stack : Fin 12
  chan : Fin 16
  bank : Fin 64
  part : ArrayPart
deriving DecidableEq, Repr

/-- What reservoir training finds (R135, R136, R145, R151, R489): the stacks that fail to train and their cause, the temperature
read on each stack, the repair records written at manufacture, and the failures the test of every row finds, in order. -/
structure TrainingResult where
  failed : BitVec 12 := 0
  cause : BitVec 4 := 1
  temps : Vector Byte 12 := Vector.replicate 12 25
  manufactured : List ArrayPlace := []
  fails : List ArrayPlace := []
deriving DecidableEq, Repr

/-- Arguments of GL_PARCEL_CMD GRANT (Table 2-4). -/
structure GrantArgs where
  parcel : Fin 2048
  tenant : Fin 1024 := 0
  rights : BitVec 4 := 0
  broad : Bool := false
  guarded : Bool := false
  tier : BitVec 2 := 0
  stack : BitVec 4 := 0
deriving DecidableEq, Repr

/-- A LINK_INIT frame (Table 9-1). -/
structure LinkInit where
  genMask : BitVec 3 := 1
  initAck : Bool := false
  device : BitVec 14 := 0
  deviceValid : Bool := false
  rxLanes : BitVec 9 := 0xFF
  crd : Vector (BitVec 12) 8 := Vector.replicate 8 0
deriving DecidableEq, Repr

/-- A LINK_ACK frame (Table 9-6). -/
structure LinkAck where
  nak : Bool := false
  ack : BitVec 16 := 0
  crd : Vector (BitVec 12) 6 := Vector.replicate 6 0
deriving DecidableEq, Repr

/-- What arrives in place of a good frame (R243, R245, R250): whether FEC could not correct it, and the good data frame of a masked write
whose MASK it is, if it is one. -/
structure BadFrame where
  fec : Bool := false
  half : Option Frame := none
deriving DecidableEq, Repr

/-- A good frame that is discarded for its type (R244, R245): its type and its virtual channel. -/
structure StrayFrame where
  typ : Byte
  vc : BitVec 3 := 0
deriving DecidableEq, Repr

/-- A control half the companion sends (Table 11-4). -/
structure ControlHalf where
  cycle : BitVec 16 := 0
  flitAck : BitVec 16 := 0
  nak : Bool := false
  replay : Bool := false
  swap : Bool := false
  init : Bool := false
  rejoin : Bool := false
  credit : Vector (BitVec 16) 4 := Vector.replicate 4 0
  gacks : Vector (Option (BitVec 24)) 12 := Vector.replicate 12 none
  lanes : BitVec 17 := 0
  start : BitVec 16 := 0
deriving DecidableEq, Repr

/-- A data flit the companion sends (Table 11-2): its messages at M0 to M3, or a flit whose message CRC failed; noMask says that the
masked write at M0 is not followed by its MASK at M1 (R303). -/
structure Flit where
  good : Bool := true
  noMask : Bool := false
  msgs : List Frame := []
deriving DecidableEq, Repr

/-- The commands of the block, one for each row of spec/opcode_table.json, in its order. -/
inductive Instr where
  | inputRise (vin : BitVec 16)
  | powerOnResetRelease (fuses : FuseRead) (straps : Straps)
  | inputBelowWarning (vin : BitVec 16)
  | inputRecovered (vin : BitVec 16)
  | inputBelowTurnOff (vin : BitVec 16)
  | overvoltageShutdown (vin : BitVec 16)
  | powerStageFault (cause : StageFault) (phasesLeft : Byte) (inRegulation : Bool)
  | powerMeasure (watts : BitVec 16) (vin : BitVec 16)
  | clockLost (die : Fin 4) (src : ClockSource)
  | sensorRead (t : Temps)
  | modRstAssert
  | modRstRelease
  | jtagInstructionLoad (v : Byte)
  | tamperTrip (cause : Tamper)
  | romSelfcheck (ok : Bool)
  | watchdogTimeout
  | trustSelfcheckFail
  | image (addr : BitVec 46) (data : Line)
  | imageEnd (length : BitVec 32)
  | imageBufferTimeout
  | imageCheckDone (r : ImageFacts)
  | selfTestsDone (r : SelfTest)
  | reservoirTrainingDone (r : TrainingResult)
  | bootClearingDone
  | commonsEntry
  | bridgeEdgeFail (e : Edge)
  | readShared (via : Via) (f : Frame)
  | readOwn (via : Via) (f : Frame)
  | upgrade (via : Via) (f : Frame)
  | readOnce (via : Via) (f : Frame)
  | writeBack (via : Via) (f : Frame)
  | evictClean (via : Via) (f : Frame)
  | writeLine (via : Via) (f : Frame)
  | maskedWriteLine (via : Via) (f : Frame)
  | sealStore (via : Via) (f : Frame)
  | gwrite (via : Via) (f : Frame)
  | gmwrite (via : Via) (f : Frame)
  | atomic (via : Via) (f : Frame)
  | gaugeIncrement (t : Fin 1024) (g : Fin 256)
  | gaugeCountWrite (w : Writer) (t : Fin 1024) (g : Fin 256) (v : Word)
  | sealWaitTimeout (line : BitVec 39)
  | echoRecordExpiry (die : Fin 4) (src : Source) (seq : BitVec 24)
  | probeAnswerRx (via : Via) (f : Frame)
  | grantAckRx (via : Via) (f : Frame)
  | holdEndExpiry (line : BitVec 39)
  | probeOverdue (line : BitVec 39) (port : Fin 1024)
  | pinSweepDone (die : Fin 4) (piece : BitVec 16)
  | cportSet (w : Writer) (entry : Fin 1024) (device : BitVec 14) (kind : BitVec 2)
  | cportClear (w : Writer) (entry : Fin 1024)
  | cportLose (w : Writer) (entry : Fin 1024)
  | cportWalkDone
  | clearLost (w : Writer) (parcel : Fin 2048)
  | clearLostDone
  | insetCfgWrite (w : Writer) (enable : Bool) (level : BitVec 2)
  | memberSet (w : Writer) (entry : Fin 1024) (device : BitVec 14) (kind : Bool)
  | memberClear (w : Writer) (entry : Fin 1024)
  | memberLose (w : Writer) (entry : Fin 1024)
  | flushLost (w : Writer) (tag : BitVec 16)
  | memberWalkDone
  | memberCapture (port : Fin 48) (f : Frame)
  | upstreamProbeRx (port : Fin 48) (f : Frame)
  | grantRx (port : Fin 48) (f : Frame)
  | probeRx (port : Fin 48) (f : Frame)
  | responseRx (port : Fin 48) (f : Frame)
  | redirectRx (port : Fin 48) (f : Frame)
  | sourceTimeout (dst : BitVec 14) (ord : Bool) (seq : BitVec 24)
  | retryDelayExpiry (dst : BitVec 14) (ord : Bool) (seq : BitVec 24)
  | orderReset (w : Writer) (device : BitVec 14)
  | orderResetAll (w : Writer)
  | orderResetCompanion (w : Writer)
  | grant (w : Writer) (g : GrantArgs)
  | setRights (w : Writer) (parcel : Fin 2048) (rights : BitVec 4)
  | setRightsDone
  | parcelRelease (w : Writer) (parcel : Fin 2048)
  | releaseDrained
  | parcelFreed (parcel : Fin 2048)
  | mgmtTagWrite (w : Writer) (tag : BitVec 16) (valid : Bool)
  | ctxSet (w : Writer) (entry : Fin 1024) (tag : BitVec 16) (tenant : Fin 1024)
  | ctxClear (w : Writer) (entry : Fin 1024)
  | xans (reqId : BitVec 16) (result : BitVec 2) (size : Bool) (perm : BitVec 4) (base : Word)
  | xlateTimeout (reqId : BitVec 16)
  | xinvAll (w : Writer)
  | xinvContext (w : Writer) (tag : BitVec 16)
  | xinvRange (w : Writer) (tag : BitVec 16)
  | xinvDone
  | tideMapEntryWrite (w : Writer) (die : Fin 4) (map : Fin 8) (hot : Bool) (group : Fin 512) (v : Word)
  | validate (w : Writer) (die : Fin 4) (map : Fin 8) (fdepth : BitVec 5)
  | validateDone (die : Fin 4)
  | clearMap (w : Writer) (die : Fin 4) (map : Fin 8)
  | chanCfgWrite (w : Writer) (chan : Fin 192) (map : Fin 8) (dormant : Bool)
  | forceHotWrite (w : Writer) (stack : Fin 12) (hot : Bool)
  | calendarBoundary (die : Fin 4)
  | channelWakeDone (chan : Fin 192)
  | slot (chan : Fin 192) (answered : Bool)
  | arrayReadReturn (chan : Fin 192) (d : Decoded)
  | mergeOpenTimeout (chan : Fin 192)
  | reconstructDone (line : BitVec 39) (found : Bool)
  | parityUpdateRx (line : BitVec 39)
  | trvModeWrite (w : Writer) (rangePass : Bool)
  | trvGo (w : Writer) (passId : BitVec 16)
  | trvAbort (w : Writer)
  | linkInitRx (port : Fin 48) (m : LinkInit)
  | pmdTrainingDone (port : Fin 48) (usable : BitVec 9)
  | trainingTimeout (port : Fin 48)
  | portEnableWrite (w : Writer) (port : Fin 48) (enable : Bool) (allowHalf : Bool)
  | badFrameRx (port : Fin 48) (b : BadFrame)
  | linkAckRx (port : Fin 48) (m : LinkAck)
  | replayRx (port : Fin 48) (start : BitVec 16)
  | laneSwapRx (port : Fin 48) (lanes : BitVec 9)
  | laneFailure (port : Fin 48) (lane : Fin 9)
  | ackTimer (port : Fin 48)
  | replayTimeout (port : Fin 48)
  | linkSilenceTimeout (port : Fin 48)
  | realignTimeout (port : Fin 48)
  | laneSleepConsent (port : Fin 48)
  | laneWake (port : Fin 48)
  | sluiceFrameEntry (port : Fin 48) (f : Frame)
  | cellTime
  | cisternReadback (input : Fin 52) (output : Fin 52) (vc : Fin 6)
  | routeSet (w : Writer) (device : BitVec 14) (p0 : BitVec 6) (p1 : BitVec 6) (p2 : BitVec 6) (p3 : BitVec 6) (count : BitVec 3)
  | routeMarkLost (w : Writer) (device : BitVec 14)
  | routeClear (w : Writer) (device : BitVec 14)
  | routeDrainDone
  | classTableWrite (w : Writer) (k : Fin 16384) (v : Word)
  | thoitTrainTimeout (g : Fin 2)
  | thoitEnableWrite (w : Writer) (enable : Bool)
  | thoitControlHalfRx (g : Fin 2) (m : ControlHalf)
  | thoitFlitRx (g : Fin 2) (slot : Fin 3) (m : Flit)
  | thoitCycle (g : Fin 2)
  | thoitLaneFailure (g : Fin 2) (lane : Fin 17)
  | thoitLinkLossTimeout
  | regRead (f : Frame)
  | regWrite (f : Frame)
  | t2Ans (f : Frame)
  | qpEnable (w : Writer) (t : Fin 1024) (q : Fin 64)
  | qpDisable (w : Writer) (t : Fin 1024) (q : Fin 64)
  | qpConfigWrite (w : Writer) (t : Fin 1024) (q : Fin 64) (r : Fin 3) (v : Word)
  | sqDoorbell (w : Writer) (t : Fin 1024) (q : Fin 64) (tail : BitVec 16)
  | descFetchReturn (t : Fin 1024) (q : Fin 64)
  | cqHeadWrite (w : Writer) (t : Fin 1024) (q : Fin 64) (head : BitVec 16)
  | descNop (t : Fin 1024) (q : Fin 64)
  | copy (t : Fin 1024) (q : Fin 64)
  | fill (t : Fin 1024) (q : Fin 64)
  | task (t : Fin 1024) (q : Fin 64)
  | descWritesDone (t : Fin 1024) (q : Fin 64)
  | fenceTag (w : Writer) (t : Fin 1024) (tag : BitVec 16)
  | fenceAll (w : Writer) (t : Fin 1024)
  | unfenceTag (w : Writer) (t : Fin 1024) (tag : BitVec 16)
  | unfenceAll (w : Writer) (t : Fin 1024)
  | tenantReset (w : Writer) (t : Fin 1024)
  | fenceDrained (tag : BitVec 16)
  | legAdmission (j : Fin 104)
  | legStart (j : Fin 104)
  | legEnd (j : Fin 104)
  | legOverrun (j : Fin 104)
  | taskSwitchIn (j : Fin 104)
  | gwaitTimeout (j : Fin 104) (record : Fin 17)
  | jetFailed (j : Fin 104)
  | jetSpareEnabled (failed : Fin 104) (spare : Fin 104)
  | eld (j : Fin 104) (m : MemSlot)
  | est (j : Fin 104) (m : MemSlot)
  | fld (j : Fin 104) (m : MemSlot)
  | fst (j : Fin 104) (m : MemSlot)
  | fgst (j : Fin 104) (m : MemSlot)
  | fseal (j : Fin 104) (m : MemSlot)
  | fatom (j : Fin 104) (m : MemSlot)
  | fetchb (j : Fin 104) (m : MemSlot)
  | fetchg (j : Fin 104) (m : MemSlot)
  | storeb (j : Fin 104) (m : MemSlot)
  | bld (j : Fin 104) (m : MemSlot)
  | bst (j : Fin 104) (m : MemSlot)
  | bgath (j : Fin 104) (m : MemSlot)
  | bscat (j : Fin 104) (m : MemSlot)
  | pqload (j : Fin 104) (m : MemSlot)
  | bacld (j : Fin 104) (m : MemSlot)
  | bacst (j : Fin 104) (m : MemSlot)
  | add (j : Fin 104) (f : ScalarSlot)
  | sub (j : Fin 104) (f : ScalarSlot)
  | and (j : Fin 104) (f : ScalarSlot)
  | or (j : Fin 104) (f : ScalarSlot)
  | xor (j : Fin 104) (f : ScalarSlot)
  | shl (j : Fin 104) (f : ScalarSlot)
  | shr (j : Fin 104) (f : ScalarSlot)
  | sar (j : Fin 104) (f : ScalarSlot)
  | mul (j : Fin 104) (f : ScalarSlot)
  | min (j : Fin 104) (f : ScalarSlot)
  | max (j : Fin 104) (f : ScalarSlot)
  | cmplt (j : Fin 104) (f : ScalarSlot)
  | cmpltu (j : Fin 104) (f : ScalarSlot)
  | cmpeq (j : Fin 104) (f : ScalarSlot)
  | li (j : Fin 104) (f : ScalarSlot)
  | lui (j : Fin 104) (f : ScalarSlot)
  | vext (j : Fin 104) (f : ScalarSlot)
  | vins (j : Fin 104) (f : ScalarSlot)
  | bldx (j : Fin 104) (f : ScalarSlot)
  | bstx (j : Fin 104) (f : ScalarSlot)
  | stamp (j : Fin 104) (f : ScalarSlot)
  | vadd (j : Fin 104) (f : VectorSlot)
  | vsub (j : Fin 104) (f : VectorSlot)
  | vmul (j : Fin 104) (f : VectorSlot)
  | vfma (j : Fin 104) (f : VectorSlot)
  | vmin (j : Fin 104) (f : VectorSlot)
  | vmax (j : Fin 104) (f : VectorSlot)
  | vdot (j : Fin 104) (f : VectorSlot)
  | vcvt (j : Fin 104) (f : VectorSlot)
  | vunpk6 (j : Fin 104) (f : VectorSlot)
  | vpack6 (j : Fin 104) (f : VectorSlot)
  | vcmp (j : Fin 104) (f : VectorSlot)
  | vsel (j : Fin 104) (f : VectorSlot)
  | vperm (j : Fin 104) (f : VectorSlot)
  | vred (j : Fin 104) (f : VectorSlot)
  | vbcast (j : Fin 104) (f : VectorSlot)
  | pqsum (j : Fin 104) (f : VectorSlot)
  | vmsmov (j : Fin 104) (f : VectorSlot)
  | accinit (j : Fin 104) (f : VectorSlot)
  | accadd (j : Fin 104) (f : VectorSlot)
  | accsum (j : Fin 104) (f : VectorSlot)
  | acccvt (j : Fin 104) (f : VectorSlot)
  | br (j : Fin 104) (f : ControlSlot)
  | bnz (j : Fin 104) (f : ControlSlot)
  | bz (j : Fin 104) (f : ControlSlot)
  | loop (j : Fin 104) (f : ControlSlot)
  | legend (j : Fin 104) (f : ControlSlot)
  | gwait (j : Fin 104) (f : ControlSlot)
  | waitfc (j : Fin 104) (f : ControlSlot)
  | tableOpen (t : Fin 1024) (q : Fin 64)
  | tableClose (t : Fin 1024) (q : Fin 64)
  | gather (t : Fin 1024) (q : Fin 64)
  | scatterAdd (t : Fin 1024) (q : Fin 64)
  | stepCommit (t : Fin 1024) (q : Fin 64)
  | commitBatchEnd (t : Fin 1024) (q : Fin 64)
  | replicaLink (t : Fin 1024) (q : Fin 64)
  | snapshot (t : Fin 1024) (q : Fin 64)
  | indexOpen (t : Fin 1024) (q : Fin 64)
  | indexClose (t : Fin 1024) (q : Fin 64)
  | search (t : Fin 1024) (q : Fin 64)
  | insert (t : Fin 1024) (q : Fin 64)
  | delete (t : Fin 1024) (q : Fin 64)
  | merge (t : Fin 1024) (q : Fin 64)
  | mergeTaskEnd (t : Fin 1024) (q : Fin 64)
  | move (w : Writer) (parcel : Fin 2048) (piece : Fin 32) (toPlace : BitVec 2)
  | moveCopyDone (parcel : Fin 2048) (piece : Fin 32)
  | moveCutDrained (parcel : Fin 2048) (piece : Fin 32)
  | lend (w : Writer) (parcel : Fin 2048) (device : BitVec 14)
  | unlend (w : Writer) (parcel : Fin 2048)
  | borrow (w : Writer) (parcel : Fin 2048) (device : BitVec 14)
  | unborrow (w : Writer) (parcel : Fin 2048) (device : BitVec 14)
  | holdCreate (t : Fin 1024) (q : Fin 64)
  | holdRenew (t : Fin 1024) (q : Fin 64)
  | holdDrop (t : Fin 1024) (q : Fin 64)
  | holdOffer (t : Fin 1024) (q : Fin 64)
  | offerRx (port : Fin 48) (f : Frame)
  | acceptRx (port : Fin 48) (f : Frame)
  | custodyReleaseRx (port : Fin 48) (f : Frame)
  | holdingDueExpiry (t : Fin 1024) (key : Word)
  | acceptedDueExpiry (t : Fin 1024) (key : Word)
  | tombstoneExpiry (t : Fin 1024) (key : Word)
  | custodyFind (w : Writer) (t : Fin 1024)
  | custodyPromote (w : Writer) (t : Fin 1024)
  | custodyRestore (w : Writer) (t : Fin 1024)
  | custodyDiscard (w : Writer) (t : Fin 1024)
  | cascade (t : Fin 1024) (q : Fin 64)
  | cascadeStaged (t : Fin 1024) (q : Fin 64)
  | cascadeDeadline (t : Fin 1024) (q : Fin 64)
  | cascadeDeliver (t : Fin 1024) (q : Fin 64)
  | gzBusRead (bus : Bus) (m : BusMsg)
  | gzBusWrite (bus : Bus) (m : BusMsg)
  | gzBusInfo (bus : Bus) (m : BusMsg)
  | gzBusAbort (bus : Bus) (m : BusMsg)
  | gzTransferTimeout (manager : Fin 16)
  | gzWindowRead (w : Writer)
  | gzWindowWrite (w : Writer) (last : Bool) (count : BitVec 6)
  | gzWindowInfo (w : Writer)
  | gzWindowAbort (w : Writer)
  | beaconTimer
  | busOff (bus : Bus)
  | busRecovered (bus : Bus)
  | addressConflict (bus : Bus)
  | svyNow (w : Writer)
  | svyAt (w : Writer)
  | surveyPeriodEdge
  | surveyAnnounce
  | surveyAbandon (die : Fin 4)
  | surveyCapture
  | surveyComplete
  | challenge (bus : Bus) (m : BusMsg)
  | evidenceReady (signature : List Byte)
  | svnCommit (w : Writer) (svn : Byte)
  | keySlotRevoke (w : Writer) (slot : Byte)
  | policyWrite (w : Writer) (policy : Byte)
  | discoverRx (port : Fin 48) (f : Frame)
  | assignIdRx (port : Fin 48) (f : Frame)
  | discoverAnsRx (port : Fin 48) (f : Frame)
  | joinDiscover (w : Writer) (port : BitVec 6)
  | joinAssign (w : Writer) (port : BitVec 6) (newId : BitVec 14)
  | joinAnswerTimeout
  | deviceIdWrite (w : Writer) (id : BitVec 16)
  | enterService (w : Writer)
  | serviceEntryDone
  | enterTest (w : Writer)
  | recover (w : Writer)
  | keep (w : Writer) (parcel : Fin 2048) (tenant : Fin 1024) (rights : BitVec 4)
  | unkeep (w : Writer) (parcel : Fin 2048)
  | registerWrite (w : Writer) (off : BitVec 28) (v : Word)
  | linkInitTimer (port : Fin 48)
  | overvoltageRecovery (vin : BitVec 16)
  | thoitLaneLockDone (g : Fin 2) (usable : BitVec 17)
  | laneRealignDone (port : Fin 48)
  | fusePulseDone
  | trstNAssert
  | badTypeFrameRx (port : Fin 48) (x : StrayFrame)
deriving DecidableEq, Repr

end Sys2Proof
end

