-- ==== Sys2Proof/Config.lean ====
section
/-!
DEFINITION. What an implementation fixes and the spec does not give (Config.*), as constants without a body: values of the
module's own (serial number, keys), values the spec leaves open, and choices the spec leaves to the Golik. Nothing can be
proved of any of them but what their type says.
-/

namespace Sys2Proof.Config

/-- Free values: the n-th value the spec does not state (notes assumption 3). -/
opaque freeWord : Nat → Word
/-- Free values of a line. -/
opaque freeLine : Nat → Line
/-- Free values of a vector register. -/
opaque freeVector : Nat → BitVec 2048

/-- Byte i of the module serial number, G:0x1000.03 (R461). -/
opaque serialByte : Nat → Byte
/-- The silicon revision, G:0x1000.04 (R461). -/
opaque siliconRevision : BitVec 16
/-- Byte i of the identity public key, G:0x9000.02 (R513). -/
opaque identityKeyByte : Nat → Byte
/-- Byte i of the certificate, G:0x9000.03 (R507). -/
opaque certificateByte : Nat → Byte
/-- Byte i of the slot digests, G:0x9020.04 (R513). -/
opaque slotDigestByte : Nat → Byte

/-- The atlas-store set, of 2 Mi sets of a die's quarter, that a tracked line belongs to (R171): the spec gives no hash. -/
opaque storeSet : Nat → Nat
/-- The atlas-cache set, of 8 Ki sets of a die, that a tracked line belongs to (R172). -/
opaque cacheSet : Nat → Nat
/-- Whether the n-th read of an atlas-cache way returns an uncorrectable read (R175): the spec leaves when one does to the hardware. -/
opaque atlasReadFails : Nat → Bool
/-- The translation-cache set, of 1,024 sets of a die, of a context and sheet number (R71). -/
opaque xlateSet : Nat → Nat → Nat
/-- The remote-line-cache set, of 8 Ki sets of a die, of a home and line (R178). -/
opaque rlcSet : Nat → Nat → Nat

/-- Whether the channel's array position, of 50,331,648, holds a line the model names, and which: the Golik chooses rows and
columns (R93, R94). Margin lines and stripe positions have names of their own (notes assumption 14). -/
opaque lineAt : Nat → Nat → Option Nat
/-- The channel of a line of the Golik's own: a margin line, a stripe position (R94). -/
opaque marginChan : Nat → Nat
/-- The bank, row and first word of a line of the Golik's own on its channel (R94). -/
opaque marginPlace : Nat → Nat × Nat × Nat
/-- The bank of an array position of a channel that holds no line the model names (R94). -/
opaque positionBank : Nat → Nat → Nat
/-- The guard stripe a guarded or margin line belongs to (R132): the Golik chooses. -/
opaque stripeOf : Nat → Nat
/-- The stack, of 12, that holds a stripe's parity line (R132). -/
opaque parityStack : Nat → Nat
/-- The place of a stripe in the order of the rebuild (R148). -/
opaque rebuildIndex : Nat → Nat
/-- The bank a slot use of the rebuild touches on a channel (R133, R148). -/
opaque rebuildBank : Nat → Nat → Nat
/-- Which surviving channel, of 176, holds the rebuilt place of a line of a failed stack (R148). -/
opaque sparePlace : Nat → Nat
/-- How many of S parity lines a stack holds (R132): the Golik chooses. -/
opaque parityOn : Nat → Nat → Nat

/-- The failing code that stands for a status the Golik does not recognise and has to pass on (R13). -/
opaque relayFailure : Nat → Nat

/-- What byte i of the image buffer holds where no image has been written to it (R312, R518). -/
opaque imageResidue : Nat → Byte

/-- INFO's DEFAULT of a numeric entry for which the spec states none, by 256 index + subindex (Table 17-8). -/
opaque infoDefault : Nat → Word
/-- INFO's UNIT of G:0x8010.03, which counts 10 mV: Table 17-8 has no such unit. -/
opaque infoUnit : Byte

/-- The token a DISCOVER or ASSIGN_ID the Golik sends carries, chosen by the sender (Table 21-3). -/
opaque joinToken : Nat → BitVec 32

end Sys2Proof.Config
end

