-- ==== Sys2Proof/Machine/Bits.lean ====
section
/-!
DEFINITION. Bit fields of a 64-bit register or header word (R2), the 8-byte words and the bytes of a line (R3, R122),
and byte-enables (R245).
-/

namespace Sys2Proof.Machine

/-- The w-bit mask at bit 0. -/
def lowMask (w : Nat) : Word := BitVec.ofNat 64 (2 ^ w - 1)

/-- The field [lo+w-1:lo] of a register, as a number (R2). -/
def field (v : Word) (lo w : Nat) : Nat := v.toNat / 2 ^ lo % 2 ^ w

/-- The register with the field [lo+w-1:lo] holding x mod 2^w. -/
def withField (v : Word) (lo w x : Nat) : Word :=
  (v &&& ~~~(lowMask w <<< lo)) ||| BitVec.ofNat 64 (x % 2 ^ w * 2 ^ lo)

/-- Build a number from fields given low end first: (width, value) pairs packed from bit 0 up. -/
def packNat : List (Nat × Nat) → Nat
  | [] => 0
  | (w, v) :: rest => v % 2 ^ w + 2 ^ w * packNat rest

/-- A register built from fields, low end first. -/
def pack (l : List (Nat × Nat)) : Word := BitVec.ofNat 64 (packNat l)

/-- A bit as a number. -/
def bitN (b : Bool) : Nat := if b then 1 else 0

/-- A field of any vector, as a number. -/
def bitsN {n : Nat} (v : BitVec n) (lo w : Nat) : Nat := v.toNat / 2 ^ lo % 2 ^ w

/-- Word w of a line: bytes 8w to 8w + 7 (R122). -/
def lineWord (l : Line) (w : Nat) : Word := (l >>> (64 * w)).setWidth 64

/-- Byte i of a line (R3). -/
def lineByte (l : Line) (i : Nat) : Byte := (l >>> (8 * i)).setWidth 8

/-- A line with word w replaced. -/
def withLineWord (l : Line) (w : Nat) (v : Word) : Line :=
  (l &&& ~~~((BitVec.allOnes 64).setWidth 1024 <<< (64 * w))) ||| (v.setWidth 1024 <<< (64 * w))

/-- A line with byte i replaced. -/
def withLineByte (l : Line) (i : Nat) (b : Byte) : Line :=
  (l &&& ~~~((BitVec.allOnes 8).setWidth 1024 <<< (8 * i))) ||| (b.setWidth 1024 <<< (8 * i))

/-- A line of sixteen words, word 0 first. -/
def lineOfWords : List Word → Line
  | [] => 0
  | w :: ws => w.setWidth 1024 ||| (lineOfWords ws <<< 64)

/-- The bytes i to i + n - 1 of a line. -/
def lineBytes (l : Line) (i n : Nat) : List Byte := (List.range n).map (fun k => lineByte l (i + k))

/-- A line from bytes, byte 0 first. -/
def lineOfBytes : List Byte → Line
  | [] => 0
  | b :: bs => b.setWidth 1024 ||| (lineOfBytes bs <<< 8)

/-- The number a list of bytes holds, least significant first (R3). -/
def natOfBytes : List Byte → Nat
  | [] => 0
  | b :: bs => b.toNat + 256 * natOfBytes bs

/-- The n bytes of a number, least significant first (R3). -/
def bytesOfNat : Nat → Nat → List Byte
  | 0, _ => []
  | n + 1, v => BitVec.ofNat 8 v :: bytesOfNat n (v / 256)

/-- The bytes of a line spread from a byte-enable mask: all ones in enabled bytes. -/
def spread (m : Mask) : Line :=
  (List.range 128).foldl (fun a i => if m.getLsbD i then a ||| ((BitVec.allOnes 8).setWidth 1024 <<< (8 * i)) else a) 0

/-- The old line with the enabled bytes of the new one (R245). -/
def mergeBytes (old new : Line) (m : Mask) : Line :=
  if m = BitVec.allOnes 128 then new else (old &&& ~~~ spread m) ||| (new &&& spread m)

/-- The 8 byte-enables of word w. -/
def wordMask (m : Mask) (w : Nat) : BitVec 8 := (m >>> (8 * w)).setWidth 8

/-- A write is sub-word when the byte-enables of some 8-byte word are neither all set nor all clear (R116). -/
def subWord (m : Mask) : Bool :=
  (List.range 16).any (fun w => wordMask m w != 0 && wordMask m w != BitVec.allOnes 8)

/-- The words a write covers in full. -/
def fullWords (m : Mask) : BitVec 16 :=
  BitVec.ofNat 16 ((List.range 16).foldl (fun a w => if wordMask m w = BitVec.allOnes 8 then a + 2 ^ w else a) 0)

/-- The words a write touches. -/
def touchedWords (m : Mask) : BitVec 16 :=
  BitVec.ofNat 16 ((List.range 16).foldl (fun a w => if wordMask m w ≠ 0 then a + 2 ^ w else a) 0)

/-- Byte-enables that cover whole words. -/
def maskOfWords (ws : BitVec 16) : Mask :=
  (List.range 16).foldl (fun a w => if ws.getLsbD w then a ||| ((BitVec.allOnes 8).setWidth 128 <<< (8 * w)) else a) 0

/-- Number of ones. -/
def popCount {n : Nat} (v : BitVec n) : Nat := (List.range n).foldl (fun a i => if v.getLsbD i then a + 1 else a) 0

/-- The positions of the ones, lowest first. -/
def onesOf {n : Nat} (v : BitVec n) : List Nat := (List.range n).filter (fun i => v.getLsbD i)

/-- A vector with bit i set. -/
def withBit {n : Nat} (v : BitVec n) (i : Nat) : BitVec n := v ||| BitVec.ofNat n (2 ^ i)

/-- A vector with bit i cleared. -/
def withoutBit {n : Nat} (v : BitVec n) (i : Nat) : BitVec n := v &&& ~~~ BitVec.ofNat n (2 ^ i)

end Sys2Proof.Machine
end

