-- ==== Sys2Proof/Machine/Map.lean ====
section
/-!
DEFINITION. Sparse data by key: a list of (key, value) pairs in one canonical form, keys strictly rising and no entry
equal to what an unlisted key reads as. The memory, the register file and every table of State are such lists.
-/

namespace Sys2Proof.Machine

/-- What key k holds; d is what an unlisted key reads as. -/
def mget {α : Type} (d : α) : List (Nat × α) → Nat → α
  | [], _ => d
  | (k', v) :: rest, k => if k' = k then v else mget d rest k

/-- The entry of key k, where one is listed. -/
def mfind {α : Type} : List (Nat × α) → Nat → Option α
  | [], _ => none
  | (k', v) :: rest, k => if k' = k then some v else mfind rest k

/-- The list without key k. -/
def merase {α : Type} : List (Nat × α) → Nat → List (Nat × α)
  | [], _ => []
  | (k', v) :: rest, k => if k' = k then merase rest k else (k', v) :: merase rest k

/-- The pair put before the first larger key. -/
def mins {α : Type} : List (Nat × α) → Nat → α → List (Nat × α)
  | [], k, v => [(k, v)]
  | (k', v') :: rest, k, v => if k < k' then (k, v) :: (k', v') :: rest else (k', v') :: mins rest k v

/-- Key k set to v, listed whatever v is (for tables where being listed means something). -/
def mset {α : Type} (m : List (Nat × α)) (k : Nat) (v : α) : List (Nat × α) := mins (merase m k) k v

/-- Key k set to v; nothing is listed for a value an unlisted key reads as. -/
def mput {α : Type} [DecidableEq α] (d : α) (m : List (Nat × α)) (k : Nat) (v : α) : List (Nat × α) :=
  if v = d then merase m k else mins (merase m k) k v

/-- Keys strictly rising. -/
def msorted {α : Type} : List (Nat × α) → Bool
  | [] => true
  | [_] => true
  | (k, _) :: (k', v') :: rest => decide (k < k') && msorted ((k', v') :: rest)

/-- The canonical form: keys strictly rising, and no entry equal to what its key would read as unlisted. -/
def mwf {α : Type} [DecidableEq α] (d : Nat → α) (m : List (Nat × α)) : Bool :=
  msorted m && m.all (fun e => decide (e.2 ≠ d e.1))


end Sys2Proof.Machine
end

