-- ==== Sys2Proof/Machine/RegTable.lean ====
section
/-!
DEFINITION. The register space: the block bases and strides of Table 2-8, the offset of every register of the spec's
register tables by its own name (an offset within the register window, R6), the access code of every field as masks
(Table 0-1), and the reset values that are not zero. GENERATED ONCE from the register tables of the spec's chapters.
-/

namespace Sys2Proof.Machine.Reg

/-- One row of a register table: offset within its block, stride and count of the instances within the block, and the
masks of its fields by access code (Table 0-1); bits in none of them are RO or reserved. -/
structure Row where
  off : Nat
  stride : Nat
  count : Nat
  rw : Nat
  w1c : Nat
  rc : Nat
deriving DecidableEq, Repr

/-! ### GL_ registers -/

def GL_PARCEL_CMD : Nat := 0x2000
def GL_PARCEL_ARG : Nat := 0x2008
def GL_PARCEL_STATUS : Nat := 0x2010
def GL_PARCEL_DROPS : Nat := 0x2018
def GL_CTX_CMD : Nat := 0x2100
def GL_CTX_STATUS : Nat := 0x2108
def GL_CTX_DROPS : Nat := 0x2110
def GL_MGMT_TAG : Nat := 0x2118
def GL_XINV_VA : Nat := 0x2200
def GL_XINV_LEN : Nat := 0x2208
def GL_XINV_STATUS : Nat := 0x2210
def GL_XINV_CMD : Nat := 0x2218
def GL_XINV_DROPS : Nat := 0x2220
def GL_TRV_MODE : Nat := 0x2300
def GL_TRV_START : Nat := 0x2308
def GL_TRV_LINES : Nat := 0x2310
def GL_TRV_CMD : Nat := 0x2318
def GL_TRV_STATUS : Nat := 0x2320
def GL_TRV_DROPS : Nat := 0x2328
def GL_TRV_SUMMARY (i : Nat) : Nat := 0x2340 + 8 * i
def GL_CPORT_CMD : Nat := 0x2500
def GL_CPORT_STATUS : Nat := 0x2508
def GL_CPORT_DROPS : Nat := 0x2510
def GL_CPORT_SWEEP : Nat := 0x2518
def GL_ATLAS_CMD : Nat := 0x2600
def GL_ATLAS_STATUS : Nat := 0x2608
def GL_ATLAS_DROPS : Nat := 0x2610
def GL_PARCEL_LOSTDIRTY (i : Nat) : Nat := 0x2700 + 8 * i
def GL_INSET_CFG : Nat := 0x2800
def GL_MEMBER_CMD : Nat := 0x2808
def GL_MEMBER_STATUS : Nat := 0x2810
def GL_MEMBER_DROPS : Nat := 0x2818
def GL_MEMBER_SWEEP : Nat := 0x2820
def GL_ORDER_CMD : Nat := 0x2900
def GL_ORDER_STATUS : Nat := 0x2908
def GL_ORDER_DROPS : Nat := 0x2910
def GL_ORDER_SEL : Nat := 0x2918
def GL_ORDER_VIEW : Nat := 0x2920
def GL_ROUTE_CMD : Nat := 0x2a00
def GL_ROUTE_STATUS : Nat := 0x2a08
def GL_ROUTE_DROPS : Nat := 0x2a10
def GL_THOIT_STATE : Nat := 0x2b00
def GL_THOIT_CFG : Nat := 0x2b08
def GL_THOIT_REPLAYS : Nat := 0x2b10
def GL_THOIT_RECEIPTS : Nat := 0x2b18
def GL_THOIT_COUNTS : Nat := 0x2b20
def GL_MOVE_CMD : Nat := 0x2c00
def GL_MOVE_ARG : Nat := 0x2c08
def GL_MOVE_STATUS : Nat := 0x2c10
def GL_MOVE_DROPS : Nat := 0x2c18
def GL_MOVE_CUT : Nat := 0x2c20
def GL_RELOC_SEL : Nat := 0x2c28
def GL_RELOC_VIEW : Nat := 0x2c30
def GL_LEND_CMD : Nat := 0x2c38
def GL_CUSTODY_CMD : Nat := 0x2d00
def GL_CUSTODY_KEY : Nat := 0x2d08
def GL_CUSTODY_GEN : Nat := 0x2d10
def GL_CUSTODY_STATUS : Nat := 0x2d18
def GL_CUSTODY_DROPS : Nat := 0x2d20
def GL_CUSTODY_VIEW (i : Nat) : Nat := 0x2d40 + 8 * i
def GL_GZ_SEL : Nat := 0x2e00
def GL_GZ_CMD : Nat := 0x2e08
def GL_GZ_STATUS : Nat := 0x2e10
def GL_GZ_DROPS : Nat := 0x2e18
def GL_GZ_DATA (i : Nat) : Nat := 0x2e40 + 8 * i
def GL_SVY_CMD : Nat := 0x3000
def GL_SVY_AT : Nat := 0x3008
def GL_SVY_STATUS : Nat := 0x3010
def GL_SVY_NEXT : Nat := 0x3018
def GL_SVY_BANK0 : Nat := 0x3020
def GL_SVY_BANK1 : Nat := 0x3028
def GL_SVY_EDGE0 : Nat := 0x3030
def GL_SVY_EDGE1 : Nat := 0x3038
def GL_SVY_DROPS : Nat := 0x3040
def GL_BENCH : Nat := 0x3048
def GL_SVY_SEL : Nat := 0x3050
def GL_SVY_DATA (i : Nat) : Nat := 0x3080 + 8 * i
def GL_EVT_HEAD : Nat := 0x3100
def GL_EVT_SEL : Nat := 0x3108
def GL_EVT_STATE : Nat := 0x3110
def GL_EVT_ENTRY (i : Nat) : Nat := 0x3180 + 8 * i
def GL_REPLACE : Nat := 0x3300
def GL_PWR_STATE : Nat := 0x3400
def GL_PWR_PEAK : Nat := 0x3408
def GL_PWR_THROTTLED : Nat := 0x3410
def GL_TEMP : Nat := 0x3418
def GL_SEC_STATE : Nat := 0x3500
def GL_SEC_CAUSES : Nat := 0x3508
def GL_SEC_TRIPS : Nat := 0x3510
def GL_SEC_SLOTS : Nat := 0x3518
def GL_SEC_ATTEST : Nat := 0x3520
def GL_JOIN_CMD : Nat := 0x2f00
def GL_JOIN_STATUS : Nat := 0x2f08
def GL_JOIN_DROPS : Nat := 0x2f10
def GL_JOIN_VIEW (i : Nat) : Nat := 0x2f40 + 8 * i
def GL_MODE_CMD : Nat := 0x2fc0
def GL_MODE_STATUS : Nat := 0x2fc8
def GL_MODE_DROPS : Nat := 0x2fd0
def GL_COMMONS_CMD : Nat := 0x2fd8
def GL_COMMONS_STATUS : Nat := 0x2fe0
def GL_COMMONS_DROPS : Nat := 0x2fe8
def GL_COMMONS_LIST (i : Nat) : Nat := 0xe0000 + 8 * i
def GL_COMMONS_KEEP (i : Nat) : Nat := 0xe0080 + 8 * i
def GL_PARCEL_TABLE (i : Nat) : Nat := 0x80000 + 8 * i
def GL_CTX_TABLE (i : Nat) : Nat := 0x40000 + 8 * i
def GL_CPORT_TABLE (i : Nat) : Nat := 0x42000 + 8 * i
def GL_MEMBER_TABLE (i : Nat) : Nat := 0x44000 + 8 * i
def GL_LEND_TABLE (i : Nat) : Nat := 0x46000 + 8 * i
def GL_BORROW_LIST (i : Nat) : Nat := 0x4a000 + 8 * i
def GL_ROUTE_TABLE (i : Nat) : Nat := 0x10000 + 8 * i
def GL_CLASS_TABLE (i : Nat) : Nat := 0xc0000 + 8 * i
def GL_EMB_TABLE (i : Nat) : Nat := 0x60000 + 8 * i
def GL_SRCH_TABLE (i : Nat) : Nat := 0xa0000 + 8 * i
def GL_PARCEL_LOST (i : Nat) : Nat := 0x2400 + 8 * i

/-! ### BS_ registers -/

def BS_REQ_MALFORMED (k : Nat) : Nat := 0x10_0000 + 0x4_0000 * k + 0x4500
def BS_TIDE_CMD (k : Nat) : Nat := 0x10_0000 + 0x4_0000 * k + 0x1000
def BS_TIDE_STATUS (k : Nat) : Nat := 0x10_0000 + 0x4_0000 * k + 0x1008
def BS_TIDE_DROPS (k : Nat) : Nat := 0x10_0000 + 0x4_0000 * k + 0x1010
def BS_CAL_COUNT (k : Nat) : Nat := 0x10_0000 + 0x4_0000 * k + 0x1018
def BS_TIDE_INFO (k i : Nat) : Nat := 0x10_0000 + 0x4_0000 * k + 0x1100 + 8 * i
def BS_TRV_STATUS (k : Nat) : Nat := 0x10_0000 + 0x4_0000 * k + 0x3000
def BS_TRV_LAST_LAP (k : Nat) : Nat := 0x10_0000 + 0x4_0000 * k + 0x3008
def BS_ATLAS_HITS (k : Nat) : Nat := 0x10_0000 + 0x4_0000 * k + 0x4000
def BS_ATLAS_FETCHES (k : Nat) : Nat := 0x10_0000 + 0x4_0000 * k + 0x4008
def BS_ATLAS_UNTRACKED (k : Nat) : Nat := 0x10_0000 + 0x4_0000 * k + 0x4010
def BS_ATLAS_RECALLS (k : Nat) : Nat := 0x10_0000 + 0x4_0000 * k + 0x4018
def BS_ATLAS_TRACKED (k : Nat) : Nat := 0x10_0000 + 0x4_0000 * k + 0x4020
def BS_ATLAS_WAYS (k : Nat) : Nat := 0x10_0000 + 0x4_0000 * k + 0x4028
def BS_ATLAS_PINSWEEP (k : Nat) : Nat := 0x10_0000 + 0x4_0000 * k + 0x4030
def BS_ATLAS_RETRIES (k : Nat) : Nat := 0x10_0000 + 0x4_0000 * k + 0x4038
def BS_ATLAS_HOLDWAIT (k : Nat) : Nat := 0x10_0000 + 0x4_0000 * k + 0x4040
def BS_RLC_HITS (k : Nat) : Nat := 0x10_0000 + 0x4_0000 * k + 0x4048
def BS_RLC_MISSES (k : Nat) : Nat := 0x10_0000 + 0x4_0000 * k + 0x4050
def BS_RLC_WRITEBACKS (k : Nat) : Nat := 0x10_0000 + 0x4_0000 * k + 0x4058
def BS_INSET_CAPTURED (k : Nat) : Nat := 0x10_0000 + 0x4_0000 * k + 0x4100
def BS_INSET_LOCAL (k : Nat) : Nat := 0x10_0000 + 0x4_0000 * k + 0x4108
def BS_INSET_FORWARDED (k : Nat) : Nat := 0x10_0000 + 0x4_0000 * k + 0x4110
def BS_INSET_RELEASES (k : Nat) : Nat := 0x10_0000 + 0x4_0000 * k + 0x4118
def BS_INSET_ENTRIES (k : Nat) : Nat := 0x10_0000 + 0x4_0000 * k + 0x4120
def BS_INSET_LOSTANS (k : Nat) : Nat := 0x10_0000 + 0x4_0000 * k + 0x4128
def BS_SEAL_WAITED (k : Nat) : Nat := 0x10_0000 + 0x4_0000 * k + 0x4200
def BS_SEAL_TIMEOUT (k : Nat) : Nat := 0x10_0000 + 0x4_0000 * k + 0x4208
def BS_ORDER_BEYOND (k : Nat) : Nat := 0x10_0000 + 0x4_0000 * k + 0x4210
def BS_ORDER_REISSUE (k : Nat) : Nat := 0x10_0000 + 0x4_0000 * k + 0x4218
def BS_ECHO_HITS (k : Nat) : Nat := 0x10_0000 + 0x4_0000 * k + 0x4300
def BS_ECHO_AGED (k : Nat) : Nat := 0x10_0000 + 0x4_0000 * k + 0x4308
def BS_ECHO_FULL (k : Nat) : Nat := 0x10_0000 + 0x4_0000 * k + 0x4310
def BS_ECHO_LIVE (k : Nat) : Nat := 0x10_0000 + 0x4_0000 * k + 0x4318
def BS_SLU_BUF (k : Nat) : Nat := 0x10_0000 + 0x4_0000 * k + 0x4400
def BS_CISTERN (k : Nat) : Nat := 0x10_0000 + 0x4_0000 * k + 0x4408
def BS_CISTERN_IO (k : Nat) : Nat := 0x10_0000 + 0x4_0000 * k + 0x4410
def BS_SLU_STALL (k : Nat) : Nat := 0x10_0000 + 0x4_0000 * k + 0x4418
def BS_SLU_INTERNAL (k : Nat) : Nat := 0x10_0000 + 0x4_0000 * k + 0x4420
def BS_TIDE_MAP (k i : Nat) : Nat := 0x10_0000 + 0x4_0000 * k + 0x20000 + 8 * i

/-! ### ST_ registers -/

def ST_CHAN_CFG (k i : Nat) : Nat := 0x20_0000 + 0x1_0000 * k + 0x100 + 8 * i
def ST_TIDE_VAR (k : Nat) : Nat := 0x20_0000 + 0x1_0000 * k + 0x200
def ST_TIDE_SWITCH_AT (k : Nat) : Nat := 0x20_0000 + 0x1_0000 * k + 0x208
def ST_CHAN_BREACH (k i : Nat) : Nat := 0x20_0000 + 0x1_0000 * k + 0x300 + 32 * i
def ST_CHAN_MERGE (k i : Nat) : Nat := 0x20_0000 + 0x1_0000 * k + 0x308 + 32 * i
def ST_CHAN_MERGE_UC (k i : Nat) : Nat := 0x20_0000 + 0x1_0000 * k + 0x310 + 32 * i
def ST_CHAN_FWAIT (k i : Nat) : Nat := 0x20_0000 + 0x1_0000 * k + 0x318 + 32 * i
def ST_CHAN_CE1 (k i : Nat) : Nat := 0x20_0000 + 0x1_0000 * k + 0x500 + 32 * i
def ST_CHAN_CE2 (k i : Nat) : Nat := 0x20_0000 + 0x1_0000 * k + 0x508 + 32 * i
def ST_CHAN_UE (k i : Nat) : Nat := 0x20_0000 + 0x1_0000 * k + 0x510 + 32 * i
def ST_CHAN_REMAP (k i : Nat) : Nat := 0x20_0000 + 0x1_0000 * k + 0x518 + 32 * i
def ST_STACK_STATE (k : Nat) : Nat := 0x20_0000 + 0x1_0000 * k + 0x800
def ST_REBUILD_TOTAL (k : Nat) : Nat := 0x20_0000 + 0x1_0000 * k + 0x808
def ST_REBUILD_DONE (k : Nat) : Nat := 0x20_0000 + 0x1_0000 * k + 0x810
def ST_SPARES (k : Nat) : Nat := 0x20_0000 + 0x1_0000 * k + 0x818
def ST_TEMP (k : Nat) : Nat := 0x20_0000 + 0x1_0000 * k + 0x820
def ST_REMAP (k i : Nat) : Nat := 0x20_0000 + 0x1_0000 * k + 0x1000 + 8 * i

/-! ### PT_ registers -/

def PT_LINK_STATE (k : Nat) : Nat := 0x30_0000 + 0x4000 * k + 0x0
def PT_LINK_CFG (k : Nat) : Nat := 0x30_0000 + 0x4000 * k + 0x8
def PT_FEC_UNCORR (k : Nat) : Nat := 0x30_0000 + 0x4000 * k + 0x10
def PT_CRC_ERR (k : Nat) : Nat := 0x30_0000 + 0x4000 * k + 0x18
def PT_REPLAYS (k : Nat) : Nat := 0x30_0000 + 0x4000 * k + 0x20
def PT_REPLAY_LOST (k : Nat) : Nat := 0x30_0000 + 0x4000 * k + 0x28
def PT_DISCARDS (k : Nat) : Nat := 0x30_0000 + 0x4000 * k + 0x30
def PT_CREDIT (k i : Nat) : Nat := 0x30_0000 + 0x4000 * k + 0x40 + 8 * i
def PT_FRAMES_TX (k : Nat) : Nat := 0x30_0000 + 0x4000 * k + 0x80
def PT_FRAMES_RX (k : Nat) : Nat := 0x30_0000 + 0x4000 * k + 0x88
def PT_LANE_FEC (k i : Nat) : Nat := 0x30_0000 + 0x4000 * k + 0x100 + 8 * i
def PT_SLU_STATE (k : Nat) : Nat := 0x30_0000 + 0x4000 * k + 0x1000
def PT_SLU_BYTES (k : Nat) : Nat := 0x30_0000 + 0x4000 * k + 0x1008
def PT_SLU_AGED (k i : Nat) : Nat := 0x30_0000 + 0x4000 * k + 0x1010 + 8 * i
def PT_SLU_NOROUTE (k : Nat) : Nat := 0x30_0000 + 0x4000 * k + 0x1040
def PT_SLU_CEILWAIT (k : Nat) : Nat := 0x30_0000 + 0x4000 * k + 0x1048
def PT_SHAPE (k i : Nat) : Nat := 0x30_0000 + 0x4000 * k + 0x2000 + 8 * i

/-! ### JT_ registers -/

def JT_STATE (k : Nat) : Nat := 0x40_0000 + 0x1_0000 * k + 0x0
def JT_TASK_SEL (k : Nat) : Nat := 0x40_0000 + 0x1_0000 * k + 0x8
def JT_TASK_VIEW (k : Nat) : Nat := 0x40_0000 + 0x1_0000 * k + 0x10
def JT_TASK_LEG (k : Nat) : Nat := 0x40_0000 + 0x1_0000 * k + 0x18
def JT_BUNDLES (k : Nat) : Nat := 0x40_0000 + 0x1_0000 * k + 0x20
def JT_LEGS (k : Nat) : Nat := 0x40_0000 + 0x1_0000 * k + 0x28
def JT_SWITCHES (k : Nat) : Nat := 0x40_0000 + 0x1_0000 * k + 0x30
def JT_SWITCH_MAX (k : Nat) : Nat := 0x40_0000 + 0x1_0000 * k + 0x38
def JT_ANCHOR_WAIT (k : Nat) : Nat := 0x40_0000 + 0x1_0000 * k + 0x40
def JT_ENDS (k : Nat) : Nat := 0x40_0000 + 0x1_0000 * k + 0x48

/-! ### TN_ registers -/

def TN_FAULT_STATUS (k : Nat) : Nat := 0x100_0000 + 0x1_0000 * k + 0x1000
def TN_FAULT_HEAD (k : Nat) : Nat := 0x100_0000 + 0x1_0000 * k + 0x1008
def TN_FAULT_TAIL (k : Nat) : Nat := 0x100_0000 + 0x1_0000 * k + 0x1010
def TN_FAULT_LOST (k : Nat) : Nat := 0x100_0000 + 0x1_0000 * k + 0x1018
def TN_FAULT_REC (k i : Nat) : Nat := 0x100_0000 + 0x1_0000 * k + 0x1400 + 8 * i
def TN_GAUGE_COUNT (k i : Nat) : Nat := 0x100_0000 + 0x1_0000 * k + 0x2000 + 8 * i
def TN_GAUGE_MODE (k i : Nat) : Nat := 0x100_0000 + 0x1_0000 * k + 0x2800 + 8 * i
def TN_QP_SQ_BASE (k i : Nat) : Nat := 0x100_0000 + 0x1_0000 * k + 0x0 + 64 * i
def TN_QP_CQ_BASE (k i : Nat) : Nat := 0x100_0000 + 0x1_0000 * k + 0x8 + 64 * i
def TN_QP_CFG (k i : Nat) : Nat := 0x100_0000 + 0x1_0000 * k + 0x10 + 64 * i
def TN_QP_CTRL (k i : Nat) : Nat := 0x100_0000 + 0x1_0000 * k + 0x18 + 64 * i
def TN_QP_SQ_TAIL (k i : Nat) : Nat := 0x100_0000 + 0x1_0000 * k + 0x20 + 64 * i
def TN_QP_SQ_HEAD (k i : Nat) : Nat := 0x100_0000 + 0x1_0000 * k + 0x28 + 64 * i
def TN_QP_CQ_HEAD (k i : Nat) : Nat := 0x100_0000 + 0x1_0000 * k + 0x30 + 64 * i
def TN_QP_CQ_TAIL (k i : Nat) : Nat := 0x100_0000 + 0x1_0000 * k + 0x38 + 64 * i
def TN_STATUS (k : Nat) : Nat := 0x100_0000 + 0x1_0000 * k + 0x1800
def TN_QP_STOPPED (k : Nat) : Nat := 0x100_0000 + 0x1_0000 * k + 0x1808
def TN_QP_CQFULL (k : Nat) : Nat := 0x100_0000 + 0x1_0000 * k + 0x1810
def TN_CNT_REFUSED (k : Nat) : Nat := 0x100_0000 + 0x1_0000 * k + 0x4000
def TN_CNT_FAILED (k : Nat) : Nat := 0x100_0000 + 0x1_0000 * k + 0x4008
def TN_CNT_RETRY (k : Nat) : Nat := 0x100_0000 + 0x1_0000 * k + 0x4010
def TN_CNT_DESC (k : Nat) : Nat := 0x100_0000 + 0x1_0000 * k + 0x4018
def TN_CNT_BYTES (k : Nat) : Nat := 0x100_0000 + 0x1_0000 * k + 0x4020
def TN_CNT_DROPS (k : Nat) : Nat := 0x100_0000 + 0x1_0000 * k + 0x4028
def TN_FENCE_CMD (k : Nat) : Nat := 0x100_0000 + 0x1_0000 * k + 0x3000
def TN_RESET_CMD (k : Nat) : Nat := 0x100_0000 + 0x1_0000 * k + 0x3008
def TN_CMD_STATUS (k : Nat) : Nat := 0x100_0000 + 0x1_0000 * k + 0x3010
def TN_CMD_DROPS (k : Nat) : Nat := 0x100_0000 + 0x1_0000 * k + 0x3018
def TN_EMB_INDICES (k : Nat) : Nat := 0x100_0000 + 0x1_0000 * k + 0x4030
def TN_EMB_READS (k : Nat) : Nat := 0x100_0000 + 0x1_0000 * k + 0x4038
def TN_EMB_DEFAULT (k : Nat) : Nat := 0x100_0000 + 0x1_0000 * k + 0x4040
def TN_EMB_ADDS (k : Nat) : Nat := 0x100_0000 + 0x1_0000 * k + 0x4048
def TN_EMB_FLAGS (k : Nat) : Nat := 0x100_0000 + 0x1_0000 * k + 0x4050
def TN_SRCH_QUERIES (k : Nat) : Nat := 0x100_0000 + 0x1_0000 * k + 0x4058
def TN_SRCH_SCORED (k : Nat) : Nat := 0x100_0000 + 0x1_0000 * k + 0x4060
def TN_SRCH_SKIPS (k : Nat) : Nat := 0x100_0000 + 0x1_0000 * k + 0x4068
def TN_SRCH_TRUNC (k : Nat) : Nat := 0x100_0000 + 0x1_0000 * k + 0x4070
def TN_HOLD (k : Nat) : Nat := 0x100_0000 + 0x1_0000 * k + 0x4078
def TN_CASCADE_MISS (k : Nat) : Nat := 0x100_0000 + 0x1_0000 * k + 0x4080

def globalRows0 : List Row := [
  ⟨0x2000, 8, 1, 0x0, 0x0, 0x0⟩,
  ⟨0x2008, 8, 1, 0x7ff3fff, 0x0, 0x0⟩,
  ⟨0x2010, 8, 1, 0x0, 0x0, 0x0⟩,
  ⟨0x2018, 8, 1, 0x0, 0x0, 0xffffffff⟩,
  ⟨0x2100, 8, 1, 0x0, 0x0, 0x0⟩,
  ⟨0x2108, 8, 1, 0x0, 0x0, 0x0⟩,
  ⟨0x2110, 8, 1, 0x0, 0x0, 0xffffffffffffffff⟩,
  ⟨0x2118, 8, 1, 0x1ffff, 0x0, 0x0⟩,
  ⟨0x2200, 8, 1, 0xffffffffffffffff, 0x0, 0x0⟩,
  ⟨0x2208, 8, 1, 0xffffffff, 0x0, 0x0⟩,
  ⟨0x2210, 8, 1, 0x0, 0x0, 0x0⟩,
  ⟨0x2218, 8, 1, 0x0, 0x0, 0x0⟩,
  ⟨0x2220, 8, 1, 0x0, 0x0, 0xffffffff⟩,
  ⟨0x2300, 8, 1, 0x1, 0x0, 0x0⟩,
  ⟨0x2308, 8, 1, 0x3fffffffff80, 0x0, 0x0⟩,
  ⟨0x2310, 8, 1, 0x7ffffffff, 0x0, 0x0⟩,
  ⟨0x2318, 8, 1, 0x0, 0x0, 0x0⟩,
  ⟨0x2320, 8, 1, 0x0, 0x0, 0x0⟩,
  ⟨0x2328, 8, 1, 0x0, 0x0, 0xffffffff⟩,
  ⟨0x2340, 8, 8, 0x0, 0x0, 0x0⟩,
  ⟨0x2500, 8, 1, 0x0, 0x0, 0x0⟩,
  ⟨0x2508, 8, 1, 0x0, 0x0, 0x0⟩,
  ⟨0x2510, 8, 1, 0x0, 0x0, 0xffffffff⟩,
  ⟨0x2518, 8, 1, 0x0, 0x0, 0x0⟩
]
def globalRows1 : List Row := [
  ⟨0x2600, 8, 1, 0x0, 0x0, 0x0⟩,
  ⟨0x2608, 8, 1, 0x0, 0x0, 0x0⟩,
  ⟨0x2610, 8, 1, 0x0, 0x0, 0xffffffff⟩,
  ⟨0x2700, 8, 32, 0x0, 0x0, 0x0⟩,
  ⟨0x2800, 8, 1, 0x7, 0x0, 0x0⟩,
  ⟨0x2808, 8, 1, 0x0, 0x0, 0x0⟩,
  ⟨0x2810, 8, 1, 0x0, 0x0, 0x0⟩,
  ⟨0x2818, 8, 1, 0x0, 0x0, 0xffffffffffffffff⟩,
  ⟨0x2820, 8, 1, 0x0, 0x0, 0x0⟩,
  ⟨0x2900, 8, 1, 0x0, 0x0, 0x0⟩,
  ⟨0x2908, 8, 1, 0x0, 0x0, 0x0⟩,
  ⟨0x2910, 8, 1, 0x0, 0x0, 0xffffffff⟩,
  ⟨0x2918, 8, 1, 0x7fff, 0x0, 0x0⟩,
  ⟨0x2920, 8, 1, 0x0, 0x0, 0x0⟩,
  ⟨0x2a00, 8, 1, 0x0, 0x0, 0x0⟩,
  ⟨0x2a08, 8, 1, 0x0, 0x0, 0x0⟩,
  ⟨0x2a10, 8, 1, 0x0, 0x0, 0xffffffff⟩,
  ⟨0x2b00, 8, 1, 0x0, 0x0, 0x0⟩,
  ⟨0x2b08, 8, 1, 0x1, 0x0, 0x0⟩,
  ⟨0x2b10, 8, 1, 0x0, 0x0, 0x0⟩,
  ⟨0x2b18, 8, 1, 0x0, 0x0, 0x0⟩,
  ⟨0x2b20, 8, 1, 0x0, 0x0, 0x0⟩,
  ⟨0x2c00, 8, 1, 0x0, 0x0, 0x0⟩,
  ⟨0x2c08, 8, 1, 0xffffffff3fff, 0x0, 0x0⟩
]
def globalRows2 : List Row := [
  ⟨0x2c10, 8, 1, 0x0, 0x0, 0x0⟩,
  ⟨0x2c18, 8, 1, 0x0, 0x0, 0xffffffff⟩,
  ⟨0x2c20, 8, 1, 0x0, 0x0, 0xffffffff⟩,
  ⟨0x2c28, 8, 1, 0xffff, 0x0, 0x0⟩,
  ⟨0x2c30, 8, 1, 0x0, 0x0, 0x0⟩,
  ⟨0x2c38, 8, 1, 0x0, 0x0, 0x0⟩,
  ⟨0x2d00, 8, 1, 0x0, 0x0, 0x0⟩,
  ⟨0x2d08, 8, 1, 0xffffffffffffffff, 0x0, 0x0⟩,
  ⟨0x2d10, 8, 1, 0xffffffff, 0x0, 0x0⟩,
  ⟨0x2d18, 8, 1, 0x0, 0x0, 0x0⟩,
  ⟨0x2d20, 8, 1, 0x0, 0x0, 0xffffffff⟩,
  ⟨0x2d40, 8, 8, 0x0, 0x0, 0x0⟩,
  ⟨0x2e00, 8, 1, 0xffffffffffff, 0x0, 0x0⟩,
  ⟨0x2e08, 8, 1, 0x0, 0x0, 0x0⟩,
  ⟨0x2e10, 8, 1, 0x0, 0x0, 0x0⟩,
  ⟨0x2e18, 8, 1, 0x0, 0x0, 0xffffffff⟩,
  ⟨0x2e40, 8, 6, 0xffffffffffffffff, 0x0, 0x0⟩,
  ⟨0x3000, 8, 1, 0x0, 0x0, 0x0⟩,
  ⟨0x3008, 8, 1, 0xffffffffffffffff, 0x0, 0x0⟩,
  ⟨0x3010, 8, 1, 0x0, 0x0, 0x0⟩,
  ⟨0x3018, 8, 1, 0x0, 0x0, 0x0⟩,
  ⟨0x3020, 8, 1, 0x0, 0x0, 0x0⟩,
  ⟨0x3028, 8, 1, 0x0, 0x0, 0x0⟩,
  ⟨0x3030, 8, 1, 0x0, 0x0, 0x0⟩
]
def globalRows3 : List Row := [
  ⟨0x3038, 8, 1, 0x0, 0x0, 0x0⟩,
  ⟨0x3040, 8, 1, 0x0, 0x0, 0xffffffff⟩,
  ⟨0x3048, 8, 1, 0x0, 0x0, 0x0⟩,
  ⟨0x3050, 8, 1, 0x1fffffcf, 0x0, 0x0⟩,
  ⟨0x3080, 8, 16, 0x0, 0x0, 0x0⟩,
  ⟨0x3100, 8, 1, 0x0, 0x0, 0x0⟩,
  ⟨0x3108, 8, 1, 0xffffffffffffffff, 0x0, 0x0⟩,
  ⟨0x3110, 8, 1, 0x0, 0x0, 0x0⟩,
  ⟨0x3180, 8, 32, 0x0, 0x0, 0x0⟩,
  ⟨0x3300, 8, 1, 0x0, 0x0, 0x0⟩,
  ⟨0x3400, 8, 1, 0x0, 0x0, 0x0⟩,
  ⟨0x3408, 8, 1, 0x0, 0x0, 0xffff⟩,
  ⟨0x3410, 8, 1, 0x0, 0x0, 0x0⟩,
  ⟨0x3418, 8, 1, 0x0, 0x0, 0x0⟩,
  ⟨0x3500, 8, 1, 0x0, 0x0, 0x0⟩,
  ⟨0x3508, 8, 1, 0x0, 0x0, 0x0⟩,
  ⟨0x3510, 8, 1, 0x0, 0x0, 0x0⟩,
  ⟨0x3518, 8, 1, 0x0, 0x0, 0x0⟩,
  ⟨0x3520, 8, 1, 0x0, 0x0, 0x0⟩,
  ⟨0x2f00, 8, 1, 0x0, 0x0, 0x0⟩,
  ⟨0x2f08, 8, 1, 0x0, 0x0, 0x0⟩,
  ⟨0x2f10, 8, 1, 0x0, 0x0, 0xffffffff⟩,
  ⟨0x2f40, 8, 16, 0x0, 0x0, 0x0⟩,
  ⟨0x2fc0, 8, 1, 0x0, 0x0, 0x0⟩
]
def globalRows4 : List Row := [
  ⟨0x2fc8, 8, 1, 0x0, 0x0, 0x0⟩,
  ⟨0x2fd0, 8, 1, 0x0, 0x0, 0xffffffff⟩,
  ⟨0x2fd8, 8, 1, 0x0, 0x0, 0x0⟩,
  ⟨0x2fe0, 8, 1, 0x0, 0x0, 0x0⟩,
  ⟨0x2fe8, 8, 1, 0x0, 0x0, 0xffffffff⟩,
  ⟨0xe0000, 8, 16, 0xffffffffffffffff, 0x0, 0x0⟩,
  ⟨0xe0080, 8, 2048, 0x0, 0x0, 0x0⟩,
  ⟨0x80000, 8, 4096, 0x0, 0x0, 0x0⟩,
  ⟨0x40000, 8, 1024, 0x0, 0x0, 0x0⟩,
  ⟨0x42000, 8, 1024, 0x0, 0x0, 0x0⟩,
  ⟨0x44000, 8, 1024, 0x0, 0x0, 0x0⟩,
  ⟨0x46000, 8, 2048, 0x0, 0x0, 0x0⟩,
  ⟨0x4a000, 8, 256, 0x0, 0x0, 0x0⟩,
  ⟨0x10000, 8, 16384, 0x0, 0x0, 0x0⟩,
  ⟨0xc0000, 8, 16384, 0x7ff07ff07ff07ff, 0x0, 0x0⟩,
  ⟨0x60000, 8, 16384, 0x0, 0x0, 0x0⟩,
  ⟨0xa0000, 8, 8192, 0x0, 0x0, 0x0⟩,
  ⟨0x2400, 8, 32, 0x0, 0x0, 0x0⟩
]
/-- The registers of a global block. -/
def globalRows : List Row := globalRows0 ++ globalRows1 ++ globalRows2 ++ globalRows3 ++ globalRows4

def basinRows0 : List Row := [
  ⟨0x4500, 8, 1, 0x0, 0x0, 0x0⟩,
  ⟨0x1000, 8, 1, 0x0, 0x0, 0x0⟩,
  ⟨0x1008, 8, 1, 0x0, 0x0, 0x0⟩,
  ⟨0x1010, 8, 1, 0x0, 0x0, 0xffffffff⟩,
  ⟨0x1018, 8, 1, 0x0, 0x0, 0x0⟩,
  ⟨0x1100, 8, 8, 0x0, 0x0, 0x0⟩,
  ⟨0x3000, 8, 1, 0x0, 0x0, 0x0⟩,
  ⟨0x3008, 8, 1, 0x0, 0x0, 0x0⟩,
  ⟨0x4000, 8, 1, 0x0, 0x0, 0x0⟩,
  ⟨0x4008, 8, 1, 0x0, 0x0, 0x0⟩,
  ⟨0x4010, 8, 1, 0x0, 0x0, 0x0⟩,
  ⟨0x4018, 8, 1, 0x0, 0x0, 0x0⟩,
  ⟨0x4020, 8, 1, 0x0, 0x0, 0x0⟩,
  ⟨0x4028, 8, 1, 0x0, 0x0, 0x0⟩,
  ⟨0x4030, 8, 1, 0x0, 0x0, 0x0⟩,
  ⟨0x4038, 8, 1, 0x0, 0x0, 0x0⟩,
  ⟨0x4040, 8, 1, 0x0, 0x0, 0xffffffff⟩,
  ⟨0x4048, 8, 1, 0x0, 0x0, 0x0⟩,
  ⟨0x4050, 8, 1, 0x0, 0x0, 0x0⟩,
  ⟨0x4058, 8, 1, 0x0, 0x0, 0x0⟩,
  ⟨0x4100, 8, 1, 0x0, 0x0, 0x0⟩,
  ⟨0x4108, 8, 1, 0x0, 0x0, 0x0⟩,
  ⟨0x4110, 8, 1, 0x0, 0x0, 0x0⟩,
  ⟨0x4118, 8, 1, 0x0, 0x0, 0x0⟩
]
def basinRows1 : List Row := [
  ⟨0x4120, 8, 1, 0x0, 0x0, 0x0⟩,
  ⟨0x4128, 8, 1, 0x0, 0x0, 0x0⟩,
  ⟨0x4200, 8, 1, 0x0, 0x0, 0x0⟩,
  ⟨0x4208, 8, 1, 0x0, 0x0, 0x0⟩,
  ⟨0x4210, 8, 1, 0x0, 0x0, 0x0⟩,
  ⟨0x4218, 8, 1, 0x0, 0x0, 0x0⟩,
  ⟨0x4300, 8, 1, 0x0, 0x0, 0x0⟩,
  ⟨0x4308, 8, 1, 0x0, 0x0, 0x0⟩,
  ⟨0x4310, 8, 1, 0x0, 0x0, 0x0⟩,
  ⟨0x4318, 8, 1, 0x0, 0x0, 0x0⟩,
  ⟨0x4400, 8, 1, 0x0, 0x0, 0xffff0000⟩,
  ⟨0x4408, 8, 1, 0x0, 0x0, 0x0⟩,
  ⟨0x4410, 8, 1, 0x0, 0x0, 0x0⟩,
  ⟨0x4418, 8, 1, 0x0, 0x0, 0x0⟩,
  ⟨0x4420, 8, 1, 0x0, 0x0, 0x0⟩,
  ⟨0x20000, 8, 8192, 0xffffffffffffffff, 0x0, 0x0⟩
]
/-- The registers of a basin block. -/
def basinRows : List Row := basinRows0 ++ basinRows1

def stackRows0 : List Row := [
  ⟨0x100, 8, 16, 0xf, 0x0, 0x0⟩,
  ⟨0x200, 8, 1, 0x8, 0x0, 0x0⟩,
  ⟨0x208, 8, 1, 0x0, 0x0, 0x0⟩,
  ⟨0x300, 32, 16, 0x0, 0x0, 0x0⟩,
  ⟨0x308, 32, 16, 0x0, 0x0, 0x0⟩,
  ⟨0x310, 32, 16, 0x0, 0x0, 0x0⟩,
  ⟨0x318, 32, 16, 0x0, 0x0, 0x1fff⟩,
  ⟨0x500, 32, 16, 0x0, 0x0, 0x0⟩,
  ⟨0x508, 32, 16, 0x0, 0x0, 0x0⟩,
  ⟨0x510, 32, 16, 0x0, 0x0, 0x0⟩,
  ⟨0x518, 32, 16, 0x0, 0x0, 0x0⟩,
  ⟨0x800, 8, 1, 0x0, 0x0, 0x0⟩,
  ⟨0x808, 8, 1, 0x0, 0x0, 0x0⟩,
  ⟨0x810, 8, 1, 0x0, 0x0, 0x0⟩,
  ⟨0x818, 8, 1, 0x0, 0x0, 0x0⟩,
  ⟨0x820, 8, 1, 0x0, 0x0, 0xff00⟩,
  ⟨0x1000, 8, 256, 0x0, 0x0, 0x0⟩
]
/-- The registers of a stack block. -/
def stackRows : List Row := stackRows0

def portRows0 : List Row := [
  ⟨0x0, 8, 1, 0x0, 0x0, 0x0⟩,
  ⟨0x8, 8, 1, 0x3, 0x0, 0x0⟩,
  ⟨0x10, 8, 1, 0x0, 0x0, 0x0⟩,
  ⟨0x18, 8, 1, 0x0, 0x0, 0x0⟩,
  ⟨0x20, 8, 1, 0x0, 0x0, 0x0⟩,
  ⟨0x28, 8, 1, 0x0, 0x0, 0x0⟩,
  ⟨0x30, 8, 1, 0x0, 0x0, 0x0⟩,
  ⟨0x40, 8, 8, 0x0, 0x0, 0x0⟩,
  ⟨0x80, 8, 1, 0x0, 0x0, 0x0⟩,
  ⟨0x88, 8, 1, 0x0, 0x0, 0x0⟩,
  ⟨0x100, 8, 9, 0x0, 0x0, 0x0⟩,
  ⟨0x1000, 8, 1, 0x0, 0x0, 0x0⟩,
  ⟨0x1008, 8, 1, 0x0, 0x0, 0x0⟩,
  ⟨0x1010, 8, 6, 0x0, 0x0, 0x0⟩,
  ⟨0x1040, 8, 1, 0x0, 0x0, 0x0⟩,
  ⟨0x1048, 8, 1, 0x0, 0x0, 0x0⟩,
  ⟨0x2000, 8, 1024, 0xffffffff, 0x0, 0x0⟩
]
/-- The registers of a port block. -/
def portRows : List Row := portRows0

def jetRows0 : List Row := [
  ⟨0x0, 8, 1, 0x0, 0x0, 0x0⟩,
  ⟨0x8, 8, 1, 0x1f, 0x0, 0x0⟩,
  ⟨0x10, 8, 1, 0x0, 0x0, 0x0⟩,
  ⟨0x18, 8, 1, 0x0, 0x0, 0x0⟩,
  ⟨0x20, 8, 1, 0x0, 0x0, 0x0⟩,
  ⟨0x28, 8, 1, 0x0, 0x0, 0x0⟩,
  ⟨0x30, 8, 1, 0x0, 0x0, 0x0⟩,
  ⟨0x38, 8, 1, 0x0, 0x0, 0xffffffff⟩,
  ⟨0x40, 8, 1, 0x0, 0x0, 0x1fff⟩,
  ⟨0x48, 8, 1, 0x0, 0x0, 0x0⟩
]
/-- The registers of a jet block. -/
def jetRows : List Row := jetRows0

def tenantRows0 : List Row := [
  ⟨0x1000, 8, 1, 0x0, 0x3, 0x0⟩,
  ⟨0x1008, 8, 1, 0x0, 0x0, 0x0⟩,
  ⟨0x1010, 8, 1, 0x1f, 0x0, 0x0⟩,
  ⟨0x1018, 8, 1, 0x0, 0x0, 0x0⟩,
  ⟨0x1400, 8, 128, 0x0, 0x0, 0x0⟩,
  ⟨0x2000, 8, 256, 0xffffffffffffffff, 0x0, 0x0⟩,
  ⟨0x2800, 8, 4, 0xffffffffffffffff, 0x0, 0x0⟩,
  ⟨0x0, 64, 64, 0x3ffffffff000, 0x0, 0x0⟩,
  ⟨0x8, 64, 64, 0x3ffffffff000, 0x0, 0x0⟩,
  ⟨0x10, 64, 64, 0xf1f1fffff, 0x0, 0x0⟩,
  ⟨0x18, 64, 64, 0x1, 0x0, 0x0⟩,
  ⟨0x20, 64, 64, 0xffff, 0x0, 0x0⟩,
  ⟨0x28, 64, 64, 0x0, 0x0, 0x0⟩,
  ⟨0x30, 64, 64, 0xffff, 0x0, 0x0⟩,
  ⟨0x38, 64, 64, 0x0, 0x0, 0x0⟩,
  ⟨0x1800, 8, 1, 0x0, 0x0, 0x0⟩,
  ⟨0x1808, 8, 1, 0x0, 0x0, 0x0⟩,
  ⟨0x1810, 8, 1, 0x0, 0x0, 0x0⟩,
  ⟨0x4000, 8, 1, 0x0, 0x0, 0x0⟩,
  ⟨0x4008, 8, 1, 0x0, 0x0, 0x0⟩,
  ⟨0x4010, 8, 1, 0x0, 0x0, 0x0⟩,
  ⟨0x4018, 8, 1, 0x0, 0x0, 0x0⟩,
  ⟨0x4020, 8, 1, 0x0, 0x0, 0x0⟩,
  ⟨0x4028, 8, 1, 0x0, 0x0, 0x0⟩
]
def tenantRows1 : List Row := [
  ⟨0x3000, 8, 1, 0x0, 0x0, 0x0⟩,
  ⟨0x3008, 8, 1, 0x0, 0x0, 0x0⟩,
  ⟨0x3010, 8, 1, 0x0, 0x0, 0x0⟩,
  ⟨0x3018, 8, 1, 0x0, 0x0, 0xffffffff⟩,
  ⟨0x4030, 8, 1, 0x0, 0x0, 0x0⟩,
  ⟨0x4038, 8, 1, 0x0, 0x0, 0x0⟩,
  ⟨0x4040, 8, 1, 0x0, 0x0, 0x0⟩,
  ⟨0x4048, 8, 1, 0x0, 0x0, 0x0⟩,
  ⟨0x4050, 8, 1, 0x0, 0x0, 0x0⟩,
  ⟨0x4058, 8, 1, 0x0, 0x0, 0x0⟩,
  ⟨0x4060, 8, 1, 0x0, 0x0, 0x0⟩,
  ⟨0x4068, 8, 1, 0x0, 0x0, 0x0⟩,
  ⟨0x4070, 8, 1, 0x0, 0x0, 0x0⟩,
  ⟨0x4078, 8, 1, 0x0, 0x0, 0x0⟩,
  ⟨0x4080, 8, 1, 0x0, 0x0, 0x0⟩
]
/-- The registers of a tenant block. -/
def tenantRows : List Row := tenantRows0 ++ tenantRows1

/-- The rows of the block an offset of the register window lies in, and the offset within the block (Table 2-8);
no rows in the reserved ranges between blocks (R9). -/
def blockOf (off : Nat) : List Row × Nat :=
  if off < 0x10_0000 then (globalRows, off)
  else if off < 0x20_0000 then (basinRows, (off - 0x10_0000) % 0x4_0000)
  else if off < 0x2C_0000 then (stackRows, (off - 0x20_0000) % 0x1_0000)
  else if off < 0x30_0000 then ([], 0)
  else if off < 0x3C_0000 then (portRows, (off - 0x30_0000) % 0x4000)
  else if off < 0x40_0000 then ([], 0)
  else if off < 0xA8_0000 then (jetRows, (off - 0x40_0000) % 0x1_0000)
  else if off < 0x100_0000 then ([], 0)
  else if off < 0x500_0000 then (tenantRows, (off - 0x100_0000) % 0x1_0000)
  else ([], 0)

/-- A row holds the register at offset o within its block. -/
def Row.has (r : Row) (o : Nat) : Bool :=
  decide (r.off ≤ o) && decide (o < r.off + r.stride * r.count) && (o - r.off) % r.stride == 0

/-- The row of the register at an offset of the register window; none at a reserved register offset (R9). -/
def rowOf (off : Nat) : Option Row :=
  if off % 8 = 0 then (blockOf off).1.find? (fun r => r.has (blockOf off).2) else none

/-- The reset value of the register at an offset of the register window (R7, R9: zero but for the registers whose
table states another value). A tide-map entry, for which the spec states none, is 0 too: DESIGN CHOICE (notes assumption 67). -/
def resetNat (off : Nat) : Nat :=
  if off < 0x10_0000 then (if off = 0x2B08 then 1 else 0)
  else if off < 0x20_0000 then (if (off - 0x10_0000) % 0x4_0000 = 0x4400 then 0x7CC0_7CC0 else 0)
  else if off < 0x2C_0000 then
    (let o := (off - 0x20_0000) % 0x1_0000; if 0x100 ≤ o ∧ o < 0x180 ∧ o % 8 = 0 then 0x88 else 0)
  else if off < 0x30_0000 then 0
  else if off < 0x3C_0000 then
    (let o := (off - 0x30_0000) % 0x4000
     if o = 8 then 3 else if 0x2000 ≤ o ∧ o % 8 = 0 then 0xFFFF_0000 else 0)
  else if off < 0x100_0000 then 0
  else if off < 0x500_0000 then
    (let o := (off - 0x100_0000) % 0x1_0000; if o < 0x1000 ∧ o % 64 = 0x10 then 0x8_0404_0000 else 0)
  else 0

/-- The reset value of a register. -/
def reset (off : Nat) : Word := BitVec.ofNat 64 (resetNat off)

end Sys2Proof.Machine.Reg
end

