-- ==== Sys2Proof/Machine/State.lean ====
section
/-!
DEFINITION. The state of the Golik as plain data: every register the spec's tables list (one sparse register file), the
memory behind the memory window, and everything the chapters give the machine beside its registers: atlas, order and
echo records, channels, ports, sluice, Thoit link, translation caches, queue pairs, jets, tables, indexes, custody
records, the event log, the security and start-up state. Sparse tables are lists in the canonical form of Map.lean.
Lines are named by line number (device-local offset bits [45:7]), times are nanoseconds since power-on reset (notes
assumption 2), and units are named by number.
-/

namespace Sys2Proof.Machine

/-! ### Requests and their issuers -/

/-- An issuer inside the Golik (R210): the task in a record of a jet, a descriptor of a queue pair, a piece move, a line of
a die's remote-line cache by its key (R179). -/
inductive Eng where
  | jet (j record : Nat)
  | qp (t q index : Nat)
  | move (parcel piece : Nat)
  | rlc (die key : Nat)
deriving DecidableEq, Repr

/-- Where a request entered the Golik, and where its answer goes (R31). -/
inductive Origin where
  | port (p : Nat)
  | group (g : Nat)
  | eng (e : Eng)
deriving DecidableEq, Repr

/-- What an own request to another home is for: an issuer inside, an inset entry (R193), a line's transaction here (R411,
R424), the copy of a moved piece (R418), the clearing of a borrowed piece (R421). -/
inductive Purpose where
  | eng (e : Eng)
  | inset (key : Nat)
  | forward (line : Nat)
  | moveCopy (parcel piece : Nat)
  | zero (borrow piece : Nat)
deriving DecidableEq, Repr

/-! ### Coherence (chapter 6) -/

/-- Atlas line states (Table 6-5); an untracked line is invalid. -/
inductive AState where
  | invalid | shared | exclusive | owned | lost
deriving DecidableEq, Repr

/-- The three probes (R159), in the order of Table 6-6. -/
inductive ProbeKind where
  | inv | share | fetch
deriving DecidableEq, Repr

/-- A GrantAck awaited from a port: the request numbers it may carry, the type of the request granted and the granted
state, plus 4 where the grant was dataless (R167), the data granted where the array need not hold it, since when, and whether event 0x3103 has named it (R169); SEQ and CTX of an upstream grant whose GrantAck this one
releases (R200). -/
structure Awaited where
  port : Nat
  seqs : List Nat
  typ : Nat
  granted : Nat
  data : Option Line := none
  since : Nat
  reported : Bool := false
  upAck : Option (BitVec 24 × BitVec 16) := none
deriving DecidableEq, Repr

/-- A probe sent and not yet answered (R159, R258). -/
structure ProbeOut where
  port : Nat
  id : Nat
  kind : ProbeKind
  since : Nat
  reported : Bool := false
deriving DecidableEq, Repr

/-- An atlas entry: the store entry of Table 6-9, its way of the store set (R171), and what the cache entry adds (R172). Inset entries
carry UP of Table 7-3: 0 I, 1 S, 2 X, 3 O. walked marks a line made LOST by the walk that runs (R183, R206). -/
structure Entry where
  state : AState := .invalid
  vector : BitVec 1024 := 0
  owner : Nat := 0
  ownerTag : BitVec 16 := 0
  stamp : Nat := 0
  holdEnd : Nat := 0
  awaited : List Awaited := []
  up : Nat := 0
  walked : Bool := false
  way : Nat := 0
deriving DecidableEq, Repr

/-- Why a line is recalled: a victim of a full store set (R174), CLEAR of a port (R156), a withdrawn right (R51),
RELEASE (R52), an engine pin (R176), a cut-over of a moved piece (R418), an owner that dropped its modified copy
(Table 6-7), the walk of LOSE (Table 6-10). -/
inductive RecallWhy where
  | victim | cport | rights | rightsShare | release | pin | cut | lose
deriving DecidableEq, Repr

/-- What a line's transaction is: a request past the check, with where it entered, the tenant slot its tag mapped to,
and its R218 class, or a recall. -/
inductive Work where
  | req (f : Frame) (o : Origin) (tenant : Nat) (behind : Bool)
  | recall (w : RecallWhy)
deriving DecidableEq, Repr

/-- How far a transaction has come. -/
inductive Phase where
  | start      -- waits for its turn, the hold window, a GrantAck or a way (R163, R168, R172, R174)
  | store      -- waits for its store set to be read (R173, R176)
  | seal       -- a seal store waits for its series (R220)
  | probe      -- waits for probe answers
  | dirty      -- a holder's dirty data is being written
  | old        -- stage 1 of a guarded write (R134)
  | fetch      -- the array is being read for the answer
  | write      -- the write waits for its F slot
  | close      -- waits for the line's merge-buffer entry to close (R118)
  | rmwRead    -- the atomic's read
  | rmwWrite   -- the atomic's write
  | up         -- waits for the piece's present place or tier T1 or T2 backing
deriving DecidableEq, Repr

/-- A transaction on a line: what it is and how far it is; since when it waits; the probes not yet answered; the data it
has, from its owner's answer or the array, and the owner's PRIOR; a lost-dirty answer (R202, R557), and whether the holders left were then
invalidated (R183); the old line of an atomic; whether it came while its piece
was being cut over (R418); whether the atlas cache has been asked; whether dirty data has been written; whether its
source's order record has been reset since it was classed (R224); whether its tag's fence was being drained when it came (R327); whether the parcel's rights held WR as it was
checked (R51). At an inset: its upstream request (0 none, 1 sent,
2 granted), the state and data granted, SEQ and CTX of the grant (R198, R200). -/
structure Txn where
  work : Work
  phase : Phase := .start
  since : Nat := 0
  probes : List ProbeOut := []
  data : Option Line := none
  prior : Option Nat := none
  lostDirty : Bool := false
  swept : Bool := false
  old : Line := 0
  late : Bool := false
  looked : Bool := false
  dirtyDone : Bool := false
  oldSeries : Bool := false
  fenced : Bool := false
  writes : Bool := false
  up : Nat := 0
  upGrant : Nat := 0
  upData : Option Line := none
  upAck : Option (BitVec 24 × BitVec 16) := none
deriving DecidableEq, Repr

/-- An upstream probe at the inset (R201, R203): its frame, whether its downstream probes have been sent, those not
answered, and what was answered: the owner's PRIOR and data, whether a probe to invalidate the group follows. -/
structure UProbe where
  key : Nat
  f : Frame
  started : Bool := false
  probes : List ProbeOut := []
  prior : Option Nat := none
  data : Option Line := none
  dirty : Bool := false
  lost : Bool := false
  swept : Bool := false
deriving DecidableEq, Repr

/-! ### Ordering (chapters 8 and 9) -/

/-- An order record (R218): OT, and the RETIRED map, bit i for number OT + 1 + i. -/
structure OrderRec where
  ot : BitVec 24 := 0xFFFFFF
  retired : BitVec 256 := 0
deriving DecidableEq, Repr

/-- An echo record (R264): pending until its atomic completes; the frames that wait on it (R265); dropped marks a
pending record that an order reset has dropped (R267). -/
structure Echo where
  pending : Bool := true
  status : BitVec 8 := 0
  old : BitVec 128 := 0
  until_ : Nat := 0
  waiters : List (Frame × Origin) := []
deriving DecidableEq, Repr

/-- An own request without its final answer (R255, R261): its frame, the die that sends it, what it is for, the virtual
address of its access, when it was last sent and how often again, when it is sent again after RETRY, an answer held
until an earlier request of its engine to its line is answered (R214), and what was first asked, where a REDIRECT has been
followed (R423). -/
structure OutReq where
  f : Frame
  die : Nat
  purpose : Purpose
  va : Nat := 0
  sentAt : Nat
  tries : Nat := 0
  retryAt : Option Nat := none
  held : Option Frame := none
  orig : Option Frame := none
deriving DecidableEq, Repr

/-- The answer kept for an issuer inside the Golik until its command takes it; settled once it has been matched to its
request. -/
structure EngAns where
  eng : Eng
  f : Frame
  va : Nat := 0
  settled : Bool := false
deriving DecidableEq, Repr

/-! ### Channels (chapters 4 and 5) -/

/-- What an access of the array is for: a request's own read and writes; the closing read and write of a merge entry (R119); the
write-back of a reconstructed line (R126); the copy of an E read (R110); a traverse or range-pass read (R140); a read of a
stripe's position by a reconstruction step (R133); the read and write of a parity line (R134); a read of a line of a store set, and the
post of a changed atlas entry (R172, R173). -/
inductive FUse where
  | fetch | old | write | dirty | rmwRead | rmwWrite
  | mergeRead | mergeWrite | repair | ecopy | scrub | pass
  | stripe | parityRead | parityWrite
  | storeRead | storePost
  | copyRead | copyWrite
deriving DecidableEq, Repr

/-- A request in a channel's F queue or at its ingress (R111, R112). -/
structure FReq where
  line : Nat
  use : FUse
  wr : Bool := false
  data : Line := 0
  mask : Mask := 0
  bank : Nat := 0
  at_ : Nat := 0
  tag : BitVec 16 := 0
deriving DecidableEq, Repr

/-- An E access bound to a slot, with its virtual address (R89, R107, R108). -/
structure EBound where
  jet : Nat
  record : Nat
  line : Nat
  wr : Bool
  reg : Nat
  data : Line
  mask : Mask
  tag : BitVec 16 := 0
  va : Nat := 0
deriving DecidableEq, Repr

/-- A merge-buffer entry (R116, R119): open since a slot number; reading once its close has begun; closing from the issue of
its closing read; the tag of the last write merged (R152); words the closing read found uncorrectable (R121). -/
structure MEntry where
  line : Nat
  data : Line := 0
  mask : Mask := 0
  opened : Nat := 0
  closing : Bool := false
  reading : Bool := false
  tag : BitVec 16 := 0
  ue : BitVec 16 := 0
deriving DecidableEq, Repr

/-- A read in flight from the array (R32, R107): a queued F read, or an E read of a jet; the slot its line returns at; the words
a write has covered since its issue (R124). -/
structure Flight where
  due : Nat
  f : FReq
  e : Option EBound := none
  covered : BitVec 16 := 0
deriving DecidableEq, Repr

/-- What the array has done for a request and the running command has still to act on: a queued access issued, a queued
read back with its data and uncorrectable words, an E access back or refused with a fault kind of Table 4-6, an access
to backing outside tier T0 that failed (R413); and a request to be taken through the check afresh (R265). -/
inductive Act where
  | issued (r : FReq)
  | returned (r : FReq) (data : Line) (ue : BitVec 16)
  | eread (b : EBound) (data : Line) (ue : BitVec 16)
  | erefused (b : EBound) (kind : Nat)
  | again (f : Frame) (o : Origin)
  | failed (r : FReq) (status : Nat)
deriving DecidableEq, Repr

/-- A correction write (R124): the corrected words of a line not yet covered by a write, as the read returned them. -/
structure Correction where
  line : Nat
  words : BitVec 16
  data : Line := 0
deriving DecidableEq, Repr

/-- A channel: its position in the calendar and the slots it has passed, its queues (inner: accesses of the Golik's own that wait
for admission ahead of the ingress, R112), busy banks (bank, first free slot), merge buffer, reads in flight and E accesses bound, correction writes, reads that wait for a reconstruction,
requests that wait for their line to be rebuilt (R149); whole calendars counted towards sleep, and whether the calendar that
runs does not count: an access issued in it, or the channel started or woke in it (R106); whether it wakes and has woken;
the maps MAP was written to since the last boundary (R103); C slots unanswered in a row; traverse lines read in this lap; one-bit
corrections of margin words on consecutive laps, by 16 line + word (R138); lines of CLEARING parcels passed, by parcel (R52, R112). -/
structure Chan where
  pos : Nat := 0
  slots : Nat := 0
  fq : List FReq := []
  ingress : List FReq := []
  inner : List FReq := []
  busy : List (Nat × Nat) := []
  merge : List MEntry := []
  flight : List Flight := []
  bound : List (Nat × EBound) := []
  corr : List Correction := []
  recon : List FReq := []
  remake : List FReq := []
  idleCals : Nat := 0
  used : Bool := true
  waking : Bool := false
  woken : Bool := false
  mapWrites : List Nat := []
  cMissed : Nat := 0
  trv : Nat := 0
  ones : List (Nat × Nat) := []
  cleared : List (Nat × Nat) := []
deriving DecidableEq, Repr

/-- A parity update a guarded write owes its stripe's parity line: the line, the difference old XOR new, and whether it has
reached the parity line's die (R134). -/
structure ParityUpdate where
  line : Nat
  diff : Line
  arrived : Bool := false
deriving DecidableEq, Repr

/-- A reconstruction step (R133): the line, whether its first read has been queued, the reads of its stripe's other positions still
to return, whether one of them is lost too, and whether its result is being written. -/
structure RStep where
  line : Nat
  begun : Bool := false
  left : Nat := 0
  lost : Bool := false
  writing : Bool := false
deriving DecidableEq, Repr

/-- What a stack adds to its registers: when uncorrectable words were read (R145), the condition for H with its
hysteresis (R489), slot uses of the rebuild towards its next line, lines remade on demand while it rebuilds (R149), the repair
records of its fuse map, newest first (R135). -/
structure Stack where
  ueTimes : List Nat := []
  hot : Bool := false
  uses : Nat := 0
  remade : List Nat := []
  records : List ArrayPlace := []
deriving DecidableEq, Repr

/-- An access of the atlas store that has still to reach its channel: a line of a key's store set, read on a miss or written by a post
(R172, R173). -/
structure StoreIO where
  key : Nat
  i : Nat
  wr : Bool
deriving DecidableEq, Repr

/-- A running range pass (R143). -/
structure Pass where
  id : BitVec 16
  start : Word
  lines : Word
  goEdge : Nat
  next : Nat := 0
  waiting : Nat := 0
  read : Nat := 0
  ce1 : Nat := 0
  ce2 : Nat := 0
  ue : Nat := 0
  recon : Nat := 0
  firstUe : Option Nat := none
deriving DecidableEq, Repr

/-! ### Fabric ports (chapter 9) -/

/-- A frame held in the sluice, with the time it entered, its shaping class, its input, the bytes it has still to send once
it has begun to cross (0 before), and its cistern block (R273, R283, R287, R289). -/
structure SFrame where
  f : Frame
  input : Nat
  stamp : Nat
  cls : Option Nat := none
  left : Nat := 0
  blk : Nat := 0
deriving DecidableEq, Repr

/-- What a port adds to its registers: training (R237), link retry (R249 to R252), lane changes and sleep (R253, R481).
rx and tx count sequenced frames; acked is the peer's last ACK; replay holds frames sent and not acknowledged; txq the own homes' frames
and slq the sluice's that wait at the egress stage, lastOwn by VC, and as bit 7 over all, that the last frame it took was an own one
(R32); half is a masked write's data frame whose MASK has still to come (R245). -/
structure Port where
  fails : Nat := 0
  wasUp : Bool := false
  usable : BitVec 9 := 0
  pmd : Bool := false
  gotInit : Bool := false
  sentAck : Bool := false
  gotAck : Bool := false
  tx : Nat := 0
  acked : Nat := 0
  rx : Nat := 0
  rxAckSent : Nat := 0
  freed : List (Nat × Nat) := []
  freedSent : Nat := 0
  peerRet : List (Nat × Nat) := []
  replay : List Frame := []
  txq : List Frame := []
  slq : List SFrame := []
  lastOwn : BitVec 8 := 0
  half : Option Frame := none
  discarding : Bool := false
  nak : Bool := false
  stuck : Nat := 0
  swapping : Bool := false
  txAsleep : Bool := false
  rxAsleep : Bool := false
  held : List (Nat × Nat) := []
deriving DecidableEq, Repr

/-! ### The sluice (chapter 10) -/

/-- A virtual output queue: the on-chip part, the cistern part, whether arrivals spill, and the bytes spilled so far, which
number the cistern blocks (R274, R288, R289). -/
structure Voq where
  chip : List SFrame := []
  cist : List SFrame := []
  spilling : Bool := false
  spilled : Nat := 0
deriving DecidableEq, Repr

/-- The two token buckets of a class on an output, in units of 1/105 byte (R285): a rate of 10 MB/s fills one unit a cell
time. -/
structure Bucket where
  floor : Int := 6881280
  ceil : Int := 6881280
deriving DecidableEq, Repr

/-! ### The Thoit link (chapter 11) -/

/-- A receipt owed to the companion (Table 11-5). -/
structure Receipt where
  code : Nat := 0
  state : Nat := 0
  status : BitVec 8 := 0
deriving DecidableEq, Repr

/-- A lane group (R296 to R310): trainings failed in a row, whether it has been UP, whether its lanes have locked and which,
whether the peer's INIT has come; good flits received, whether flits are discarded until a replay, whether NAK is owed; flits sent,
those not acknowledged and those of a replay still to be sent again; the number and time of its last cycle; receipts owed, by
12 * the cycle that carries them + entry; a lane mask to announce; REJOIN to send, sent and received; the flits of the other group
whose acknowledgment releases what a rejoin holds; flits of the running cycle, by slot, that are taken if its control half says that
they are a replay's, good flits received as the cycle began, and whether the discarding began in it (R310). -/
structure Group where
  fails : Nat := 0
  wasUp : Bool := false
  usable : BitVec 17 := 0
  locked : Bool := false
  peerInit : Bool := false
  rx : Nat := 0
  discarding : Bool := false
  nak : Bool := false
  tx : Nat := 0
  replay : List Flit := []
  resend : List Flit := []
  replaying : Bool := false
  cycle : Nat := 0
  at_ : Nat := 0
  receipts : List (Nat × Receipt) := []
  swapMask : Option (BitVec 17) := none
  rejoin : Bool := false
  rejoinSent : Bool := false
  rejoinRx : Bool := false
  hold : Option Nat := none
  unsure : List (Nat × Flit) := []
  cycleRx : Nat := 0
  fresh : Bool := false
deriving DecidableEq, Repr

/-- A control half the Golik has sent (Table 11-4). -/
structure CtlOut where
  cycle : Nat
  flitAck : Nat
  nak : Bool
  replay : Bool
  swap : Bool
  init : Bool
  rejoin : Bool
  receipts : List (Nat × Receipt)
  lanes : BitVec 17
  start : Nat
deriving DecidableEq, Repr

/-- The link as a whole: credits held by class K0, K2, K3, K4 (0, 2, 3, 4) and the return counts last seen (R309), messages waiting
by class, answers waiting, what was sent on a group that went down and is not acknowledged (R299); the tier T2 accesses without
their answers and what each is for (R411); since when both groups have been down, whether the LOSE of port 0 runs and whether
training waits for its end (R301). -/
structure Thoit where
  groups : List (Nat × Group) := []
  credits : List (Nat × Nat) := []
  returned : List (Nat × Nat) := []
  waiting : List (Nat × Frame) := []
  answers : List Frame := []
  again : List Frame := []
  t2 : List (Frame × Purpose) := []
  lostSince : Nat := 0
  loseRunning : Bool := false
  want : Bool := false
deriving DecidableEq, Repr

/-! ### Translation (chapter 3) -/

/-- A translation-cache entry (R71): size 25 for 32 MiB, 30 for 1 GiB; perm R, W, A, X in bits 0 to 3; pins names the
legs that hold it, by 32 jet + record; drop marks an entry to be dropped at the legs' end (R81); once, a translation that is used for
one access alone and not installed (R71). -/
structure XEntry where
  die : Nat
  tag : BitVec 16
  sheet : Nat
  size : Nat
  base : Nat
  perm : BitVec 4
  pins : List Nat := []
  drop : Bool := false
  once : Option Eng := none
deriving DecidableEq, Repr

/-- An issuer waiting on a translation, the access kind it needs (0 read, 1 write, 2 atomic, 3 execute) and its virtual
address (R75). -/
structure XWaiter where
  eng : Eng
  access : Nat
  va : Nat
deriving DecidableEq, Repr

/-- An outstanding translation request, or a miss that waits for one of the die's 256 request slots (R75 to R79): as Table 3-6 lays
it out, with the jet or mover and the time of the miss. -/
structure XReq where
  id : Nat
  die : Nat
  tag : BitVec 16
  span : Nat
  access : Nat
  va : Nat
  sentAt : Nat
  jet : Nat := 0
  mover : Bool := false
  stamp : Nat := 0
  sent : Bool := true
  reissued : Bool := false
  waiters : List XWaiter := []
deriving DecidableEq, Repr

/-- What the running invalidation waits for beside its entries (R81): accesses that used an entry it matches and have not passed their
home check, as own requests by home, ORD and SEQ, and as accesses of the remote-line cache by task and cache key. -/
structure Inval where
  sent : List (BitVec 14 × Bool × BitVec 24) := []
  cached : List (Nat × Nat) := []
deriving DecidableEq, Repr

/-! ### Queue pairs (chapter 12) -/

/-- What a started descriptor waits for: its own command row, its writes, a task, or its completion's turn. -/
inductive DPhase where
  | barred     -- fetched, to start once every earlier descriptor has completed
  | fetched    -- started, its operation not yet performed
  | working    -- its operation has begun and waits for an access or a task
  | writing    -- every access issued; its writes complete
  | owed       -- its completion waits for its turn or for room (R318)
  | fenced     -- its tag is fenced; it fails once its requests have completed (R324)
deriving DecidableEq, Repr

/-- A descriptor in flight (R317). -/
structure Desc where
  index : Nat
  body : BitVec 512
  phase : DPhase := .fetched
  result : Word := 0
  extra : Word := 0
  stage : Nat := 0
  acc : List Word := []
deriving DecidableEq, Repr

/-! ### Jets (chapter 13) -/

/-- An exact accumulator (R342): the signed 192-bit W, its scale and flags. -/
structure Acc where
  w : Int := 0
  scale : Int := 0
  sat : Bool := false
  nonfinite : Bool := false
deriving DecidableEq, Repr

/-- A loop counter with its start and end bundle (Table 13-1). -/
structure LoopCtr where
  count : Word := 0
  first : Nat := 0
  last : Nat := 0
deriving DecidableEq, Repr

/-- The registers of a task (Table 13-1), sparse, unlisted zero. -/
structure JRegs where
  x : List (Nat × Word) := []
  v : List (Nat × BitVec 2048) := []
  vm : List (Nat × BitVec 512) := []
  ms : List (Nat × BitVec 128) := []
  ac : List (Nat × Acc) := []
  lc : List (Nat × LoopCtr) := []
  fc : BitVec 32 := 0
  fpflags : BitVec 3 := 0
  pq : List (Nat × BitVec 32) := []
  bowl : List (Nat × Byte) := []
  dirty : BitVec 64 := 0
deriving DecidableEq, Repr

/-- Task states (Table 13-12). -/
inductive TState where
  | free | ready | running | parked
deriving DecidableEq, Repr

/-- A leg: its header as read (Table 13-10), its sheets as (virtual base, size exponent), and its bundles as loaded into the
leg buffer. -/
structure Leg where
  exact : Bool := false
  bundles : Nat := 0
  anchor : Nat := 0
  periodLog : Nat := 0
  map : Nat := 0
  channels : BitVec 48 := 0
  sheets : List (Nat × Nat) := []
  code : List (BitVec 256) := []
deriving DecidableEq, Repr

/-- Where a result goes: a register of Table 13-1 (of a vector register the bits of its active lanes), SAT of an accumulator (R344), or
bytes of the bowl. -/
inductive JDest where
  | x (r : Nat) (v : Word)
  | v (r : Nat) (v mask : BitVec 2048)
  | vm (r : Nat) (v : BitVec 512)
  | ms (r : Nat) (v : BitVec 128)
  | ac (r : Nat) (v : Acc)
  | acSat (r : Nat)
  | pq (base : Nat) (v : List (BitVec 32))
  | bowl (a : Nat) (v : List Byte)
deriving DecidableEq, Repr

/-- A result under way (R334): the cycle it becomes readable in, the cycle its bundle issued in, its slot (1 memory, 2 scalar,
3 vector). -/
structure Pend where
  land : Nat
  issued : Nat
  slot : Nat
  dest : JDest
deriving DecidableEq, Repr

/-- What an access of an open leg does once answered (Table 13-6): a line or an atomic's old value into V(B), a line into the
bowl, a store; fc says that FC advances with it. -/
inductive JGoal where
  | load (reg : Nat)
  | old (reg : Nat)
  | toBowl (a : Nat)
  | store (fc : Bool)
deriving DecidableEq, Repr

/-- An access of an open leg without its answer: a request of its own by home, ORD and SEQ, an access of the remote-line
cache by its key and, for a store, its bytes, or a request of its own that waits for accesses of the cache to its line (R213). -/
inductive JWait where
  | own (dst : BitVec 14) (ord : Bool) (seq : BitVec 24) (goal : JGoal)
  | rlcLoad (key : Nat) (va : Nat) (goal : JGoal)
  | rlcStore (key : Nat) (va : Nat) (data : Line) (mask : Mask) (fc : Bool)
  | queued (f : Frame) (va : Nat) (goal : JGoal)
deriving DecidableEq, Repr

/-- A task record (R355, Table 13-13). step is ADMIT_STEP; system is 1 for a built-in task and 2 for a batch or merge task
(R370, R381, R405). In a leg: the bundle about to issue or issuing, the slots of it that have issued, its jet cycle from
the leg's start, results under way, E reads under way by register and landing cycle, accesses without their answers,
FC waited for, the cycle the gather port and the bowl are free in, the slot of each leased channel that cycle 0 binds to,
what LEGEND or GWAIT chose (NEXT, the X it names, YIELD), NEXT 3 standing for GWAIT, cycles the next bundle waits beyond its
turn, and whether an access has missed and the task is to park once what it issued before is done (R362). pinned lists the pieces
engine-pinned for the leg, writable the bases of its sheets that the admission check found writable. -/
structure Task where
  state : TState := .free
  cause : Nat := 0
  tenant : Nat := 0
  ctx : BitVec 16 := 0
  qp : Nat := 0
  desc : Nat := 0
  pages : Nat := 1
  legVa : Nat := 0
  resume : Nat := 0xFFFF
  resumeAccess : Nat := 0
  step : Nat := 1
  gauge : Nat := 0
  deadline : Nat := 0
  threshold : Word := 0
  readyAt : Nat := 0
  gx : Nat := 0
  system : Nat := 0
  regs : JRegs := {}
  leg : Leg := {}
  admitted : Bool := false
  inLeg : Bool := false
  pc : Nat := 0
  slot : Nat := 0
  cycle : Nat := 0
  pend : List Pend := []
  ereads : List (Nat × Nat) := []
  waits : List JWait := []
  waitFc : Option Nat := none
  portFree : Nat := 0
  bowlAt : Option Nat := none
  bases : List (Nat × Nat) := []
  ended : Option (Nat × Nat × Bool) := none
  pinned : List Nat := []
  writable : List Nat := []
  leased : Bool := false
  legStart : Nat := 0
  ord : Nat := 0
  gap : Nat := 0
  missing : Bool := false
deriving DecidableEq, Repr

/-- A jet: the running record, when it was switched in, the calendar its last exact leg started in (R486). -/
structure Jet where
  running : Option Nat := none
  switchedAt : Nat := 0
  exactCal : Option Nat := none
deriving DecidableEq, Repr

/-! ### Parcels, contexts and routing tables -/

/-- Parcel states (Table 2-3). -/
inductive PState where
  | free | granted | closing | clearing | commons
deriving DecidableEq, Repr

/-- A parcel table entry (Table 2-3). -/
structure Parcel where
  state : PState := .free
  tenant : Nat := 0
  rights : BitVec 4 := 0
  broad : Bool := false
  guarded : Bool := false
  tier : Nat := 0
  stack : Nat := 0
  gen : BitVec 32 := 0
  lender : BitVec 14 := 0
  lenderParcel : Nat := 0
deriving DecidableEq, Repr

/-- A context-table entry (Table 3-1). -/
structure Ctx where
  tag : BitVec 16 := 0
  tenant : Nat := 0
  valid : Bool := false
  fenced : Bool := false
deriving DecidableEq, Repr

/-- A coherence-port or member table entry (Tables 6-1 and 7-1). -/
structure CPort where
  device : BitVec 14 := 0
  kind : Nat := 0
  valid : Bool := false
  lost : Bool := false
deriving DecidableEq, Repr

/-- A routing table entry (Table 10-3). -/
structure Route where
  ports : List Nat := []
  count : Nat := 0
  lost : Bool := false
deriving DecidableEq, Repr

/-- A tag whose fence drains (R327): its tenant slot, whether what R324 does at once has been done, what the fence has ended
so far. -/
structure Drain where
  tag : BitVec 16
  slot : Nat
  applied : Bool := false
  tasks : Nat := 0
  descs : Nat := 0
  wbacks : Nat := 0
deriving DecidableEq, Repr

/-! ### Telemetry and management (chapters 17 and 18) -/

/-- An event log entry (Table 18-4). -/
structure Event where
  code : Nat
  origin : Nat
  flags : Nat
  seq : Nat
  stamp : Nat
  survey : Nat
  payload : List Byte
deriving DecidableEq, Repr

/-- A bus frame the Golik sends: its 29-bit identifier and data bytes (R450, R451). -/
structure BusFrame where
  id : Nat
  data : List Byte
deriving DecidableEq, Repr

/-- An open transfer or snapshot of a manager (R452): the segment expected next of a transfer, its bytes, when its manager last
asked. -/
structure Transfer where
  writing : Bool
  index : Nat
  sub : Nat
  next : Nat
  data : List Byte
  at_ : Nat
deriving DecidableEq, Repr

/-- The last request performed for a manager and the response sent (R454). -/
structure Kept where
  op : Nat
  msg : BusMsg
  reply : BusFrame
deriving DecidableEq, Repr

/-- A management bus (R448, R455, R458). -/
structure BusState where
  off : Bool := false
  offSince : Nat := 0
  queue : List BusFrame := []
deriving DecidableEq, Repr

/-- What the Golik has driven outward: a Speger frame or link-control frame, a Thoit control half or flit, a bus frame. -/
inductive Sent where
  | frame (port : Nat) (f : Frame)
  | linkInit (port : Nat) (m : LinkInit)
  | linkAck (port : Nat) (m : LinkAck)
  | replay (port start : Nat)
  | laneSwap (port : Nat) (lanes : BitVec 9)
  | control (group : Nat) (m : CtlOut)
  | flit (group : Nat) (m : Flit)
  | bus (bus : Bus) (m : BusFrame)
deriving DecidableEq, Repr


/-! ### Embedding tables (chapter 14) -/

/-- A replica link of a home table (Table 14-6). -/
structure RLink where
  mapVa : Nat
  bank0 : Nat
  bank1 : Nat
  epochVa : Nat
  k : Nat
deriving DecidableEq, Repr

/-- A snapshot slot (Table 14-6). -/
structure Snap where
  listVa : Nat
  dstVa : Nat
  k : Nat
  interval : Nat
  gauge : Nat
deriving DecidableEq, Repr

/-- A descriptor registered at a control die, by its queue pair and its index (R367, R401). -/
structure OpRef where
  t : Nat
  q : Nat
  index : Nat
deriving DecidableEq, Repr

/-- A step commit in progress: rows not yet in a batch, batch tasks started and running, the fault one ended by,
and what it counts (R380 to R382, Table 14-5). -/
structure Commit where
  op : OpRef
  todo : List Nat := []
  started : Nat := 0
  running : Nat := 0
  failed : Option (Nat × Nat × Nat × Nat) := none
  rows : Nat := 0
  sat : Nat := 0
  nonfinite : Nat := 0
deriving DecidableEq, Repr

/-- An open table: the registry fields of Table 14-1, the addresses of its TABLE_OPEN body, the update buffer (row to
its accumulators), its links and snapshot slots, the operations that run and wait at its control die. -/
structure Table where
  state : Nat := 0
  replica : Bool := false
  sparse : Bool := false
  fmt : Nat := 0
  scale : Int := 0
  ctx : BitVec 16 := 0
  tenant : Nat := 0
  dim : Nat := 0
  rows : Nat := 0
  epoch : Nat := 0
  tableVa : Nat := 0
  defaultVa : Nat := 0
  mapVa : Nat := 0
  bank1Va : Nat := 0
  epochVa : Nat := 0
  upd : List (Nat × List Acc) := []
  links : List (Nat × RLink) := []
  snaps : List (Nat × Snap) := []
  running : List OpRef := []
  waiting : List (OpRef × Bool) := []
  commit : Option Commit := none
deriving DecidableEq, Repr

/-! ### Search indexes (chapter 15) -/

/-- An open index: the registry fields of Table 15-5, the addresses of its INDEX_OPEN body, the operations that run and
wait at its control die, the merge task in progress, and whether it has written (R407). -/
structure Index where
  state : Nat := 0
  metric : Nat := 0
  fmt : Nat := 0
  pq : Bool := false
  pqM : Nat := 0
  ctx : BitVec 16 := 0
  tenant : Nat := 0
  dims : Nat := 0
  nodes : Nat := 0
  nextNode : Nat := 0
  epoch : Nat := 0
  annexCount : Nat := 0
  annexMax : Nat := 0
  nentry : Nat := 0
  graphVa : Nat := 0
  tombVa : Nat := 0
  annexVa : Nat := 0
  codebookVa : Nat := 0
  searches : List (OpRef × (Nat × Nat × Nat)) := []
  mutation : Option OpRef := none
  holding : Option OpRef := none
  merging : Bool := false
  wrote : Bool := false
  mergeEnd : Option (Option (Nat × Nat × Nat × Nat)) := none
  waiting : List (OpRef × Nat) := []
deriving DecidableEq, Repr

/-! ### Tiers and custody (chapter 16) -/

/-- A relocation entry (Table 16-1). -/
structure Reloc where
  place : Nat := 0
  phase : Nat := 0
  device : BitVec 14 := 0
  parcel : Nat := 0
  piece : Nat := 0
  toPlace : Nat := 0
deriving DecidableEq, Repr

/-- A move in progress (R418): its destination, the lines copied so far, the lines to copy again, when CUT began. -/
structure Move where
  parcel : Nat
  piece : Nat
  toPlace : Nat
  device : BitVec 14
  dparcel : Nat
  dpiece : Nat
  tag : BitVec 16
  started : Bool := false
  copied : Nat := 0
  dirty : List Nat := []
  passes : Nat := 0
  cutAt : Nat := 0
  failed : Option (BitVec 8) := none
deriving DecidableEq, Repr

/-- A borrow-list entry (R415). -/
structure Borrow where
  lender : BitVec 14 := 0
  parcel : Nat := 0
  valid : Bool := false
  used : BitVec 32 := 0
deriving DecidableEq, Repr

/-- A custody record (Table 16-5); retain is the RETAIN of the OFFER, which RELEASE uses (R435). -/
structure Custody where
  state : Nat := 0
  prior : Nat := 0
  ctx : BitVec 16 := 0
  peer : BitVec 14 := 0
  gen : BitVec 32 := 0
  length : Nat := 0
  offset : Nat := 0
  due : Nat := 0
  retain : Nat := 0
deriving DecidableEq, Repr

/-- A cascade in progress (R425 to R429): when it started; the outcome of each window so far (0 STAGED, 1 READ_THROUGH,
2 REDUCED, 3 SKIPPED), in order; whether the writes of the staging under way, and of the delivery under way, have been sent;
windows delivered. -/
structure Casc where
  start : Nat := 0
  outcomes : List Nat := []
  staging : Bool := false
  marking : Bool := false
  delivered : Nat := 0
deriving DecidableEq, Repr

/-! ### Power, security, start-up, management (chapters 17 to 21) -/

/-- What the power stage, the cap controller and the thermal limits hold beside their registers (R475 to R478, R485, R488 to R490):
rails up; stopped on overvoltage; the power readings of the last 1 ms, newest first; when power and temperatures were last
read; when the level last rose and since when the mean has been low; the cap controller's level; throttle level 5 forced by a
fault; basin dies that hold their jets. -/
structure Power where
  running : Bool := false
  overvoltage : Bool := false
  samples : List Nat := []
  measuredAt : Nat := 0
  sensedAt : Nat := 0
  lastRise : Option Nat := none
  lowSince : Option Nat := none
  capLevel : Nat := 0
  forced : Bool := false
  thermal : BitVec 4 := 0
deriving DecidableEq, Repr

/-- A fuse pulse of 100 µs waiting or running in the trust block (R502, R511): an epoch fuse of a bank, the ZEROIZED fuse, one of
three parts of the seeds. -/
inductive Pulse where
  | epoch (b2 : Bool) (e : Nat)
  | zeroized (b2 : Bool)
  | seeds (b2 : Bool) (part : Nat)
deriving DecidableEq, Repr

/-- What the trust block holds beside its registers and the B2 bank they show: fuse pulses in order; the challenge being
answered, whether it opens an epoch and how often it has tried, its epoch; the last evidence and when a challenge last passed the
rate check (R505); the erasure cause while one runs (R511); the B0 bank: whether it is readable, its ZEROIZED fuse and
epoch fuses, parts of the seeds blown in B2 and B0. -/
structure Sec where
  pulses : List Pulse := []
  opening : Bool := false
  tries : Nat := 0
  epoch : Nat := 0
  nonce : List Byte := []
  evidence : List Byte := []
  lastChallenge : Option Nat := none
  erasing : Option Nat := none
  b0Readable : Bool := true
  zeroB0 : Bool := false
  epochsB0 : List Nat := []
  seeds : BitVec 6 := 0
deriving DecidableEq, Repr

/-- Where the image in the buffer came from (R518). -/
inductive ImageOwner where
  | none | thoit | manager (addr : Nat)
deriving DecidableEq, Repr

/-- Start-up: power-on reset released; held in module reset; the image buffer (0 EMPTY to 4 REFUSED), its owner, its bytes, when
the last IMAGE came, and the length to be checked; an image accepted and its SVN; the copies of the trust block that work (bit 0 B0, bit 1 B2); events
held until the log exists (R517); the device ID; boot clearing done; the running join command: its token, whether it
assigns, when it was sent; ring edges down (R20); the instruction in the test access port. -/
structure Boot where
  powered : Bool := false
  inReset : Bool := false
  buffer : Nat := 0
  owner : ImageOwner := .none
  length : Nat := 0
  lastImage : Nat := 0
  image : List (Nat × Line) := []
  accepted : Bool := false
  svn : Nat := 0
  copies : BitVec 2 := 0b11
  held : List Event := []
  logExists : Bool := false
  deviceId : Option (BitVec 14) := none
  cleared : Bool := false
  joinToken : BitVec 32 := 0
  joinAssign : Bool := false
  joinAt : Nat := 0
  edges : BitVec 4 := 0
  jtag : Byte := 0x01
deriving DecidableEq, Repr

/-- The management controller: its buses, the transfers and kept answers of its managers (0 the register window), the bus
address, when the last beacon went out. -/
structure Mgmt where
  busA : BusState := {}
  busB : BusState := {}
  transfers : List (Nat × Transfer) := []
  kept : List (Nat × Kept) := []
  address : Byte := 0x23
  beaconAt : Nat := 0
deriving DecidableEq, Repr

/-- The survey that is pending (R467, R468): its edge and number, whether it has been announced, whether its edge has
passed. -/
structure Survey where
  edge : Nat
  number : Nat
  announced : Bool := false
  captured : Bool := false
deriving DecidableEq, Repr

/-- Telemetry: the event ring by slot, events raised, the survey pending, surveys numbered so far, the last completed, the last
periodic edge, the two shadow banks by register offset. -/
structure Tele where
  log : List (Nat × Event) := []
  head : Nat := 0
  survey : Option Survey := none
  surveys : Nat := 0
  lastSurvey : Nat := 0
  periodAt : Nat := 0
  bank0 : List (Nat × Word) := []
  bank1 : List (Nat × Word) := []
deriving DecidableEq, Repr

/-! ### Queue pairs and dies -/

/-- A line of the remote-line cache (R178 to R181): its state (EXCLUSIVE is E, or M where dirty), the tag that fetched it,
its data, the upstream request outstanding for it, 0 for none, whether to drop it once that ends (R324), the status of a request
refused, where the line has moved to (R423), and when it was last used in the order of its die's accesses (R180). -/
structure Rlc where
  state : AState := .invalid
  tag : BitVec 16 := 0
  data : Line := 0
  dirty : Bool := false
  fill : Nat := 0
  drop : Bool := false
  err : Option (BitVec 8) := none
  moved : Option (BitVec 14 × Nat) := none
  stamp : Nat := 0
deriving DecidableEq, Repr

/-- What a queue pair adds to its registers (R316 to R318): its descriptors in flight, oldest first, the next index to
fetch; its cascades by descriptor index. -/
structure Qp where
  descs : List Desc := []
  fetched : Nat := 0
  casc : List (Nat × Casc) := []
deriving DecidableEq, Repr

/-- What a basin die adds to its registers: its translation cache and requests, its
remote-line cache, the keys that take a way of the atlas cache, by recency, the ways retired of its sets (R172, R175), the VALIDATE that
runs. -/
structure Die where
  xlate : List XEntry := []
  xreqs : List XReq := []
  xnext : Nat := 0
  rlc : List (Nat × Rlc) := []
  acache : List Nat := []
  aretired : List (Nat × Nat) := []
  validating : Option (Nat × Nat × List Word) := none
  running : Bool := false
  lapEdge : Nat := 0
  pins : List (Nat × Nat) := []
  sweeps : List Nat := []
deriving DecidableEq, Repr

/-- A request of stage C0: input, output, priority (R276). -/
structure MReq where
  input : Nat
  output : Nat
  prio : Nat
deriving DecidableEq, Repr

/-- A cell cut from a queue, by the queue's key, with its bytes and the frames whose last byte it holds (R273). -/
structure Cell where
  key : Nat
  bytes : Nat
  ends : List SFrame := []
deriving DecidableEq, Repr

/-- The sluice as a whole: virtual output queues by 8 (52 input + output) + VC, shaping buckets by 1024 output + class,
round-robin pointers of inputs, outputs and VCs, frames that wait in input port buffers, frames the internal outputs have
delivered, by their input, for the command that runs to act on, the matchings in progress (R276): the requests of the last C0, the cells
of the last C1, and those of the C2 before; cell times counted modulo 21 (21 cell times are 20 ns), quarters whose pool is
empty, quarters whose LOW has been read and starts afresh at the next change (notes assumption 30). -/
structure Sluice where
  voqs : List (Nat × Voq) := []
  buckets : List (Nat × Bucket) := []
  inPtr : List (Nat × Nat) := []
  outPtr : List (Nat × Nat) := []
  vcPtr : List (Nat × Nat) := []
  blocked : List (Nat × Frame) := []
  deliver : List (Nat × Frame) := []
  reqs : List MReq := []
  fly : List Cell := []
  cross : List Cell := []
  cells : Nat := 0
  poolEmpty : BitVec 4 := 0
  lowRead : BitVec 4 := 0
deriving DecidableEq, Repr

/-! ### The machine -/

/-- The state of the Golik. -/
structure State where
  /-- nanoseconds since power-on reset was released -/
  now : Nat
  /-- `now` at the last release of a module reset: bench-clock edges count from here (R465) -/
  benchBase : Nat
  /-- the model's own: the next free value (notes assumption 3) -/
  free : Nat
  /-- the commands that wait, first in, first out -/
  pending : List Instr
  /-- every register of the register window, by offset, where it does not hold its reset value -/
  regs : List (Nat × Word)
  /-- the bytes behind the memory window, by device-local offset, where they are not zero -/
  mem : List Host.Cell
  /-- uncorrectable words of a line, by line number (R127) -/
  bad : List (Nat × BitVec 16)
  /-- what the array has done that the running command has still to act on -/
  acts : List Act
  /-- pieces whose old tier T0 backing is still being cleared (R421), by 32 parcel + piece -/
  oldPieces : List Nat
  /-- parity updates pending, in the order their data writes issued (R134) -/
  parity : List ParityUpdate
  /-- parity lines by stripe, where they are not zero (R132) -/
  parityLines : List (Nat × Line)
  /-- reconstruction steps, those that wait to begin among them (R133) -/
  steps : List RStep
  /-- the model's own: traffic the bridges of the ring have carried, by 2 * bridge, plus 1 anticlockwise (R18, R20) -/
  ring : List (Nat × Nat)
  /-- gazetteer entries with a number, by 256 index + subindex, where they do not hold their default -/
  gz : List (Nat × Nat)
  /-- gazetteer entries with bytes -/
  blobs : List (Nat × List Byte)
  parcels : List (Nat × Parcel)
  ctxs : List (Nat × Ctx)
  cports : List (Nat × CPort)
  members : List (Nat × CPort)
  routes : List (Nat × Route)
  lends : List (Nat × BitVec 14)
  borrows : List (Nat × Borrow)
  relocs : List (Nat × Reloc)
  moves : List Move
  custody : List (Nat × Custody)
  /-- atlas entries by line number, inset entries by (home device + 1) * 2^39 + line number -/
  atlas : List (Nat × Entry)
  txns : List (Nat × List Txn)
  /-- accesses of the atlas store on their way to their channels (R172, R173) -/
  storeIO : List StoreIO
  /-- store sets being read, by 2097152 * die + set, with the line reads still to return (R173) -/
  storeReads : List (Nat × Nat)
  /-- lines made LOST by the walk of LOSE of a member and freed before its end, by 65536 * member + owner tag (R206) -/
  lostFreed : List (Nat × Nat)
  /-- upstream probes at the inset, oldest first -/
  uprobes : List UProbe
  orders : List (Nat × OrderRec)
  echoes : List (Nat × Echo)
  /-- the number last used in each own series, by 2 * destination + (1 for the ordered series) (R223, R256) -/
  series : List (Nat × Nat)
  out : List OutReq
  ans : List EngAns
  /-- gauge increments retired and not yet counted: (tenant slot, gauge, amount in bytes) (R225, R226) -/
  increments : List (Nat × Nat × Nat)
  chans : List (Nat × Chan)
  stackTable : List (Nat × Stack)
  pass : Option Pass
  ports : List (Nat × Port)
  sluice : Sluice
  thoit : Thoit
  dies : List (Nat × Die)
  qps : List (Nat × Qp)
  jets : List (Nat × Jet)
  tasks : List (Nat × Task)
  tables : List (Nat × Table)
  indexes : List (Nat × Index)
  drains : List Drain
  power : Power
  sec : Sec
  boot : Boot
  mgmt : Mgmt
  tele : Tele
  /-- the command word of every command register whose BUSY is 1, by its offset -/
  running : List (Nat × Word)
  /-- the accesses the running translation invalidation waits for (R81) -/
  inval : Inval
  /-- lines the running CLEAR or LOSE of a port or member has probed or changed, by its command register (R185) -/
  walked : List (Nat × Nat)
  /-- the model's own: what the Golik has driven outward, newest first -/
  wire : List Sent
deriving DecidableEq, Repr

/-- How a step can stop short of a next state though the command has a meaning. -/
inductive Fault where
  /-- Raised by INPUT_RISE and OVERVOLTAGE_SHUTDOWN above 65 V: exceeding the absolute maximum input may damage the module
  (R475, Table 19-1), and the spec gives no effect. Safe. -/
  | absoluteMaximum
deriving DecidableEq, Repr

/-- Why a step gives a command no meaning. -/
inductive Refusal where
  /-- Raised by an arm of exec that has no meaning yet, with the command's mnemonic. Safe. -/
  | notModelled (mnemonic : String)
  /-- Raised where test mode admits a vendor entry or frame whose effect the spec leaves to Milef (R533). Safe. -/
  | vendorTest
deriving DecidableEq, Repr

/-- The machine right after power-on reset is released: mode BOOT, step ROM, every register at its reset value, memory
and tables empty (R47, R476, R514, R515). -/
def State.reset : State where
  now := 0
  benchBase := 0
  free := 0
  pending := []
  regs := [(Reg.GL_SEC_SLOTS, 1)]
  mem := []
  bad := []
  acts := []
  oldPieces := []
  parity := []
  parityLines := []
  steps := []
  ring := []
  gz := []
  blobs := []
  parcels := []
  ctxs := []
  cports := []
  members := []
  routes := []
  lends := []
  borrows := []
  relocs := []
  moves := []
  custody := []
  atlas := []
  txns := []
  storeIO := []
  storeReads := []
  lostFreed := []
  uprobes := []
  orders := []
  echoes := []
  series := []
  out := []
  ans := []
  increments := []
  chans := []
  stackTable := []
  pass := none
  ports := []
  sluice := {}
  thoit := {}
  dies := []
  qps := []
  jets := []
  tasks := []
  tables := []
  indexes := []
  drains := []
  power := { running := true }
  sec := {}
  boot := { powered := true }
  mgmt := {}
  tele := {}
  running := []
  inval := {}
  walked := []
  wire := []

end Sys2Proof.Machine
end

