-- ==== Sys2Proof/Machine/Ops.lean ====
section
/-!
DEFINITION. The named operations over registers, memory, time, gazetteer entries, events and command registers that every
family's meanings call.
-/

namespace Sys2Proof.Machine

/-! ### Completion status codes (Table 0-2) -/

def stOk : Nat := 0x00
def stRetry : Nat := 0x01
def stContext : Nat := 0x02
def stNoParcel : Nat := 0x03
def stFenced : Nat := 0x04
def stTargetLost : Nat := 0x05
def stUncorrectable : Nat := 0x06
def stStaleBase : Nat := 0x07
def stAgedOut : Nat := 0x08
def stBreach : Nat := 0x09
def stPending : Nat := 0x0A
def stElsewhere : Nat := 0x0B

/-! ### Registers (R6, R7) -/

/-- What the register at an offset of the register window holds. -/
def State.reg (s : State) (off : Nat) : Word := mget (Reg.reset off) s.regs off

/-- The state with that register set. -/
def State.setReg (s : State) (off : Nat) (v : Word) : State :=
  { s with regs := mput (Reg.reset off) s.regs off v }

/-- Field [lo+w-1:lo] of a register. -/
def State.rf (s : State) (off lo w : Nat) : Nat := field (s.reg off) lo w

/-- Field [lo+w-1:lo] of a register set. -/
def State.setRf (s : State) (off lo w x : Nat) : State := s.setReg off (withField (s.reg off) lo w x)

/-- A counter field advanced by n; it wraps modulo 2^w (R463). -/
def State.bump (s : State) (off lo w n : Nat) : State := s.setRf off lo w (s.rf off lo w + n)

/-- A field raised to x where x is larger (a largest-since-read field). -/
def State.raiseTo (s : State) (off lo w x : Nat) : State :=
  let c := min x (2 ^ w - 1)
  if s.rf off lo w < c then s.setRf off lo w c else s

/-! ### Memory -/

/-- The byte at a device-local offset of the memory window; unlisted bytes read zero (R46). -/
def State.byte (s : State) (a : Nat) : Byte := mget 0 s.mem a

/-- The cells of a line whose first byte is at base: only bytes that are not zero are listed. -/
def lineCells (base : Nat) (l : Line) : List Host.Cell :=
  ((List.range 128).map (fun i => (base + i, lineByte l i))).filter (fun c => decide (c.2 ≠ 0))

/-- The 128 bytes of line number n (R4, R36). -/
def State.line (s : State) (n : Nat) : Line :=
  (s.mem.filter (fun c => decide (128 * n ≤ c.1) && decide (c.1 < 128 * n + 128))).foldl
    (fun a c => withLineByte a (c.1 - 128 * n) c.2) 0

/-- Line number n written whole. -/
def State.setLine (s : State) (n : Nat) (l : Line) : State :=
  { s with mem := s.mem.filter (fun c => decide (c.1 < 128 * n)) ++ lineCells (128 * n) l
                    ++ s.mem.filter (fun c => decide (128 * n + 128 ≤ c.1)) }

/-- The enabled bytes of line number n written (R245). -/
def State.writeLine (s : State) (n : Nat) (l : Line) (m : Mask) : State :=
  s.setLine n (mergeBytes (s.line n) l m)

/-- A difference taken into a stripe's parity line (R132, R134). -/
def intoParity (m : List (Nat × Line)) (stripe : Nat) (diff : Line) : List (Nat × Line) :=
  mput 0 m stripe (mget 0 m stripe ^^^ diff)

/-- The parity lines with the guarded lines between two offsets become zero, the updates those lines owe taken in first: an empty
position counts as zeros (R132). -/
def State.parityWithout (s : State) (lo hi : Nat) : List (Nat × Line) :=
  let guarded (n : Nat) : Bool := let x := mget {} s.parcels (n / 2 ^ 23); x.guarded && x.state != .free
  let m := s.mem.foldl (fun m c =>
    if lo ≤ c.1 ∧ c.1 < hi ∧ guarded (c.1 / 128) then
      intoParity m (Config.stripeOf (c.1 / 128)) ((c.2.setWidth 1024 : Line) <<< (8 * (c.1 % 128)))
    else m) s.parityLines
  s.parity.foldl (fun m u => if lo ≤ 128 * u.line ∧ 128 * u.line < hi then intoParity m (Config.stripeOf u.line) u.diff else m) m

/-- Every byte of the memory window between two offsets set to zero, as whole lines are; what the channels still hold for its lines
and what its guarded lines give their stripes go with it (R46, R52, R132). -/
def State.clearBytes (s : State) (lo hi : Nat) : State :=
  let keep (n : Nat) : Bool := decide (128 * n < lo) || decide (hi ≤ 128 * n)
  let keepF (r : FReq) : Bool := keep r.line || !(r.use == .mergeRead || r.use == .mergeWrite)
  { s with mem := s.mem.filter (fun c => decide (c.1 < lo) || decide (hi ≤ c.1)),
           bad := s.bad.filter (fun c => keep c.1),
           parity := s.parity.filter (fun u => keep u.line),
           parityLines := s.parityWithout lo hi,
           chans := s.chans.map (fun c => (c.1, { c.2 with merge := c.2.merge.filter (fun m => keep m.line),
                                                           fq := c.2.fq.filter keepF,
                                                           inner := c.2.inner.filter keepF,
                                                           corr := c.2.corr.filter (fun k => keep k.line) })) }

/-! ### Free values -/

/-- The next free value, and the state that has used it (notes assumption 3). -/
def State.fresh (s : State) : Word × State := (Config.freeWord s.free, { s with free := s.free + 1 })

/-! ### Time (R465) -/

/-- Bench-clock edges since the release of reset; what a STAMP carries. -/
def State.edges (s : State) : Nat := (s.now - s.benchBase) / 40

/-- Time brought to at least t nanoseconds. -/
def State.atLeast (s : State) (t : Nat) : State := { s with now := max s.now t }

/-- The time of a bench-clock edge. -/
def State.timeOfEdge (s : State) (e : Nat) : Nat := s.benchBase + 40 * e

/-! ### Gazetteer values -/

/-- The key of entry G:0xidx.sub. -/
def gzKey (idx sub : Nat) : Nat := 256 * idx + sub

/-- The default of every entry whose value is kept as a number of its own (R445), by index and subindex. -/
def gzDefaults : List (Nat × Nat) := [
  (gzKey 0x1020 0x03, 1), (gzKey 0x1020 0x04, 1), (gzKey 0x1020 0x05, 1000),
  (gzKey 0x1020 0x06, 500000), (gzKey 0x1020 0x07, 2000000), (gzKey 0x1020 0x08, 0x001E_8480_0007_A120),
  (gzKey 0x1040 0x02, 0xFFFF), (gzKey 0x2030 0x01, 1000), (gzKey 0x2040 0x02, 2),
  (gzKey 0x2040 0x03, 4096), (gzKey 0x2040 0x04, 1000), (gzKey 0x2050 0x01, 10000), (gzKey 0x2050 0x02, 1000),
  (gzKey 0x2050 0x03, 60000), (gzKey 0x2060 0x01, 16), (gzKey 0x3010 0x01, 256), (gzKey 0x3010 0x02, 50),
  (gzKey 0x3040 0x01, 300), (gzKey 0x4010 0x01, 2000000), (gzKey 0x4020 0x01, 640), (gzKey 0x4020 0x02, 256),
  (gzKey 0x4020 0x03, 512), (gzKey 0x4020 0x04, 512), (gzKey 0x4020 0x05, 64), (gzKey 0x4020 0x06, 64),
  (gzKey 0x4030 0x01, 100), (gzKey 0x4030 0x02, 4), (gzKey 0x4030 0x03, 500), (gzKey 0x4040 0x01, 20),
  (gzKey 0x4040 0x02, 4096), (gzKey 0x4040 0x03, 64), (gzKey 0x4040 0x04, 16), (gzKey 0x4050 0x01, 1000),
  (gzKey 0x5010 0x01, 512), (gzKey 0x5010 0x02, 64), (gzKey 0x5020 0x01, 100), (gzKey 0x5020 0x02, 10000),
  (gzKey 0x5020 0x03, 1000), (gzKey 0x8010 0x01, 2800), (gzKey 0x8020 0x01, 10), (gzKey 0x8030 0x01, 85),
  (gzKey 0x8030 0x02, 80), (gzKey 0x8030 0x03, 100), (gzKey 0x9010 0x02, 16), (gzKey 0x9030 0x06, 100)]

/-- The default of a numeric entry. -/
def gzDefault (k : Nat) : Nat := (mfind gzDefaults k).getD 0

/-- The value of a numeric entry. -/
def State.gzv (s : State) (idx sub : Nat) : Nat := mget (gzDefault (gzKey idx sub)) s.gz (gzKey idx sub)

/-- A numeric entry set. -/
def State.setGz (s : State) (idx sub v : Nat) : State :=
  { s with gz := mput (gzDefault (gzKey idx sub)) s.gz (gzKey idx sub) v }

/-! ### Mode (R514) -/

/-- The modes of Table 21-1. -/
inductive Mode where
  | boot | commons | service | test | recovery | halted
deriving DecidableEq, Repr

/-- The code of a mode. -/
def Mode.code : Mode → Nat
  | .boot => 0 | .commons => 1 | .service => 2 | .test => 3 | .recovery => 4 | .halted => 5

/-- The mode of a code; codes above 5 never stand in the register. -/
def Mode.ofCode : Nat → Mode
  | 0 => .boot | 1 => .commons | 2 => .service | 3 => .test | 4 => .recovery | _ => .halted

/-- The mode the Golik is in: MODE of GL_MODE_STATUS. -/
def State.mode (s : State) : Mode := Mode.ofCode (s.rf Reg.GL_MODE_STATUS 8 3)

/-- The Golik runs: powered, not held in reset. -/
def State.alive (s : State) : Bool := s.power.running && s.boot.powered && !s.boot.inReset

/-- The Golik answers on its ports and its Thoit link: it runs and is not HALTED (R21, R131, R484, R491). -/
def State.serving (s : State) : Bool := s.alive && s.mode != .halted

/-! ### Dies and units (R15) -/

/-- The basin die that owns a port, a stack, a jet, a channel (Table 1-2). -/
def dieOfPort (p : Nat) : Nat := p / 12
/-- See dieOfPort. -/
def dieOfStack (k : Nat) : Nat := k / 3
/-- See dieOfPort. -/
def dieOfJet (j : Nat) : Nat := j / 26
/-- See dieOfPort. -/
def dieOfChan (c : Nat) : Nat := c / 48

def State.die (s : State) (d : Nat) : Die := mget {} s.dies d
def State.setDie (s : State) (d : Nat) (x : Die) : State := { s with dies := mput {} s.dies d x }
def State.chan (s : State) (c : Nat) : Chan := mget {} s.chans c
def State.setChan (s : State) (c : Nat) (x : Chan) : State := { s with chans := mput {} s.chans c x }
def State.stack (s : State) (k : Nat) : Stack := mget {} s.stackTable k
def State.setStack (s : State) (k : Nat) (x : Stack) : State := { s with stackTable := mput {} s.stackTable k x }
def State.port (s : State) (p : Nat) : Port := mget {} s.ports p
def State.setPort (s : State) (p : Nat) (x : Port) : State := { s with ports := mput {} s.ports p x }
def State.jet (s : State) (j : Nat) : Jet := mget {} s.jets j
def State.setJet (s : State) (j : Nat) (x : Jet) : State := { s with jets := mput {} s.jets j x }
/-- Task record r of jet j (R355). -/
def State.task (s : State) (j r : Nat) : Task := mget {} s.tasks (32 * j + r)
def State.setTask (s : State) (j r : Nat) (x : Task) : State := { s with tasks := mput {} s.tasks (32 * j + r) x }
/-- Queue pair q of tenant slot t (R316). -/
def State.qp (s : State) (t q : Nat) : Qp := mget {} s.qps (64 * t + q)
def State.setQp (s : State) (t q : Nat) (x : Qp) : State := { s with qps := mput {} s.qps (64 * t + q) x }
def State.parcel (s : State) (p : Nat) : Parcel := mget {} s.parcels p
def State.setParcel (s : State) (p : Nat) (x : Parcel) : State := { s with parcels := mput {} s.parcels p x }
def State.ctxEntry (s : State) (n : Nat) : Ctx := mget {} s.ctxs n
def State.setCtx (s : State) (n : Nat) (x : Ctx) : State := { s with ctxs := mput {} s.ctxs n x }
def State.cport (s : State) (n : Nat) : CPort := mget {} s.cports n
def State.setCport (s : State) (n : Nat) (x : CPort) : State := { s with cports := mput {} s.cports n x }
def State.member (s : State) (n : Nat) : CPort := mget {} s.members n
def State.setMember (s : State) (n : Nat) (x : CPort) : State := { s with members := mput {} s.members n x }
def State.route (s : State) (d : Nat) : Route := mget {} s.routes d
def State.setRoute (s : State) (d : Nat) (x : Route) : State := { s with routes := mput {} s.routes d x }
def State.entry (s : State) (k : Nat) : Entry := mget {} s.atlas k
/-- Two entries differ in what the store keeps (Tables 6-9 and 7-3). -/
def Entry.differs (a b : Entry) : Bool :=
  a.state != b.state || a.vector != b.vector || a.owner != b.owner || a.ownerTag != b.ownerTag || a.stamp != b.stamp || a.up != b.up
/-- The lines of its store set a way's 160 bytes lie in (R171). -/
def wayLines (way : Nat) : List Nat := [way * 160 / 128, way * 160 / 128 + 1]
/-- An atlas entry set; a change the store keeps is posted to it (R172). -/
def State.setEntry (s : State) (k : Nat) (x : Entry) : State :=
  let old := s.entry k
  let posts := (wayLines (if x.state = .invalid then old.way else x.way)).map (fun i => (⟨k, i, true⟩ : StoreIO))
  { s with atlas := mput {} s.atlas k x, storeIO := s.storeIO ++ (if x.differs old then posts else []) }
def State.txnsOf (s : State) (k : Nat) : List Txn := mget [] s.txns k
def State.setTxns (s : State) (k : Nat) (x : List Txn) : State := { s with txns := mput [] s.txns k x }
def State.reloc (s : State) (p k : Nat) : Reloc := mget {} s.relocs (32 * p + k)
def State.setReloc (s : State) (p k : Nat) (x : Reloc) : State := { s with relocs := mput {} s.relocs (32 * p + k) x }
def State.borrowAt (s : State) (i : Nat) : Borrow := mget {} s.borrows i
def State.setBorrow (s : State) (i : Nat) (x : Borrow) : State := { s with borrows := mput {} s.borrows i x }
/-- The order record of a source: the device ID, or 16,384 for the companion (R218). -/
def State.order (s : State) (k : Nat) : OrderRec := mget {} s.orders k
def State.setOrder (s : State) (k : Nat) (x : OrderRec) : State := { s with orders := mput {} s.orders k x }
/-- The custody record of a key of a tenant slot (R430). -/
def State.hold (s : State) (t key : Nat) : Custody := mget {} s.custody (2 ^ 64 * t + key)
def State.setHold (s : State) (t key : Nat) (x : Custody) : State :=
  { s with custody := mput {} s.custody (2 ^ 64 * t + key) x }

/-- The device ID, or 0xFFFF while none is assigned (G:0x1000.06). -/
def State.devId16 (s : State) : Nat := match s.boot.deviceId with
  | some d => d.toNat
  | none => 0xFFFF

/-- A device ID is this Golik's own. -/
def State.isSelf (s : State) (d : BitVec 14) : Bool := s.boot.deviceId == some d

/-- The own device ID as a header field, 0 while there is none (R523). -/
def State.selfId (s : State) : BitVec 14 := s.boot.deviceId.getD 0

/-! ### Driving outward -/

/-- The model's output tape grows by one. -/
def State.send (s : State) (x : Sent) : State := { s with wire := x :: s.wire }

/-! ### Events (R471, R472, R455) -/

/-- Payload fields, each (bytes, value): little-endian, aligned to its own size, saturated at its width. -/
def payloadBytes : List (Nat × Nat) → Nat → List Byte
  | [], _ => []
  | (w, v) :: rest, at_ =>
    let pad := (w - at_ % w) % w
    List.replicate pad 0 ++ bytesOfNat w (min v (256 ^ w - 1)) ++ payloadBytes rest (at_ + pad + w)

/-- Bus A or bus B as held. -/
def State.bus (s : State) : Bus → BusState
  | .a => s.mgmt.busA
  | .b => s.mgmt.busB

def State.setBus (s : State) (u : Bus) (x : BusState) : State := match u with
  | .a => { s with mgmt := { s.mgmt with busA := x } }
  | .b => { s with mgmt := { s.mgmt with busB := x } }

/-- A bus the Golik has joined (R449), which is enabled (R458) and not bus-off, while a controller runs (R521). -/
def State.busOn (s : State) (u : Bus) : Bool :=
  decide (0x10 ≤ s.mgmt.address.toNat) && decide (s.mgmt.address.toNat ≤ 0xEF) && s.alive && s.boot.copies != 0
    && !(s.bus u).off
    && decide (s.gzv 0x1020 (match u with | .a => 0x03 | .b => 0x04) = 1)

/-- The alarm level (R509). -/
def State.alarm (s : State) : Nat := s.rf Reg.GL_SEC_STATE 0 2

/-- A bus identifier (Table 17-5). -/
def busId (prio kind dest src txn : Nat) : Nat :=
  prio * 2 ^ 26 + kind * 2 ^ 24 + dest * 2 ^ 16 + src * 2 ^ 8 + txn % 256

/-- The 256 bytes of a log entry (Table 18-4). -/
def Event.bytes (e : Event) : List Byte :=
  let bs := bytesOfNat 2 e.code ++ bytesOfNat 1 e.origin ++ bytesOfNat 1 e.flags ++ bytesOfNat 4 0 ++ bytesOfNat 8 e.seq
    ++ bytesOfNat 8 e.stamp ++ bytesOfNat 8 e.survey ++ e.payload
  bs ++ List.replicate (256 - bs.length) 0

/-- An event frame put in the queue of one bus; a full queue loses it and counts it (R455). -/
def State.queueEvent (s : State) (u : Bus) (e : Event) : State :=
  if s.busOn u then
    let q := (s.bus u).queue
    if q.length < 64 then
      let f : BusFrame := { id := busId (if s.alarm = 0 then 3 else 0) 2 0xFF s.mgmt.address.toNat (e.seq % 256),
                            data := e.bytes.take 64 }
      s.setBus u { s.bus u with queue := q ++ [f] }
    else s.setGz 0x1020 0x0A ((s.gzv 0x1020 0x0A + 1) % 2 ^ 32)
  else s

/-- An event recorded: in the ring, or held until the log exists (R471, R517). -/
def State.logEvent (s : State) (e : Event) : State :=
  if s.boot.logExists then { s with tele := { s.tele with log := mset s.tele.log (e.seq % 4096) e } }
  else if s.boot.held.length < 64 then { s with boot := { s.boot with held := s.boot.held ++ [e] } }
  else s.setGz 0x1020 0x0A ((s.gzv 0x1020 0x0A + 1) % 2 ^ 32)

/-- An event raised, with its flag bit 0 given (R471). -/
def State.raiseF (s : State) (code origin : Nat) (payload : List (Nat × Nat)) (setsCause : Bool) : State :=
  let e : Event := { code := code, origin := origin, flags := bitN setsCause + (if s.alarm = 0 then 0 else 2),
                     seq := s.tele.head, stamp := s.edges, survey := s.tele.lastSurvey,
                     payload := payloadBytes payload 0 }
  let s := { s with tele := { s.tele with head := s.tele.head + 1 } }
  ((s.logEvent e).queueEvent .a e).queueEvent .b e

/-- An event raised that sets no replacement cause. -/
def State.raise (s : State) (code origin : Nat) (payload : List (Nat × Nat)) : State :=
  s.raiseF code origin payload false

/-- ORIGIN of an event no single die decided (Table 18-4). -/
def fromController : Nat := 0xF

/-- The beacon's sixteen bytes (R456). -/
def State.beacon (s : State) : List Byte :=
  bytesOfNat 1 s.mode.code
    ++ bytesOfNat 1 ((if s.rf Reg.GL_REPLACE 16 1 = 1 then 1 else 0) + (if s.alarm = 0 then 0 else 2)
        + (if s.rf Reg.GL_THOIT_STATE 0 3 = 3 ∨ s.rf Reg.GL_THOIT_STATE 0 3 = 4 then 4 else 0))
    ++ bytesOfNat 2 s.devId16 ++ bytesOfNat 1 s.alarm ++ bytesOfNat 3 0 ++ bytesOfNat 8 s.edges

/-- A beacon sent on every bus that is on. -/
def State.sendBeacon (s : State) : State :=
  let f : BusFrame := { id := busId 6 3 0xFF s.mgmt.address.toNat 0, data := s.beacon }
  let s := if s.busOn .a then s.send (.bus .a f) else s
  if s.busOn .b then s.send (.bus .b f) else s

/-- Causes of Table 18-6 by bit. -/
inductive Cause where
  | bridge | takeover | jets | remap | stack | atlas | thoit | margin | power | security
deriving DecidableEq, Repr

def Cause.bit : Cause → Nat
  | .bridge => 0 | .takeover => 1 | .jets => 2 | .remap => 3 | .stack => 4
  | .atlas => 5 | .thoit => 6 | .margin => 7 | .power => 8 | .security => 9

/-- An event raised by a condition that sets a replacement cause: the first time the bit sets, event 0x7101 follows
and a beacon goes out at once (R473). -/
def State.raiseCause (s : State) (code origin : Nat) (payload : List (Nat × Nat)) (c : Cause) : State :=
  if s.rf Reg.GL_REPLACE c.bit 1 = 1 then s.raise code origin payload
  else
    let s := (s.setRf Reg.GL_REPLACE c.bit 1 1).setRf Reg.GL_REPLACE 16 1 1
    let s := s.raiseF code origin payload true
    (s.raise 0x7101 fromController [(1, c.bit), (2, s.rf Reg.GL_REPLACE 0 16)]).sendBeacon

/-- A cause set where no event of its own goes with it. -/
def State.setCause (s : State) (c : Cause) : State :=
  if s.rf Reg.GL_REPLACE c.bit 1 = 1 then s
  else
    let s := (s.setRf Reg.GL_REPLACE c.bit 1 1).setRf Reg.GL_REPLACE 16 1 1
    (s.raise 0x7101 fromController [(1, c.bit), (2, s.rf Reg.GL_REPLACE 0 16)]).sendBeacon

/-- MODE changed, with event 0x1110 (R514, Table 21-8). -/
def State.enterMode (s : State) (m : Mode) (commons : Nat) : State :=
  if s.mode = m then s
  else (s.setRf Reg.GL_MODE_STATUS 8 3 m.code).raise 0x1110 fromController
    [(1, s.mode.code), (1, m.code), (1, commons)]

/-! ### Command registers (R49, R556) -/

/-- A status register: its offset, and the offset and place of its DROPS field. BUSY is bit 0, RESULT bits [7:4] and
DONE_COUNT bits [63:32] in every one of them. -/
structure CmdRegs where
  cmd : Nat
  status : Nat
  drops : Nat

def parcelRegs : CmdRegs := ⟨Reg.GL_PARCEL_CMD, Reg.GL_PARCEL_STATUS, Reg.GL_PARCEL_DROPS⟩
def ctxRegs : CmdRegs := ⟨Reg.GL_CTX_CMD, Reg.GL_CTX_STATUS, Reg.GL_CTX_DROPS⟩
def xinvRegs : CmdRegs := ⟨Reg.GL_XINV_CMD, Reg.GL_XINV_STATUS, Reg.GL_XINV_DROPS⟩
def trvRegs : CmdRegs := ⟨Reg.GL_TRV_CMD, Reg.GL_TRV_STATUS, Reg.GL_TRV_DROPS⟩
def cportRegs : CmdRegs := ⟨Reg.GL_CPORT_CMD, Reg.GL_CPORT_STATUS, Reg.GL_CPORT_DROPS⟩
def atlasRegs : CmdRegs := ⟨Reg.GL_ATLAS_CMD, Reg.GL_ATLAS_STATUS, Reg.GL_ATLAS_DROPS⟩
def memberRegs : CmdRegs := ⟨Reg.GL_MEMBER_CMD, Reg.GL_MEMBER_STATUS, Reg.GL_MEMBER_DROPS⟩
def orderRegs : CmdRegs := ⟨Reg.GL_ORDER_CMD, Reg.GL_ORDER_STATUS, Reg.GL_ORDER_DROPS⟩
def routeRegs : CmdRegs := ⟨Reg.GL_ROUTE_CMD, Reg.GL_ROUTE_STATUS, Reg.GL_ROUTE_DROPS⟩
def moveRegs : CmdRegs := ⟨Reg.GL_MOVE_CMD, Reg.GL_MOVE_STATUS, Reg.GL_MOVE_DROPS⟩
def custodyRegs : CmdRegs := ⟨Reg.GL_CUSTODY_CMD, Reg.GL_CUSTODY_STATUS, Reg.GL_CUSTODY_DROPS⟩
def gzRegs : CmdRegs := ⟨Reg.GL_GZ_CMD, Reg.GL_GZ_STATUS, Reg.GL_GZ_DROPS⟩
def joinRegs : CmdRegs := ⟨Reg.GL_JOIN_CMD, Reg.GL_JOIN_STATUS, Reg.GL_JOIN_DROPS⟩
def modeRegs : CmdRegs := ⟨Reg.GL_MODE_CMD, Reg.GL_MODE_STATUS, Reg.GL_MODE_DROPS⟩
def commonsRegs : CmdRegs := ⟨Reg.GL_COMMONS_CMD, Reg.GL_COMMONS_STATUS, Reg.GL_COMMONS_DROPS⟩
def tideRegs (k : Nat) : CmdRegs := ⟨Reg.BS_TIDE_CMD k, Reg.BS_TIDE_STATUS k, Reg.BS_TIDE_DROPS k⟩
def fenceRegs (t : Nat) : CmdRegs := ⟨Reg.TN_FENCE_CMD t, Reg.TN_CMD_STATUS t, Reg.TN_CMD_DROPS t⟩

/-- BUSY reads 1. -/
def State.busy (s : State) (c : CmdRegs) : Bool := s.rf c.status 0 1 == 1

/-- A command write while BUSY is 1: discarded and counted in DROPS; otherwise the command starts (R49). -/
def State.command (s : State) (c : CmdRegs) (run : State → State) : State :=
  if s.busy c then s.bump c.drops 0 32 1 else run s

/-- A command completes: BUSY 0, RESULT, DONE_COUNT advanced (R50). -/
def State.done (s : State) (c : CmdRegs) (result : Nat) : State :=
  let v := withField (withField (withField (s.reg c.status) 0 1 0) 4 4 result) 32 32 (s.rf c.status 32 32 + 1)
  { s.setReg c.status v with running := merase s.running c.cmd }

/-- A command goes on running: BUSY 1, its word kept. -/
def State.keepBusy (s : State) (c : CmdRegs) (w : Word) : State :=
  { s.setRf c.status 0 1 1 with running := mset s.running c.cmd w }

/-- The word of the command that runs. -/
def State.runningWord (s : State) (c : CmdRegs) : Word := mget 0 s.running c.cmd

/-! ### Folding a state over a list -/

/-- A change made for each element in turn. -/
def State.forEach {α : Type} (s : State) (l : List α) (f : State → α → State) : State := l.foldl f s

end Sys2Proof.Machine
end

