-- ==== Sys2Proof/Machine/DescBody.lean ====
section
/-!
DEFINITION. Which descriptors are malformed (R320): reserved operations, reserved fields, and the limits each chapter sets its
bodies (Tables 12-3 to 12-5, 13-11, 14-3, 14-4, 14-6, 15-4, 15-7, 15-9, 16-3, 16-6), with the handles they name (R366, R390).
-/

namespace Sys2Proof.Machine

/-- A descriptor as fetched: 64 bytes. -/
abbrev DescBits := BitVec 512

/-- Field [hi:lo] of a descriptor. -/
def bf (b : DescBits) (hi lo : Nat) : Nat := bitsN b lo (hi + 1 - lo)

/-- OP of a descriptor. -/
def opOf (b : DescBits) : Nat := bf b 7 0

/-- Every listed field [hi:lo] is zero. -/
def zeros (b : DescBits) (l : List (Nat × Nat)) : Bool := l.all (fun x => bf b x.1 x.2 == 0)

/-- A value lies in a range. -/
def within (lo x hi : Nat) : Bool := decide (lo ≤ x) && decide (x ≤ hi)

/-- Bytes of an element of formats 0x0 to 0x4 (R368). -/
def elemBytes (fmt : Nat) : Nat := if fmt = 0 then 4 else if fmt ≤ 2 then 2 else 1

/-- Lines that n bytes fill. -/
def linesFor (n : Nat) : Nat := (n + 127) / 128

/-- Lanes of a row's update, DIM rounded up to 64 (R381). -/
def dimP (dim : Nat) : Nat := (dim + 63) / 64 * 64

/-- The largest commit batch (R381). -/
def largestBatch (dim : Nat) : Nat := min 256 (4128768 / (4 * dimP dim))

/-- OL of R375. -/
def outLines (dim fmt : Nat) : Nat := linesFor (dim * (if fmt = 0 then 4 else 2))

/-- COPY and FILL (Table 12-5, R319). -/
def moverBad (b : DescBits) (fill : Bool) : Bool :=
  let dst := bf b 191 128
  let len := bf b 223 192
  !zeros b [(511, 234)]
    || (if fill then dst % 8 != 0 || len % 8 != 0 || !within 8 len (2 ^ 30) else !within 1 len (2 ^ 30))
    || (bf b 233 233 == 1 && (dst % 128 != 0 || len % 128 != 0))

/-- TASK (R354). -/
def taskBad (b : DescBits) : Bool :=
  bf b 127 64 % 256 != 0 || !within 1 (bf b 398 392) 64 || (bf b 391 391 == 0 && decide (103 < bf b 390 384))
    || !zeros b [(511, 399)]

/-- TABLE_OPEN (Table 14-3). -/
def tableOpenBad (b : DescBits) : Bool :=
  let sparse := bf b 308 308 == 1
  let replica := bf b 309 309 == 1
  bf b 127 64 % 128 != 0 || bf b 191 128 % 128 != 0
    || (!sparse && !replica && bf b 255 192 != 0)
    || !within 1 (bf b 287 256) (if replica then 65536 else 2 ^ 32 - 1)
    || !within 1 (bf b 300 288) 4096 || !zeros b [(303, 301), (311, 310), (511, 448)]
    || decide (4 < bf b 307 304) || (replica && (sparse || bf b 319 312 != 0))
    || (if replica then bf b 383 320 % 128 != 0 || bf b 447 384 % 128 != 0 else !zeros b [(383, 320), (447, 384)])

/-- GATHER and SCATTER_ADD on an open table (Table 14-4, R369, R375). -/
def gatherBad (b : DescBits) (x : Table) : Bool :=
  let mode := bf b 77 76
  let stride := bf b 415 384
  !zeros b [(79, 79), (127, 92), (511, 416)] || decide (1 < bf b 83 80) || bf b 319 256 % 128 != 0 || bf b 351 320 == 0
    || (if mode = 0 then !zeros b [(255, 192), (383, 352)] else !within 1 (bf b 383 352) (2 ^ 24))
    || stride % 128 != 0 || decide (stride < 128 * outLines x.dim (bf b 83 80))

def scatterBad (b : DescBits) : Bool :=
  let mode := bf b 77 76
  mode == 3 || !zeros b [(79, 79), (127, 84), (511, 416)] || decide (2 < bf b 83 80) || bf b 319 256 % 128 != 0
    || bf b 351 320 == 0 || bf b 415 384 % 128 != 0
    || (if mode = 0 then !zeros b [(255, 192), (383, 352)] else !within 1 (bf b 383 352) (2 ^ 24))

/-- STEP_COMMIT, REPLICA_LINK and SNAPSHOT on an open table (Table 14-6, R381). -/
def commitBad (b : DescBits) (x : Table) : Bool :=
  decide (largestBatch x.dim < bf b 84 76) || !zeros b [(91, 85), (127, 92), (511, 320)] || bf b 191 128 % 256 != 0

def linkBad (b : DescBits) : Bool :=
  !zeros b [(91, 79), (127, 92), (511, 416)] || !within 1 (bf b 415 384) 65536

def snapBad (b : DescBits) : Bool :=
  !zeros b [(91, 88), (127, 92), (319, 304), (511, 320)] || bf b 255 192 % 128 != 0 || !within 1 (bf b 287 256) 1048576

/-- INDEX_OPEN (Table 15-4, R394). -/
def indexOpenBad (b : DescBits) : Bool :=
  let pq := bf b 406 406 == 1
  let dims := bf b 396 384
  let m := bf b 412 408
  bf b 127 64 % 128 != 0 || bf b 191 128 % 128 != 0 || bf b 255 192 % 128 != 0
    || (if pq then bf b 319 256 % 128 != 0 || bf b 405 402 != 0 || !within 1 m 16 || dims % m != 0 || bf b 401 400 == 2
        else bf b 319 256 != 0 || decide (4 < bf b 405 402) || m != 0)
    || bf b 351 320 == 0 || !within (bf b 452 448) (bf b 383 352) (bf b 351 320) || !within 1 dims 4096
    || bf b 401 400 == 3 || !within 1 (bf b 432 416) 65536 || !within 1 (bf b 452 448) 16
    || !zeros b [(399, 397), (407, 407), (415, 413), (447, 433), (511, 453)]

/-- SEARCH (Table 15-7). -/
def searchBad (b : DescBits) : Bool :=
  !zeros b [(75, 74), (99, 99), (127, 112), (511, 288)] || !within 1 (bf b 86 76) 1024
    || !within (bf b 86 76) (bf b 98 88) 1024 || decide (8 < bf b 103 100) || bf b 191 128 % 128 != 0 || bf b 255 192 % 128 != 0

/-- INSERT and DELETE (Table 15-9); an INSERT's source is aligned to 128. -/
def mutationBad (b : DescBits) (insert : Bool) : Bool :=
  !zeros b [(79, 74), (127, 97), (511, 192)] || !within 1 (bf b 96 80) 65536 || (insert && bf b 191 128 % 128 != 0)

/-- MERGE (Table 15-9). -/
def mergeBad (b : DescBits) : Bool := !zeros b [(127, 74), (511, 320)] || bf b 191 128 % 256 != 0

/-- CASCADE (Table 16-3). -/
def cascadeBad (b : DescBits) : Bool :=
  bf b 127 64 % 128 != 0 || bf b 191 128 % 128 != 0 || bf b 223 192 % 128 != 0 || !within 128 (bf b 223 192) (2 ^ 30)
    || !within 1 (bf b 236 224) 4096 || !zeros b [(511, 245)]

/-- The open table a descriptor names, where it is open under the queue pair's tag (R366). -/
def State.tableFor (s : State) (b : DescBits) (ctx : BitVec 16) : Option Table :=
  (mfind s.tables (bf b 75 64)).bind (fun x => if x.state ≠ 0 ∧ x.ctx = ctx then some x else none)

/-- The open index a descriptor names (R390). -/
def State.indexFor (s : State) (b : DescBits) (ctx : BitVec 16) : Option Index :=
  (mfind s.indexes (bf b 73 64)).bind (fun x => if x.state ≠ 0 ∧ x.ctx = ctx then some x else none)

/-- A descriptor fetched under a tag is malformed (R320). -/
def State.descBad (s : State) (b : DescBits) (ctx : BitVec 16) : Bool :=
  !zeros b [(15, 10), (31, 24)] ||
  match opOf b with
  | 0x01 => false
  | 0x02 => moverBad b false
  | 0x03 => moverBad b true
  | 0x08 => taskBad b
  | 0x10 => tableOpenBad b
  | 0x11 => (s.tableFor b ctx).isNone || !zeros b [(511, 76)]
  | 0x12 => match s.tableFor b ctx with
    | some x => gatherBad b x
    | none => true
  | 0x13 => match s.tableFor b ctx with
    | some x => x.replica || scatterBad b
    | none => true
  | 0x14 => match s.tableFor b ctx with
    | some x => x.replica || commitBad b x
    | none => true
  | 0x15 => match s.tableFor b ctx with
    | some x => x.replica || linkBad b
    | none => true
  | 0x16 => match s.tableFor b ctx with
    | some x => x.replica || snapBad b
    | none => true
  | 0x20 => indexOpenBad b
  | 0x21 => (s.indexFor b ctx).isNone
  | 0x22 => (s.indexFor b ctx).isNone || searchBad b
  | 0x23 => (s.indexFor b ctx).isNone || mutationBad b true
  | 0x24 => (s.indexFor b ctx).isNone || mutationBad b false
  | 0x25 => (s.indexFor b ctx).isNone || mergeBad b
  | 0x30 => cascadeBad b
  | 0x31 => bf b 223 192 % 128 != 0 || !zeros b [(511, 256)]
  | 0x32 => !zeros b [(223, 128), (511, 256)]
  | 0x33 => !zeros b [(511, 128)]
  | 0x34 => !zeros b [(511, 232)]
  | _ => true

/-- How an operation shares its table (R369, R384): plain, holding, or neither. -/
inductive OpKind where
  | none | plain | mutation | holding
deriving DecidableEq, Repr

/-- The kind of a table operation (Table 14-2). -/
def tableKind (b : DescBits) : OpKind :=
  match opOf b with
  | 0x11 => .holding
  | 0x12 => .plain
  | 0x13 => .plain
  | 0x14 => .holding
  | 0x15 => .holding
  | 0x16 => if bf b 79 79 = 1 then .none else if bf b 303 288 = 0 then .holding else .none
  | _ => .none

/-- The kind of an index operation (Table 15-3). -/
def indexKind (b : DescBits) : OpKind :=
  match opOf b with
  | 0x21 => .holding
  | 0x22 => .plain
  | 0x23 => .mutation
  | 0x24 => .mutation
  | 0x25 => .holding
  | _ => .none

end Sys2Proof.Machine
end

