-- ==== Sys2Proof/Machine/Place.lean ====
section
/-!
DEFINITION. Where a line lies (R16, R40 to R46, R92, R93, R411): parcel, line index, stack, channel, bank and owning die; the
capacity of the stacks (R44, R54, R55); parcels lost with a stack (R147).
-/

namespace Sys2Proof

/-- The line number a frame names (R36). -/
def Frame.line (f : Frame) : Nat := f.addr.toNat / 128

end Sys2Proof

namespace Sys2Proof.Machine

/-! ### The memory window (R38, R40) -/

/-- Lines of a parcel. -/
def parcelLines : Nat := 2 ^ 23

/-- Lines of a piece (R409). -/
def pieceLines : Nat := 2 ^ 18

/-- The parcel number of a line number. -/
def parcelOf (n : Nat) : Nat := n / parcelLines
/-- The line index within the parcel. -/
def indexOf (n : Nat) : Nat := n % parcelLines
/-- The piece of its parcel a line lies in (R409). -/
def pieceOf (n : Nat) : Nat := indexOf n / pieceLines

/-- The parcel is placed by the line hash: broad, FREE (R16), or granted outside tier T0 (R411, R417). -/
def Parcel.hashed (x : Parcel) : Bool := x.broad || x.state == .free || x.tier != 0

/-! ### Lines of the Golik's own: the margin and stripe positions (R54, R94, R132)

Beside the lines of the memory window the model names margin lines, 2^38 and up by margin offset, and the twelve positions of a
guard stripe, 2^36 + 12 * stripe + stack (notes assumption 14). -/

/-- Lines of the margin: 64 GiB (R54). -/
def marginLines : Nat := 2 ^ 29

/-- A line the model names as a margin line. -/
def isMargin (n : Nat) : Bool := decide (2 ^ 38 ≤ n) && decide (n < 2 ^ 38 + marginLines)

/-- The margin offset of a margin line. -/
def marginOffset (n : Nat) : Nat := 128 * (n - 2 ^ 38)

/-- The regions of the margin: first offset and size in bytes (Table 2-6). -/
inductive MarginRegion where
  | atlasStore | cistern | parkedTasks | updateBuffers | echoOverflow | custody | relocation | eventLog | reserved | unallocated
deriving DecidableEq, Repr

/-- Table 2-6: the end of each region, in order of offset; what lies above is kept unallocated (R54). -/
def marginRegions : List (Nat × MarginRegion) := [
  (0x02_8000_0000, .atlasStore), (0x06_8000_0000, .cistern), (0x08_8000_0000, .parkedTasks), (0x0D_8000_0000, .updateBuffers),
  (0x0D_C000_0000, .echoOverflow), (0x0E_0000_0000, .custody), (0x0E_4000_0000, .relocation), (0x0E_4010_0000, .eventLog),
  (0x0E_8000_0000, .reserved), (0x10_0000_0000, .unallocated)]

/-- The region a margin offset lies in. -/
def marginRegion (off : Nat) : Option MarginRegion := (marginRegions.find? (fun r => decide (off < r.1))).map (·.2)

/-- The position of a stripe on a stack. -/
def stripePos (k t : Nat) : Nat := 2 ^ 36 + 12 * k + t

/-- A line named as a stripe position. -/
def isStripePos (n : Nat) : Bool := decide (2 ^ 36 ≤ n) && decide (n < 2 ^ 37)

/-- Lines of an atlas-store set: 1,280 bytes (R171). -/
def setLines : Nat := 10

/-- Line i of a store set of a die's quarter of the atlas store (R171, Table 2-6). -/
def storeLine (d set i : Nat) : Nat := 2 ^ 38 + (d * 2097152 + set) * setLines + i

/-- The channel of a line of the Golik's own: the ten lines of a store set lie on ten different channels of its die (R171), the
rest where the Golik places them (R94). -/
def keyChan (n : Nat) : Nat :=
  if isMargin n && decide (n - 2 ^ 38 < 4 * 2097152 * setLines) then
    let k := (n - 2 ^ 38) / setLines
    48 * (k / 2097152) + (Config.marginChan k + (n - 2 ^ 38) % setLines) % 48
  else if isStripePos n then 16 * ((n - 2 ^ 36) % 12) + Config.marginChan n % 16
  else Config.marginChan n % 192

/-- The stack of a line under the line hash (R43). -/
def hashStack (p l : Nat) : Nat := let i := (l + p) % 12; 3 * (i % 4) + i / 4

/-- The stack a line is placed on at grant (R42, R43), or a line of the Golik's own by the Golik (R94). -/
def State.stackOf (s : State) (n : Nat) : Nat :=
  let x := s.parcel (parcelOf n)
  if 2 ^ 34 ≤ n then keyChan n / 16
  else if x.hashed then hashStack (parcelOf n) (indexOf n) else x.stack

/-- The owning basin die of a line (R16, R411). -/
def State.ownerDie (s : State) (n : Nat) : Nat :=
  let x := s.parcel (parcelOf n)
  if x.state != .free && x.tier != 0 then (indexOf n + parcelOf n) % 4 else dieOfStack (s.stackOf n)

/-! ### The basin ring (R17, R18, R20) -/

/-- The place of a die on the ring, clockwise B0, B1, B3, B2 (R18). -/
def ringPlace (d : Nat) : Nat := if d = 2 then 3 else if d = 3 then 2 else d

/-- The crossings of n hops from a place: bridge i joins the places i and i + 1, which makes the bridges B0–B1, B1–B3, B3–B2 and
B2–B0 (R17). -/
def ringHops (clockwise : Bool) : Nat → Nat → List Nat
  | _, 0 => []
  | p, n + 1 =>
    if clockwise then 2 * p :: ringHops clockwise ((p + 1) % 4) n
    else (2 * ((p + 3) % 4) + 1) :: ringHops clockwise ((p + 3) % 4) n

/-- The crossings between two dies of traffic that concerns line n: one hop between adjacent dies, clockwise between diagonal ones
where bit 7 of the line's offset is clear and anticlockwise where it is set (R18); round the other way where that route
has a failed edge (R20). -/
def State.ringRoute (s : State) (a b n : Nat) : List Nat :=
  let p := ringPlace a
  let hops := (ringPlace b + 4 - p) % 4
  let cw := ringHops true p hops
  let acw := ringHops false p ((4 - hops) % 4)
  let (first, second) := if (if hops = 2 then n % 2 = 0 else hops < 2) then (cw, acw) else (acw, cw)
  if first.any (fun h => s.boot.edges.getLsbD (h / 2)) then second else first

/-- Traffic of a line carried over the ring from one die to another. -/
def State.carry (s : State) (a b n : Nat) : State :=
  if a = b then s else { s with ring := (s.ringRoute a b n).foldl (fun m h => mput 0 m h (mget 0 m h + 1)) s.ring }

/-- The index q of Table 4-1. -/
def State.placeIndex (s : State) (n : Nat) : Nat :=
  if (s.parcel (parcelOf n)).hashed then (indexOf n + parcelOf n) / 12 else indexOf n

/-- The device channel of a line as placed (R93). -/
def State.homeChan (s : State) (n : Nat) : Nat :=
  if 2 ^ 34 ≤ n then keyChan n else 16 * s.stackOf n + s.placeIndex n % 16

/-- The bank of a line (R93), or of a line of the Golik's own (R94). -/
def State.bankOf (s : State) (n : Nat) : Nat :=
  if 2 ^ 34 ≤ n then (Config.marginPlace n).1 % 64 else s.placeIndex n / 16 % 64

/-- The stack has failed (Table 5-4). -/
def State.stackFailed (s : State) (k : Nat) : Bool := s.rf (Reg.ST_STACK_STATE k) 0 2 != 0

/-- The channel a line is reached through: its own, or after a stack failure that of its rebuilt place (R148). -/
def State.chanOf (s : State) (n : Nat) : Nat :=
  let c := s.homeChan n
  if s.stackFailed (c / 16) then
    let i := Config.sparePlace n % 176
    if i < 16 * (c / 16) then i else i + 16
  else c

/-- The line is guarded (R44). -/
def State.guardedLine (s : State) (n : Nat) : Bool :=
  (s.parcel (parcelOf n)).guarded && (s.parcel (parcelOf n)).state != .free

/-- Where the line's piece is stored: 0 tier T0, 1 tier T1, 2 tier T2, 3 REHOMED (Table 16-1). -/
def State.whereOf (s : State) (n : Nat) : Nat := (s.reloc (parcelOf n) (pieceOf n)).place

/-- The line has tier T0 backing. -/
def State.inT0 (s : State) (n : Nat) : Bool :=
  (s.parcel (parcelOf n)).state != .free && s.whereOf n == 0

/-! ### Capacity (R44, R54, R55) -/

/-- How many of a, a + 1, …, a + n - 1 leave remainder i on division by 12. -/
def countMod12 (a n i : Nat) : Nat :=
  let upTo (m : Nat) : Nat := (m + 11 - i) / 12
  upTo (a + n) - upTo a

/-- Lines of piece k of parcel p on stack t, for a hashed parcel. -/
def hashedOn (p k t : Nat) : Nat :=
  (List.range 12).foldl (fun a i =>
    if 3 * (i % 4) + i / 4 = t then a + countMod12 (p + pieceLines * k) pieceLines i else a) 0

/-- Lines of piece k of a parcel on stack t. -/
def pieceOn (x : Parcel) (p k t : Nat) : Nat :=
  if x.hashed then hashedOn p k t else if x.stack = t then pieceLines else 0

/-- The pieces of a parcel with tier T0 backing, then those whose old backing still clears: a piece that is back in tier T0 while
its old backing clears counts twice (Table 2-7, R421). -/
def State.t0Pieces (s : State) (p : Nat) : List Nat :=
  (List.range 32).filter (fun k => (s.reloc p k).place == 0 || (s.reloc p k).toPlace == 0 && (s.reloc p k).phase != 0)
    ++ (s.oldPieces.filter (fun i => i / 32 == p)).map (fun i => i % 32)

/-- Parcels that use capacity: every state but FREE (R50, R55). -/
def State.usedParcels (s : State) : List (Nat × Parcel) := s.parcels.filter (fun e => decide (e.2.state ≠ .free))

/-- Data lines of a parcel on stack t. -/
def State.parcelOn (s : State) (p : Nat) (x : Parcel) (t : Nat) : Nat :=
  (s.t0Pieces p).foldl (fun a k => a + pieceOn x p k t) 0

/-- Guarded data lines on stack t: d_s of R44. -/
def State.guardedOn (s : State) (t : Nat) : Nat :=
  s.usedParcels.foldl (fun a e => if e.2.guarded then a + s.parcelOn e.1 e.2 t else a) 0

/-- Plain data lines on stack t. -/
def State.plainOn (s : State) (t : Nat) : Nat :=
  s.usedParcels.foldl (fun a e => if e.2.guarded then a else a + s.parcelOn e.1 e.2 t) 0

/-- Guarded data lines D (R44). -/
def State.guardedTotal (s : State) : Nat := (List.range 12).foldl (fun a t => a + s.guardedOn t) 0

/-- Stripes S = max(⌈D / 11⌉, max over s of d_s) (R44). -/
def State.stripes (s : State) : Nat :=
  (List.range 12).foldl (fun a t => max a (s.guardedOn t)) ((s.guardedTotal + 10) / 11)

/-- Tenant positions of a stack: 248/3 GiB of lines; the four lines that thirds leave lie on S0 to S3 (R54, notes
assumption 13); zero on a failed stack (R54, R146). -/
def State.positions (s : State) (t : Nat) : Nat :=
  if s.stackFailed t then 0 else 693458261 + (if t < 4 then 1 else 0)

/-- Positions of a stack in use (Table 2-7). -/
def State.inUseOn (s : State) (t : Nat) : Nat := s.plainOn t + s.stripes

/-- Every stack holds what is in use on it; failed stacks are not asked (R55, R150). -/
def State.fits (s : State) : Bool :=
  (List.range 12).all (fun t => s.stackFailed t || decide (s.inUseOn t ≤ s.positions t))

/-- Unused tier T0 tenant lines on a stack: G:0x2010.01 to .0C. -/
def State.unusedOn (s : State) (t : Nat) : Nat := s.positions t - s.inUseOn t

/-- Lines in CLEARING: G:0x2011.05. -/
def State.clearingLines (s : State) : Nat :=
  s.parcels.foldl (fun a e =>
    let ks := if e.2.state = .clearing then s.t0Pieces e.1
              else (List.range 32).filter (fun k => s.oldPieces.contains (32 * e.1 + k))
    a + ks.length * pieceLines) 0

/-! ### Lost parcels (R147) -/

/-- The parcel's bit in GL_PARCEL_LOST. -/
def State.parcelLost (s : State) (p : Nat) : Bool := s.rf (Reg.GL_PARCEL_LOST (p / 64)) (p % 64) 1 == 1

/-- The parcel is lost: its bit sets and event 0x2117 is raised (R147, R413). -/
def State.loseParcel (s : State) (p : Nat) : State :=
  if s.parcelLost p then s
  else (s.setRf (Reg.GL_PARCEL_LOST (p / 64)) (p % 64) 1 1).raise 0x2117 fromController
    [(2, p), (2, (s.parcel p).tenant)]

/-- Service ends: HALTED (R131, R484, R491, R21). -/
def State.halt (s : State) : State := s.enterMode .halted 0xFF

/-- A margin line is lost, or a second stack (R131, R150). -/
def State.marginLost (s : State) (stack chan offset : Nat) : State :=
  (s.raiseCause 0x2118 fromController [(1, stack), (1, chan), (8, offset)] .margin).halt

/-- A stack declared failed in service (R145 to R148). A plain parcel still in CLEARING with lines on it is marked lost as any other: the
spec does not say, DESIGN CHOICE (notes assumption 67). -/
def State.failStack (s : State) (t cause : Nat) : State :=
  if (List.range 12).any s.stackFailed then
    if s.stackFailed t then s else s.marginLost t 0xFF (2 ^ 64 - 1)
  else
    let total := s.guardedOn t + min (Config.parityOn t s.stripes) (s.stripes - s.guardedOn t) + 44230843
    let lost := s.parcels.filter (fun e => decide (e.2.state ≠ .free) && !e.2.guarded && (s.t0Pieces e.1 != [])
      && decide (0 < s.parcelOn e.1 e.2 t))
    let s := (s.setRf (Reg.ST_STACK_STATE t) 0 2 1).setRf (Reg.ST_STACK_STATE t) 4 4 cause
    let s := s.raiseCause 0x2115 (dieOfStack t) [(1, t), (1, cause)] .stack
    let s := (s.setRf (Reg.ST_REBUILD_TOTAL t) 0 40 total).setRf (Reg.ST_REBUILD_DONE t) 0 40 0
    let s := s.setStack t { s.stack t with uses := 0, remade := [] }
    s.forEach lost (fun s e => s.loseParcel e.1)

end Sys2Proof.Machine
end

