-- ==== Sys2Proof/Machine/Tide.lean ====
section
/-!
DEFINITION. The tide calendar (chapter 4): slot classes, maps and their legality, FWAIT, the calendar boundary, dormancy, the
announced switch between variants.
-/

namespace Sys2Proof.Machine

/-- Slot classes (Table 4-2). -/
inductive SlotClass where
  | f | e | s | r | c | reserved
deriving DecidableEq, Repr

/-- A tide-map entry: class code in [2:0], bank group in [7:4] (R99). -/
def entryClass (v : Nat) : SlotClass := match v % 8 with
  | 0 => .f | 1 => .e | 2 => .s | 3 => .r | 4 => .c | _ => .reserved

def entryGroup (v : Nat) : Nat := v / 16 % 16

/-- Entry of map m, variant v, position p on die d (R99). -/
def State.mapEntry (s : State) (d m v p : Nat) : Nat :=
  s.rf (Reg.BS_TIDE_MAP d ((0x2000 * m + 0x1000 * v + p) / 8)) (8 * (p % 8)) 8

/-- The bank group an R slot at a position refreshes (Table 4-3, rules 2 and 3). The spec gives groups to positions 32j and 32j + 16
only; in a map with an R slot elsewhere, which breaks rule 2 or 3 and is refused, rule 6 is tested as if it refreshed group (j + 8) mod 16:
DESIGN CHOICE (notes assumption 67). -/
def refreshGroup (p : Nat) : Nat :=
  let j := p / 32
  if p % 32 = 0 then j % 16 else (j + 8) % 16

/-- The boot calendar (R104). -/
def bootEntry (v p : Nat) : Nat :=
  if p % 32 = 0 then 3
  else if v = 1 ∧ p % 32 = 16 then 3
  else if p % 512 = 8 then 4
  else if p % 32 = 24 then 2
  else 0

/-! ### What a channel runs -/

/-- Offset of ST_CHAN_CFG of a device channel. -/
def chanCfg (c : Nat) : Nat := Reg.ST_CHAN_CFG (c / 16) (c % 16)

def State.chanAsleep (s : State) (c : Nat) : Bool := s.rf (chanCfg c) 7 1 == 1
def State.chanRunning (s : State) (c : Nat) : Bool := s.rf (chanCfg c) 8 1 == 1
def State.activeMap (s : State) (c : Nat) : Nat := s.rf (chanCfg c) 4 3
def State.chanMap (s : State) (c : Nat) : Nat := s.rf (chanCfg c) 0 3

/-- The variant in force on a stack: 0 N, 1 H. -/
def State.variant (s : State) (k : Nat) : Nat := s.rf (Reg.ST_TIDE_VAR k) 0 1

/-- The entry in force at a position of a channel's calendar. -/
def State.slotEntry (s : State) (c p : Nat) : Nat :=
  let v := s.variant (c / 16)
  if s.chanRunning c then s.mapEntry (dieOfChan c) (s.activeMap c) v p else bootEntry v p

def State.mapValid (s : State) (d m : Nat) : Bool := s.rf (Reg.BS_TIDE_INFO d m) 0 1 == 1

/-- The variant a stack's next calendar runs: that of a pending switch that takes effect there (R113). -/
def State.nextVariant (s : State) (k : Nat) : Nat :=
  let off := Reg.ST_TIDE_VAR k
  if s.rf off 1 1 = 1 ∧ s.rf (Reg.ST_TIDE_SWITCH_AT k) 0 64 = s.rf (Reg.BS_CAL_COUNT (dieOfStack k)) 0 64 + 1 then s.rf off 2 1
  else s.rf off 0 1

/-- The entry at a position of a channel's next calendar: the map MAP names where it is VALID, else what the channel runs
(R103, R104). -/
def State.nextEntry (s : State) (c p : Nat) : Nat :=
  let d := dieOfChan c
  let v := s.nextVariant (c / 16)
  if s.mapValid d (s.chanMap c) then s.mapEntry d (s.chanMap c) v p
  else if s.chanRunning c then s.mapEntry d (s.activeMap c) v p
  else bootEntry v p

/-- The entry of a slot some slots ahead of the calendar's position, past the boundary where it lies there. -/
def State.entryAhead (s : State) (c p : Nat) : Nat := if p < 4096 then s.slotEntry c p else s.nextEntry c (p - 4096)

/-- The admission depth in force on a channel, throttled at levels 4 and 5 (R104, R112, R486): a request is admitted only
while the queue holds fewer than this. -/
def State.fdepth (s : State) (c : Nat) : Nat :=
  let d := if s.chanRunning c then s.rf (Reg.BS_TIDE_INFO (dieOfChan c) (s.activeMap c)) 7 5 else 16
  let level := s.rf Reg.GL_PWR_STATE 0 3
  if level = 5 then 1 else if level = 4 then (d + 1) / 2 else d

/-! ### Legality (Table 4-3) -/

/-- The 8,192 entries of a map as bytes: variant N, then variant H. -/
def State.mapWords (s : State) (d m : Nat) : List Word :=
  (List.range 1024).map (fun i => s.reg (Reg.BS_TIDE_MAP d (1024 * m + i)))

/-- Entry of variant v at position p of a map taken as words. -/
def wordsEntry (w : List Word) (v p : Nat) : Nat := field (w.getD (512 * v + p / 8) 0) (8 * (p % 8)) 8

/-- Rules 1 to 6 at one position, the lowest that fails. h and n read the two variants. -/
def ruleAt (n h : Nat → Nat) (p : Nat) : Option Nat :=
  let bad1 (v : Nat) : Bool := entryClass v == .reserved || (entryClass v != .e && v / 16 % 16 != 0)
  let isR (v : Nat) : Bool := entryClass v == .r
  let isC (v : Nat) : Bool := entryClass v == .c
  if bad1 (n p) || bad1 (h p) then some 1
  else if isR (n p) != (p % 32 == 0) then some 2
  else if isR (h p) != (p % 16 == 0) then some 3
  else if p % 32 = 16 then
    (if !(entryClass (n p) == .f || entryClass (n p) == .s) then some 4
     else if isC (n p) then some 5 else none)
  else if n p != h p then some 4
  else if isC (n p) != (p % 512 == 8) || isC (h p) != (p % 512 == 8) then some 5
  else if entryClass (h p) == .e &&
      (List.range 24).any (fun i =>
        let q := (p + 4096 - i) % 4096
        isR (h q) && refreshGroup q == entryGroup (h p)) then some 6
  else none

/-- The first failing position and rule of a map, or none where it is legal (R100). -/
def mapFault (n h : Nat → Nat) (fdepth : Nat) : Option (Nat × Nat) :=
  match (List.range 4096).findSome? (fun p => (ruleAt n h p).map (fun r => (p, r))) with
  | some x => some x
  | none =>
    let sCount := ((List.range 4096).filter (fun p => entryClass (h p) == .s)).length
    let fCount := ((List.range 4096).filter (fun p => entryClass (h p) == .f)).length
    if sCount < 32 ∨ fCount < fdepth then some (0, 7) else none

/-! ### FWAIT (R101) -/

/-- An F slot at p is legal for a bank of group g on the H variant: no E slot of the group and no R slot that refreshes it
within 23 slots on either side. -/
def fLegalH (h : Nat → Nat) (g p : Nat) : Bool :=
  entryClass (h p) == .f &&
  (List.range 47).all (fun i =>
    let q := (p + 4096 + i - 23) % 4096
    !(entryClass (h q) == .e && entryGroup (h q) == g) && !(entryClass (h q) == .r && refreshGroup q == g))

/-- Slots from admission to issue with n requests to the bank ahead: each takes a legal slot and keeps the bank busy for
24. -/
def fwaitGo (legal : List Bool) : Nat → Nat → Nat → Nat → Option Nat
  | 0, _, _, _ => none
  | fuel + 1, n, w, p =>
    if legal.getD (p % 4096) false then
      if n = 0 then some w
      else fwaitGo legal fuel (n - 1) (w + 24) (p + 24)
    else fwaitGo legal fuel n (w + 1) (p + 1)

/-- FWAIT of a map; none where some bank group never has a legal F slot. The largest wait is that of a request admitted in the slot
of an F access to its bank, which makes the bank busy for 24 slots, behind FDEPTH - 1 requests to the same bank. The chapter's example
reports FWAIT 93 for FDEPTH 12, which no map gives under R101's words, since eleven requests to one bank ahead take 264 slots: the
model follows the rule, DESIGN CHOICE (notes assumption 67). -/
def fwaitOf (h : Nat → Nat) (fdepth : Nat) : Option Nat :=
  (List.range 16).foldl (fun a g =>
    let legal := (List.range 4096).map (fLegalH h g)
    (List.range 4096).foldl (fun a p =>
      match a, fwaitGo legal (4200 * (fdepth + 1)) (fdepth - 1) 24 (p + 24) with
      | some x, some y => some (max x y)
      | _, _ => none) a) (some 0)

def countClass (h : Nat → Nat) (k : SlotClass) : Nat :=
  ((List.range 4096).filter (fun p => entryClass (h p) == k)).length

/-! ### Map commands (R99, R101, R102) -/

/-- Offset of BS_TIDE_INFO fields cleared by CLEAR_MAP: all but USERS. -/
def State.clearMapInfo (s : State) (d m : Nat) : State :=
  s.setReg (Reg.BS_TIDE_INFO d m) (withField 0 1 6 (s.rf (Reg.BS_TIDE_INFO d m) 1 6))

/-- The result of a tide command with its LAST_MAP. -/
def State.tideDone (s : State) (d m result : Nat) : State :=
  (s.setRf (Reg.BS_TIDE_STATUS d) 8 3 m).done (tideRegs d) result

/-- FIRST_BAD and RULE of a tide status. -/
def State.tideBad (s : State) (d pos rule : Nat) : State :=
  (s.setRf (Reg.BS_TIDE_STATUS d) 16 12 pos).setRf (Reg.BS_TIDE_STATUS d) 28 4 rule

/-- A write of BS_TIDE_CMD (R101, R102). VALIDATE checks the map as it stands now and ends by VALIDATE_DONE. -/
def State.tideCommand (s : State) (d : Nat) (w : Word) : State :=
  let op := field w 0 4
  let m := field w 4 3
  if op = 0 then s
  else s.command (tideRegs d) (fun s =>
    if op = 1 then
      let depth := field w 8 5
      if depth = 0 ∨ 16 < depth then s.tideDone d m 3
      else if s.mapValid d m then s.tideDone d m 1
      else (s.setDie d { s.die d with validating := some (m, depth, s.mapWords d m) }).keepBusy (tideRegs d) w
    else if op = 2 then
      if s.rf (Reg.BS_TIDE_INFO d m) 1 6 ≠ 0 then s.tideDone d m 1
      else (s.clearMapInfo d m).tideDone d m 0
    else s.tideDone d m 3)

/-- VALIDATE_DONE: VALID, FDEPTH, FWAIT and the counts set, or the failing position and rule recorded (R100, R101). An
FWAIT that no slot bounds is a free value. -/
def validateDoneStep (d : Nat) (s : State) : State :=
  match (s.die d).validating with
  | none => s
  | some (m, depth, ws) =>
    let s := s.setDie d { s.die d with validating := none }
    let n := wordsEntry ws 0
    let h := wordsEntry ws 1
    match mapFault n h depth with
    | some (pos, rule) => (s.tideBad d pos rule).tideDone d m 2
    | none =>
      let (fw, s) := match fwaitOf h depth with
        | some x => (x, s)
        | none => (bitsN (s.fresh).1 0 13, (s.fresh).2)
      let info := pack [(1, 1), (6, s.rf (Reg.BS_TIDE_INFO d m) 1 6), (5, depth), (13, fw), (13, countClass h .e),
                        (13, countClass h .f), (13, countClass h .s)]
      (s.setReg (Reg.BS_TIDE_INFO d m) info).tideDone d m 0

/-- A write of eight tide-map entries: discarded and counted where the map is valid or being validated; bit 3 of an entry is
reserved (R9, R99). -/
def State.mapEntryWrite (s : State) (d i : Nat) (v : Word) : State :=
  let m := i / 1024
  let validating := match (s.die d).validating with
    | some (k, _, _) => k == m
    | none => false
  if s.mapValid d m || validating then s.bump (Reg.BS_TIDE_DROPS d) 0 32 1 
  else s.setReg (Reg.BS_TIDE_MAP d i) (v &&& 0xF7F7F7F7F7F7F7F7)

/-! ### Channel configuration (R103, R106) -/

/-- A write of ST_CHAN_CFG: MAP and DORMANT are writable. -/
def State.chanCfgWrite (s : State) (c m : Nat) (dormant : Bool) : State :=
  let changed := s.chanMap c != m
  let s := (s.setRf (chanCfg c) 0 3 m).setRf (chanCfg c) 3 1 (bitN dormant)
  if changed then s.setChan c { s.chan c with mapWrites := (s.chan c).mapWrites ++ [m] } else s

/-- USERS of a map of a die counted again (Table 4-4). -/
def State.countUsers (s : State) (d m : Nat) : State :=
  let n := ((List.range 48).filter (fun i => s.chanRunning (48 * d + i) && s.activeMap (48 * d + i) == m)).length
  s.setRf (Reg.BS_TIDE_INFO d m) 1 6 n

/-- An awake channel takes the map MAP names where it is VALID and not in force; every write to MAP since the last boundary whose
map is not VALID now is counted once (R103). -/
def State.takeMap (s : State) (c : Nat) : State :=
  let d := dieOfChan c
  let m := s.chanMap c
  let writes := (s.chan c).mapWrites
  let s := if writes.isEmpty then s
    else (s.setChan c { s.chan c with mapWrites := [] }).bump (Reg.BS_TIDE_DROPS d) 0 32
      (writes.filter (fun k => !s.mapValid d k)).length
  if s.chanAsleep c then s
  else if s.mapValid d m && !(s.chanRunning c && s.activeMap c == m) then
    ((s.setRf (chanCfg c) 4 3 m).setRf (chanCfg c) 8 1 1).setRf (chanCfg c) 9 1 0
  else if !s.chanRunning c then s.setRf (chanCfg c) 9 1 1
  else s

/-- A channel enters self-refresh, or counts another idle calendar (R106). -/
def State.sleepCheck (s : State) (c : Nat) : State :=
  let x := s.chan c
  if s.chanAsleep c then s
  else
    let idle := if x.used then 0 else x.idleCals + 1
    let s := s.setChan c { x with used := false, idleCals := idle }
    if s.rf (chanCfg c) 3 1 = 1 ∧ x.fq.isEmpty ∧ x.ingress.isEmpty ∧ x.inner.isEmpty ∧ x.merge.isEmpty ∧ s.gzv 0x5010 0x02 ≤ idle then
      ((s.setRf (chanCfg c) 7 1 1).setRf (chanCfg c) 8 1 0).setRf (chanCfg c) 9 1 0
    else s

/-- A woken channel joins its MAP, or the boot calendar, at the boundary (R106). -/
def State.joinCalendar (s : State) (c : Nat) : State :=
  let x := s.chan c
  if s.chanAsleep c && x.woken then
    (s.setRf (chanCfg c) 7 1 0).setChan c { x with waking := false, woken := false, used := true, idleCals := 0 }
  else s

/-! ### The announced switch (R113 to R115, R489, R553) -/

/-- Calendars until the first that begins at least 1 ms from position p: 293 or 294 (R113). -/
def noticeCalendars (p : Nat) : Nat := (1200000 + p + 4095) / 4096

/-- The position of a die's calendar: its channels start together (R96). -/
def State.calPos (s : State) (d : Nat) : Nat := (s.chan (48 * d)).pos % 4096

/-- A condition that differs from the variant in force is announced, where no switch is pending (R113, R114). -/
def State.noticeIfDue (s : State) (k : Nat) : State :=
  let off := Reg.ST_TIDE_VAR k
  let want := bitN (s.stack k).hot
  if s.rf off 1 1 = 1 ∨ s.rf off 0 1 = want ∨ !(s.die (dieOfStack k)).running then s
  else
    let d := dieOfStack k
    let at_ := s.rf (Reg.BS_CAL_COUNT d) 0 64 + noticeCalendars (s.calPos d)
    let s := ((s.setRf off 1 1 1).setRf off 2 1 want).setReg (Reg.ST_TIDE_SWITCH_AT k) (BitVec.ofNat 64 at_)
    s.raise 0x5101 d [(1, k), (1, want), (8, at_)]

/-- The stack's condition taken again from its temperature and FORCE_HOT (R489), with what R114 makes of it. -/
def State.tideCondition (s : State) (k : Nat) : State :=
  let off := Reg.ST_TIDE_VAR k
  let temp := (BitVec.ofNat 8 (s.rf (Reg.ST_TEMP k) 0 8)).toInt
  let force := s.rf off 3 1 = 1
  let hot := if force ∨ (s.gzv 0x8030 0x01 : Int) ≤ temp then true
             else if temp < (s.gzv 0x8030 0x02 : Int) then false
             else (s.stack k).hot
  let s := s.setStack k { s.stack k with hot := hot }
  if s.rf off 1 1 = 1 ∧ s.rf off 2 1 = 0 ∧ hot then
    let at_ := s.rf (Reg.ST_TIDE_SWITCH_AT k) 0 64
    let s := (s.setRf off 1 1 0).raise 0x5103 (dieOfStack k) [(1, k), (1, 0), (8, at_)]
    s.noticeIfDue k
  else s.noticeIfDue k

/-- A pending switch whose calendar begins takes effect (R113). -/
def State.switchIfDue (s : State) (k : Nat) : State :=
  let off := Reg.ST_TIDE_VAR k
  let n := s.rf (Reg.BS_CAL_COUNT (dieOfStack k)) 0 64
  if s.rf off 1 1 = 1 ∧ s.rf (Reg.ST_TIDE_SWITCH_AT k) 0 64 = n then
    let v := s.rf off 2 1
    let s := (s.setRf off 0 1 v).setRf off 1 1 0
    (s.raise 0x5102 (dieOfStack k) [(1, k), (1, v), (8, n)]).noticeIfDue k
  else s

/-- CALENDAR_BOUNDARY of a die: the next calendar begins on its 48 channels (R96, R103, R106, R113); before the first there is none to
count towards sleep. -/
def calendarBoundaryStep (d : Nat) (s : State) : State :=
  if s.alive && (s.die d).running && s.mode != .halted then
    let first := s.rf (Reg.BS_CAL_COUNT d) 0 64 = 0
    let s := s.bump (Reg.BS_CAL_COUNT d) 0 64 1
    let s := s.forEach (List.range 3) (fun s i => s.switchIfDue (3 * d + i))
    let s := s.forEach (List.range 48) (fun s i =>
      let c := 48 * d + i
      let s := s.setChan c { s.chan c with pos := 0 }
      (((if first then s else s.sleepCheck c)).joinCalendar c).takeMap c)
    s.forEach (List.range 8) (fun s m => s.countUsers d m)
  else s

/-- CHANNEL_WAKE_DONE: the 2,400 slots have passed; the channel joins at the next boundary (R106). -/
def channelWakeDoneStep (c : Nat) (s : State) : State :=
  let x := s.chan c
  if s.chanAsleep c && x.waking then s.setChan c { x with woken := true } else s

/-- FORCE_HOT written (R113). -/
def State.forceHotWrite (s : State) (k : Nat) (hot : Bool) : State :=
  (s.setRf (Reg.ST_TIDE_VAR k) 3 1 (bitN hot)).tideCondition k

end Sys2Proof.Machine
end

