-- ==== Sys2Proof/Machine/Array.lean ====
section
/-!
DEFINITION. The channels at work (chapters 4 and 5): admission, the F scheduler, the merge buffer, E slots, reads in flight and
what the word code makes of them, corrections, reconstruction, remapping, the traverse, range passes, rebuild.
-/

namespace Sys2Proof.Machine

/-! ### Banks (R95, R111) -/

def Chan.bankBusy (x : Chan) (bank : Nat) : Bool := x.busy.any (fun e => e.1 == bank && decide (x.slots < e.2))

/-- A bank busy for 24 slots from this one. -/
def Chan.makeBusy (x : Chan) (bank : Nat) : Chan :=
  { x with busy := (bank, x.slots + 24) :: x.busy.filter (fun e => e.1 != bank && decide (x.slots < e.2)) }

/-- A queued access to the bank is legal in this slot: the bank is free, and no E slot of its group and no refresh of it
falls within the next 23 slots, those of the next calendar judged by what the channel runs then (R111). -/
def State.fLegal (s : State) (c bank : Nat) : Bool :=
  let x := s.chan c
  !x.bankBusy bank &&
  (List.range 23).all (fun i =>
    let q := x.pos % 4096 + 1 + i
    let e := s.entryAhead c q
    !(entryClass e == .e && entryGroup e == bank / 4) && !(entryClass e == .r && refreshGroup (q % 4096) == bank / 4))

/-! ### Writes into the array -/

/-- Something the array has done, left for the running command to act on. -/
def State.act (s : State) (a : Act) : State := { s with acts := s.acts ++ [a] }

/-- A write to a line already copied by a move marks it for copying again (R418). -/
def State.markDirty (s : State) (n : Nat) : State :=
  { s with moves := s.moves.map (fun m =>
      if m.parcel = parcelOf n ∧ m.piece = pieceOf n ∧ m.started ∧ indexOf n % pieceLines < m.copied
          ∧ !m.dirty.contains n
      then { m with dirty := m.dirty ++ [n] } else m) }

/-- The uncorrectable words of a line (R125). -/
def State.badWords (s : State) (n : Nat) : BitVec 16 := mget 0 s.bad n
def State.setBad (s : State) (n : Nat) (w : BitVec 16) : State := { s with bad := mput 0 s.bad n w }

/-- Corrections a write covers are dropped (R124). -/
def dropCorr (l : List Correction) (n : Nat) (ws : BitVec 16) : List Correction :=
  (l.map (fun k => if k.line = n then { k with words := k.words &&& ~~~ ws } else k)).filter (fun k => k.words != 0)

/-- The open entry of the line loses its bytes in the covered words; an entry left with none is freed, unless its closing
read is in flight (R118). -/
def dropMerged (l : List MEntry) (n : Nat) (ws : BitVec 16) (inFlight : Bool) : List MEntry :=
  (l.map (fun e => if e.line = n then { e with mask := e.mask &&& ~~~ maskOfWords ws, ue := e.ue &&& ~~~ ws } else e)).filter
    (fun e => !(e.line == n && e.mask == 0 && !inFlight))

/-- The queue without the closing read or closing write of a freed entry (R118). -/
def dropCloses (l : List FReq) (n : Nat) : List FReq :=
  l.filter (fun r => !(r.line == n && (r.use == .mergeRead || r.use == .mergeWrite)))

/-- What a write of the line leaves of a read in flight: the words it covers are no longer those the read found (R124). -/
def Flight.cover (f : Flight) (n : Nat) (ws : BitVec 16) : Flight :=
  if f.f.line = n then { f with covered := f.covered ||| ws } else f

/-- A guarded write's difference joins the parity updates pending (R134). -/
def State.oweParity (s : State) (n : Nat) (old new : Line) : State :=
  if s.guardedLine n then { s with parity := s.parity ++ [{ line := n, diff := old ^^^ new }] } else s

/-- A whole-word write takes effect in the array: its words stand, uncorrectable words it covers are ended, the merge
entry's and the correction's words are dropped, a guarded line owes its parity update (R112, R118, R124, R125, R134). The merge entry is
in the buffer of the line's own channel, the write in the channel it is reached through, c (R148). -/
def State.arrayWrite (s : State) (c n : Nat) (l : Line) (m : Mask) : State :=
  let ws := fullWords m
  let b := s.homeChan n
  let s := s.oweParity n (s.line n) (mergeBytes (s.line n) l m)
  let s := ((s.writeLine n l m).setBad n (s.badWords n &&& ~~~ ws)).markDirty n
  let x := s.chan b
  let merge := dropMerged x.merge n ws ((s.chan c).flight.any (fun f => f.f.line == n && f.f.use == .mergeRead))
  let s := s.setChan b { x with merge := merge }
  let y := s.chan c
  let keep (l : List FReq) : List FReq := if merge.any (fun e => e.line == n) then l else dropCloses l n
  s.setChan c { y with flight := y.flight.map (fun f => f.cover n ws), corr := dropCorr y.corr n ws, fq := keep y.fq, inner := keep y.inner }

/-- The merge entry of a line. -/
def Chan.entryOf (x : Chan) (n : Nat) : Option MEntry := x.merge.find? (fun e => e.line == n)

/-- The open merge entry of a line, in the buffer of the channel it was placed on: a stack failure leaves it there (R148). -/
def State.openEntry (s : State) (n : Nat) : Option MEntry := (s.chan (s.homeChan n)).entryOf n

/-- What a read of the line returns where the array gives this: the open entry's bytes applied (R117). -/
def State.withEntry (s : State) (n : Nat) (l : Line) : Line :=
  match s.openEntry n with
  | some e => mergeBytes l e.data e.mask
  | none => l

/-- What a read of the line returns when every word decodes right: the array with the open entry's bytes applied (R117). -/
def State.visible (s : State) (n : Nat) : Line := s.withEntry n (s.line n)

/-! ### The F queue and the merge buffer (R112, R116 to R121) -/

/-- An access of the Golik's own to its line's channel: it waits for admission ahead of the ingress (R112, notes assumption 67), and
wakes the channel where that sleeps (R106). -/
def State.pushF (s : State) (r : FReq) : State :=
  let c := s.chanOf r.line
  let x := s.chan c
  s.setChan c { x with inner := x.inner ++ [{ r with bank := s.bankOf r.line }], waking := x.waking || s.chanAsleep c }

/-- An entry replaced by its change. -/
def State.modEntry (s : State) (c n : Nat) (f : MEntry → MEntry) : State :=
  let x := s.chan c
  s.setChan c { x with merge := x.merge.map (fun e => if e.line = n then f e else e) }

/-- Only whole words are written in the entry. -/
def wholeWords (m : Mask) : Bool := maskOfWords (fullWords m) == m

/-- The entry of a line, in channel c's buffer, begins to close: a closing read, or at once its closing write where every word is whole
(R119). -/
def State.closeEntry (s : State) (c n : Nat) : State :=
  match (s.chan c).entryOf n with
  | none => s
  | some e =>
    if e.reading || e.closing then s
    else if wholeWords e.mask then
      (s.modEntry c n (fun e => { e with reading := true, closing := true })).pushF
        { line := n, use := .mergeWrite, wr := true, tag := e.tag }
    else (s.modEntry c n (fun e => { e with reading := true })).pushF { line := n, use := .mergeRead, tag := e.tag }

/-- The entry of a list that has been open for longest. -/
def oldestMerge (l : List MEntry) : Option MEntry :=
  l.foldl (fun a e =>
    match a with
    | none => some e
    | some y => if e.opened < y.opened then some e else some y) none

/-- The oldest open entry; an entry stays open until its closing write issues (R119). -/
def Chan.oldest (x : Chan) : Option MEntry := oldestMerge x.merge

/-- The oldest entry whose close has not begun. -/
def Chan.oldestOpen (x : Chan) : Option MEntry := oldestMerge (x.merge.filter (fun e => !e.reading && !e.closing))

/-- A sub-word write accepted into an entry of its line's channel: visible now, its completion due now (R116, R117). -/
def State.acceptMerge (s : State) (r : FReq) : State :=
  let c := s.homeChan r.line
  let x := s.chan c
  let s := match x.entryOf r.line with
    | some _ => s.modEntry c r.line (fun e =>
        { e with data := mergeBytes e.data r.data r.mask, mask := e.mask ||| r.mask, tag := r.tag })
    | none =>
      let e : MEntry := { line := r.line, data := mergeBytes 0 r.data r.mask, mask := r.mask, opened := x.slots,
                          tag := r.tag };
      s.setChan c { x with merge := x.merge ++ [e] }
  let s := s.markDirty r.line
  let s := s.act (.issued r)
  match (s.chan c).entryOf r.line with
  | some e => if wholeWords e.mask then s.closeEntry c r.line else s
  | none => s

/-- The line's place in the spare is written: the rebuild has passed its stripe, or a request has had it remade (R148, R149). -/
def State.rebuilt (s : State) (n : Nat) : Bool :=
  let k := s.stackOf n
  (s.stack k).remade.contains n
    || decide (Config.rebuildIndex (if isStripePos n then (n - 2 ^ 36) / 12 else Config.stripeOf n)
        % s.rf (Reg.ST_REBUILD_TOTAL k) 0 40 < s.rf (Reg.ST_REBUILD_DONE k) 0 40)

/-- The line is on a stack that rebuilds and has not been rebuilt yet (R149). -/
def State.needsRemake (s : State) (n : Nat) : Bool := s.rf (Reg.ST_STACK_STATE (s.stackOf n)) 0 2 == 1 && !s.rebuilt n

/-! ### Guard stripes (R132 to R134) -/

/-- The stripe of a line: its own as a position, else the Golik's choice. -/
def stripeOfLine (n : Nat) : Nat := if isStripePos n then (n - 2 ^ 36) / 12 else Config.stripeOf n

/-- The XOR of the other positions of a guarded line's stripe: its parity line, and every other guarded line of it; a position that no line
holds is zeros (R132, R133). -/
def State.stripeXor (s : State) (n : Nat) : Line :=
  let k := stripeOfLine n
  s.mem.foldl (fun a c =>
    let m := c.1 / 128
    if m ≠ n ∧ s.guardedLine m ∧ Config.stripeOf m = k then a ^^^ ((c.2.setWidth 1024 : Line) <<< (8 * (c.1 % 128))) else a)
    (mget 0 s.parityLines k)

/-- The data positions of a stripe XORed: what its parity line is to hold (R132). -/
def State.dataXor (s : State) (k : Nat) : Line :=
  s.mem.foldl (fun a c =>
    if s.guardedLine (c.1 / 128) ∧ Config.stripeOf (c.1 / 128) = k then a ^^^ ((c.2.setWidth 1024 : Line) <<< (8 * (c.1 % 128))) else a) 0

/-- Another line of the stripe is known to be uncorrectable (R127). -/
def State.stripeBroken (s : State) (n : Nat) : Bool :=
  s.bad.any (fun e => e.1 != n && (s.guardedLine e.1 || isMargin e.1) && Config.stripeOf e.1 == stripeOfLine n)

/-- A step of the stripe reads or writes: writes and parity updates of the stripe wait (R133). -/
def State.stripeHeld (s : State) (n : Nat) : Bool :=
  !s.steps.isEmpty && (s.guardedLine n || isStripePos n)
    && s.steps.any (fun x => x.begun && stripeOfLine x.line == stripeOfLine n)

/-- A parity update of the stripe is pending (R133, R134). -/
def State.stripeOwes (s : State) (k : Nat) : Bool := s.parity.any (fun u => Config.stripeOf u.line == k)

/-- The oldest pending update of a stripe starts on the parity line's die once it has arrived: the parity line is read, to be written
(R134). -/
def State.parityGo (s : State) (k : Nat) : State :=
  let pos := stripePos k (Config.parityStack k % 12)
  match s.parity.find? (fun u => Config.stripeOf u.line == k) with
  | none => s
  | some u =>
    let c := s.chanOf pos
    let mine (r : FReq) : Bool := r.line == pos && (r.use == .parityRead || r.use == .parityWrite)
    let x := s.chan c
    if !u.arrived || x.fq.any mine || x.inner.any mine || x.ingress.any mine || x.remake.any mine || x.recon.any mine
        || x.flight.any (fun f => mine f.f) || s.steps.any (fun x => x.begun && stripeOfLine x.line == k) then s
    else s.pushF { line := pos, use := .parityRead }

/-- The write of the parity line issues: the oldest update of its stripe has been applied (R134). -/
def State.parityWritten (s : State) (pos : Nat) : State :=
  let k := stripeOfLine pos
  match s.parity.find? (fun u => Config.stripeOf u.line == k) with
  | none => s
  | some u =>
    ({ s with parity := s.parity.erase u, parityLines := intoParity s.parityLines k u.diff }).parityGo k

/-- A write to a line of the stripe has been admitted and not issued. -/
def State.stripeQueued (s : State) (k : Nat) : Bool :=
  s.chans.any (fun e => e.2.fq.any (fun r => r.wr && s.guardedLine r.line && Config.stripeOf r.line == k))

/-- The step of a line begins, once no write to its stripe is queued, no parity update of its stripe is pending and no other step of it runs: the position of the stripe
on every other stack is read, one on a failed stack that is not rebuilt being lost (R127, R133). -/
def State.beginStep (s : State) (x : RStep) : State :=
  let k := stripeOfLine x.line
  if x.begun || s.stripeOwes k || s.stripeQueued k || s.steps.any (fun y => y.begun && stripeOfLine y.line == k) then s
  else
    let others := ((List.range 12).filter (fun t => t != s.stackOf x.line)).map (stripePos k)
    let (dead, live) := others.partition (fun p => s.needsRemake p)
    let y := { x with begun := true, left := live.length, lost := !dead.isEmpty }
    ({ s with steps := s.steps.map (fun z => if z = x then y else z) }).forEach live (fun s p =>
      (s.carry (s.ownerDie x.line) (s.ownerDie p) x.line).pushF { line := p, use := .stripe })

/-- Every step that can begin does. -/
def State.stepsGo (s : State) : State := if s.steps.isEmpty then s else s.forEach s.steps State.beginStep

/-- A reconstruction of the line is wanted. -/
def State.wantStep (s : State) (n : Nat) : State :=
  if s.steps.any (fun x => x.line == n) then s else ({ s with steps := s.steps ++ [{ line := n }] } : State).stepsGo

/-- A step's read of a position is back. -/
def State.stripeReturned (s : State) (pos : Nat) (ue : BitVec 16) : State :=
  { s with steps := s.steps.map (fun x =>
      if x.begun && stripeOfLine x.line == stripeOfLine pos then { x with left := x.left - 1, lost := x.lost || ue != 0 } else x) }

/-! ### The atlas store (R171 to R173) -/

/-- The basin die of a key: the owning die, or for an inset entry the die of bits [8:7] (R195). -/
def State.dieOfKey (s : State) (n : Nat) : Nat := if 2 ^ 39 ≤ n then n % 4 else s.ownerDie n

/-- The store set of a key, of the device's 8,388,608 (R171). -/
def State.setOf (s : State) (n : Nat) : Nat := 2097152 * s.dieOfKey n + Config.storeSet n % 2097152

/-- The margin line an access of the store touches. -/
def State.ioLine (s : State) (x : StoreIO) : Nat := storeLine 0 (s.setOf x.key) x.i

/-- The store accesses of a channel wait there for admission as accesses of the Golik's own. -/
def State.storeQueue (s : State) (c : Nat) : State :=
  if s.storeIO.isEmpty then s
  else
    let (mine, rest) := s.storeIO.partition (fun x => s.chanOf (s.ioLine x) == c)
    ({ s with storeIO := rest } : State).forEach mine (fun s x =>
      s.pushF { line := s.ioLine x, use := if x.wr then .storePost else .storeRead, wr := x.wr })

/-- The store set of a key is being read. -/
def State.storeReading (s : State) (n : Nat) : Bool := s.storeReads.any (fun e => e.1 == s.setOf n)

/-- The ten lines of a key's store set are asked for, unless they are under way (R173, R176). -/
def State.readSet (s : State) (n : Nat) : State :=
  if s.storeReading n then s
  else { s with storeReads := mset s.storeReads (s.setOf n) setLines,
                storeIO := s.storeIO ++ (List.range setLines).map (fun i => (⟨n, i, false⟩ : StoreIO)) }

/-- A line of a store set is back; with the last one the set has been read. -/
def State.storeReturned (s : State) (line : Nat) : State :=
  let k := (line - 2 ^ 38) / setLines
  let left := mget 1 s.storeReads k - 1
  { s with storeReads := if left = 0 then merase s.storeReads k else mset s.storeReads k left }

/-! ### Admission (R112, R116, R120) -/

/-- Accesses of the Golik's own admitted ahead of the ingress while the queue has room. -/
def admitInner (c : Nat) : Nat → State → State
  | 0, s => s
  | fuel + 1, s =>
    let x := s.chan c
    match x.inner.find? (fun r => !(r.wr && r.use != .repair && s.stripeHeld r.line)) with
    | none => s
    | some r =>
      if x.fq.length < s.fdepth c ∧ !s.chanAsleep c then
        admitInner c fuel (s.setChan c { x with inner := x.inner.erase r, fq := x.fq ++ [{ r with at_ := x.slots }] })
      else s

/-- Requests admitted from the ingress in arrival order while they can be (R112, R116, R120); a write to a stripe that a step holds
waits (R133). -/
def admitGo (c : Nat) : Nat → State → State
  | 0, s => s
  | fuel + 1, s =>
    let x := s.chan c
    match x.ingress with
    | [] => s
    | r :: rest =>
      if s.chanAsleep c then
        (if x.waking then s else s.setChan c { x with waking := true })
      else if r.wr && s.stripeHeld r.line then s
      else if r.wr && subWord r.mask then
        let b := s.homeChan r.line
        match (s.chan b).entryOf r.line with
        | some e => if e.closing then s
                    else admitGo c fuel ((s.setChan c { x with ingress := rest }).acceptMerge r)
        | none =>
          if (s.chan b).merge.length < 64 then admitGo c fuel ((s.setChan c { x with ingress := rest }).acceptMerge r)
          else match (s.chan b).oldest with
            | some e => s.closeEntry b e.line
            | none => s
      else if x.fq.length < s.fdepth c ∧ x.inner.isEmpty then
        admitGo c fuel (s.setChan c { x with ingress := rest, fq := x.fq ++ [{ r with at_ := x.slots, bank := s.bankOf r.line }] })
      else s

/-- What waits for admission to a channel admitted while it can be: the Golik's own accesses, then the ingress. -/
def State.takeIngress (s : State) (c : Nat) : State :=
  let s := s.storeQueue c
  let s := admitInner c ((s.chan c).inner.length) s
  admitGo c ((s.chan c).ingress.length) s

/-- A request reaches its channel (R112); one to a line still to be rebuilt waits for its reconstruction (R149). -/
def State.requestF (s : State) (r : FReq) : State :=
  let c := s.chanOf r.line
  let s := s.carry (s.ownerDie r.line) (dieOfChan c) r.line
  let x := s.chan c
  if s.needsRemake r.line then (s.setChan c { x with remake := x.remake ++ [r] }).wantStep r.line
  else (s.setChan c { x with ingress := x.ingress ++ [r] }).takeIngress c

/-- The request still waits at ingress (R248). -/
def State.waitsAtIngress (s : State) (n : Nat) : Bool :=
  (s.chan (s.chanOf n)).ingress.any (fun r => r.line == n)

/-- The closing write issues: the touched words are written, those found uncorrectable with a pattern that reads so; the
entry is gone (R119, R121). -/
def State.mergeWriteIssued (s : State) (c n : Nat) : State :=
  let b := s.homeChan n
  let x := s.chan b
  match x.entryOf n with
  | none => s
  | some e =>
    let s := s.setChan b { x with merge := x.merge.filter (fun y => y.line != n) }
    let s := s.bump (Reg.ST_CHAN_MERGE (b / 16) (b % 16)) 0 64 1
    let s := s.arrayWrite c n e.data e.mask
    (s.setBad n (s.badWords n ||| e.ue)).takeIngress c

/-- The write-back of a reconstructed line issues: the line reads right again, and its step ends (R126, R131, R133). -/
def State.repairIssued (s : State) (r : FReq) : State :=
  let n := r.line
  let s := s.setBad n 0
  let s := if 2 ^ 34 ≤ n then s else s.setLine n r.data
  let s : State := if isStripePos n ∧ (n - 2 ^ 36) % 12 = Config.parityStack (stripeOfLine n) % 12 then
      { s with parityLines := mput 0 s.parityLines (stripeOfLine n) r.data } else s
  let s : State := { s with steps := s.steps.filter (fun x => !(x.line == n && x.writing)) }
  (s.stepsGo).parityGo (stripeOfLine n)

/-- The write of a move's copy issues: the line stands at its new place in tier T0 (R418). -/
def State.copyIssued (s : State) (r : FReq) : State :=
  ((s.oweParity r.line (s.line r.line) r.data).setLine r.line r.data).setBad r.line 0

/-- A queued request issues (R111, R112): its bank is busy, the longest wait is kept, a write takes effect, a read is in
flight for 96 slots. -/
def State.issueF (s : State) (c : Nat) (r : FReq) : State :=
  let x := s.chan c
  let s := s.setChan c { (x.makeBusy r.bank) with fq := x.fq.erase r, used := true }
  let s := s.raiseTo (Reg.ST_CHAN_FWAIT (c / 16) (c % 16)) 0 13 (x.slots - r.at_)
  if r.wr then
    match r.use with
    | .mergeWrite => s.mergeWriteIssued c r.line
    | .repair => s.repairIssued r
    | .parityWrite => s.parityWritten r.line
    | .storePost => s
    | .copyWrite => s.copyIssued r
    | _ => (s.arrayWrite c r.line r.data r.mask).act (.issued r)
  else
    let s := if r.use = .mergeRead then s.modEntry (s.homeChan r.line) r.line (fun e => { e with closing := true }) else s
    let x := s.chan c
    s.setChan c { x with flight := x.flight ++ [{ due := x.slots + 96, f := r }] }

/-- The oldest legal request of the queue; none younger than another to its line (R111). -/
def State.pickF (s : State) (c : Nat) : Option FReq :=
  (s.chan c).fq.find? (fun r => s.fLegal c r.bank
    && ((s.chan c).fq.find? (fun q => q.line == r.line)) == some r)

/-! ### Traverse, range pass, rebuild (R140 to R149) -/

/-- A stack rebuilds somewhere on the device. -/
def State.rebuilding (s : State) : Option Nat := (List.range 12).find? (fun k => s.rf (Reg.ST_STACK_STATE k) 0 2 == 1)

/-- Lines a channel holds (R142). -/
def channelLines : Nat := 50331648

/-- A lap of a die ends when all its channels have read all their lines (R142). -/
def State.lapIfDone (s : State) (d : Nat) : State :=
  if (List.range 48).all (fun i => decide (channelLines ≤ (s.chan (48 * d + i)).trv)) then
    let s := (s.setReg (Reg.BS_TRV_LAST_LAP d) (BitVec.ofNat 64 ((s.edges - (s.die d).lapEdge) % 2 ^ 40))).bump
      (Reg.BS_TRV_STATUS d) 32 32 1
    let s := s.setDie d { s.die d with lapEdge := s.edges }
    s.forEach (List.range 48) (fun s i => s.setChan (48 * d + i) { s.chan (48 * d + i) with trv := 0 })
  else s

/-- The line at a channel's array position, 2^39 where it holds none the model names: padding or spare (R94, R140). -/
def linePlaced (c i : Nat) : Nat := (Config.lineAt c i).getD (2 ^ 39)

/-- The bank of a channel's array position. -/
def State.bankPlaced (s : State) (c i : Nat) : Nat :=
  let n := linePlaced c i
  if n = 2 ^ 39 then Config.positionBank c i % 64 else s.bankOf n

/-- One traverse read, where its bank is legal in this slot (R111, R140). -/
def State.traverseRead (s : State) (c : Nat) : State :=
  let x := s.chan c
  let bank := s.bankPlaced c x.trv
  if channelLines ≤ x.trv ∨ s.fLegal c bank = false then s
  else
    let s := s.setChan c { (x.makeBusy bank) with trv := x.trv + 1, flight := x.flight ++
      [{ due := x.slots + 96, f := { line := linePlaced c x.trv, use := .scrub } }] }
    if channelLines ≤ x.trv + 1 then s.lapIfDone (dieOfChan c) else s

/-- The next line of the pass from index i that is not skipped: tier T0 backing, parcel not lost (R143). -/
def passNext (s : State) (start lines : Nat) : Nat → Nat → Nat
  | 0, i => i
  | fuel + 1, i =>
    if lines ≤ i then i
    else if s.inT0 (start + i) && !s.parcelLost (parcelOf (start + i)) then i
    else passNext s start lines fuel (i + (pieceLines - (start + i) % pieceLines))

/-- The summary record of Table 5-3 as eight registers. -/
def passRecord (p : Pass) (result elapsed : Nat) : List Word :=
  [pack [(16, p.id.toNat), (4, result)], p.start, p.lines, BitVec.ofNat 64 p.read,
   pack [(32, p.ce1), (32, p.ce2)], pack [(32, p.ue), (32, p.recon)],
   pack [(46, (p.firstUe.getD 0) * 128), (1, bitN p.firstUe.isSome)], BitVec.ofNat 64 elapsed]

/-- A read of a pass that has ended is handled as the traverse's, and counted in no record. -/
def FReq.passOver (r : FReq) : FReq := if r.use = .pass then { r with use := .scrub } else r

/-- A pass ends: its record stands, the command completes, event 0x2121 (R143). -/
def State.endPass (s : State) (p : Pass) (result : Nat) : State :=
  let s := s.forEach ((List.range 8).zip (passRecord p result (s.edges - p.goEdge)))
    (fun s e => s.setReg (Reg.GL_TRV_SUMMARY e.1) e.2)
  let passed (x : Chan) : Chan := { x with flight := x.flight.map (fun f => { f with f := f.f.passOver }), recon := x.recon.map FReq.passOver }
  let s : State := { s with pass := none, chans := s.chans.map (fun e => (e.1, passed e.2)) }
  (s.done trvRegs result).raise 0x2121 fromController [(2, p.id.toNat), (1, result)]

/-- A pass whose lines have all been read and answered ends. -/
def State.passIfDone (s : State) : State :=
  match s.pass with
  | none => s
  | some p => if p.waiting = 0 ∧ p.lines.toNat ≤ p.next then s.endPass p 0 else s

/-- The pass reads its next line where that lies on this channel; it moves past lines it skips. It does not wake a channel that sleeps: the
spec does not say, DESIGN CHOICE (notes assumption 67). -/
def State.passRead (s : State) (c : Nat) : Option State :=
  match s.pass with
  | none => none
  | some p =>
    let i := passNext s (p.start.toNat / 128) p.lines.toNat 70000 p.next
    let n := p.start.toNat / 128 + i
    if p.lines.toNat ≤ i then some (({ s with pass := some { p with next := i } }).passIfDone)
    else if s.chanOf n = c ∧ s.fLegal c (s.bankOf n) then
      let x := s.chan c
      let s := s.setChan c { (x.makeBusy (s.bankOf n)) with flight := x.flight ++
        [{ due := x.slots + 96, f := { line := n, use := .pass } }] }
      some { s with pass := some { p with next := i + 1, waiting := p.waiting + 1, read := p.read + 1 } }
    else none

/-- The lines of a failed stack are in the spare: those that stay lost are the ones whose stripe has lost a second position
(R127, R149). -/
def State.rebuildEnds (s : State) (k : Nat) : State :=
  let bad := s.bad.filter (fun e => s.stackOf e.1 != k || !(s.guardedLine e.1 || isMargin e.1) || s.stripeBroken e.1)
  let s := (s.setRf (Reg.ST_STACK_STATE k) 0 2 2).setStack k { s.stack k with remade := [] }
  ({ s with bad := bad }).raise 0x2116 (dieOfStack k) [(1, k), (4, s.rf (Reg.ST_REBUILD_DONE k) 0 40)]

/-- One slot use of the rebuild of stack k on a channel, where its bank is legal in this slot: a read of a surviving position or the
write into the spare; twelve rebuild a line, in the rebuild's order (R133, R148, and the worked example of chapter 5). -/
def State.rebuildUse (s : State) (c k : Nat) : State :=
  let x := s.stack k
  let bank := Config.rebuildBank c (12 * s.rf (Reg.ST_REBUILD_DONE k) 0 40 + x.uses) % 64
  if s.fLegal c bank = false then s
  else
    let s := s.setChan c ((s.chan c).makeBusy bank)
    if x.uses + 1 < 12 then s.setStack k { x with uses := x.uses + 1 }
    else
      let s := (s.setStack k { x with uses := 0 }).bump (Reg.ST_REBUILD_DONE k) 0 40 1
      if s.rf (Reg.ST_REBUILD_TOTAL k) 0 40 ≤ s.rf (Reg.ST_REBUILD_DONE k) 0 40 then s.rebuildEnds k else s

/-! ### Clearing of released parcels (R46, R52, R112) -/

/-- Line index of the i-th line of a parcel on a channel (R93), where the parcel has one: none past its end. -/
def lineOnChan (x : Parcel) (p c i : Nat) : Option Nat :=
  let q := 16 * i + c % 16
  if x.hashed then
    match (List.range 12).find? (fun r => 3 * (r % 4) + r / 4 == c / 16) with
    | none => none
    | some r =>
      let skip := (p + 11 - r) / 12
      let q := q + (skip + 15 - c % 16) / 16 * 16
      if 12 * q + r < p + parcelLines then some (12 * q + r - p) else none
  else if x.stack = c / 16 ∧ q < parcelLines then some q else none

/-- One write of zeros of the clearing of a parcel, where a CLEARING parcel has a line left on the channel and its bank is legal in this
slot; a line of a piece without tier T0 backing is passed over. -/
def State.clearUse (s : State) (c : Nat) : Option State :=
  match s.parcels.find? (fun e => e.2.state == .clearing && (lineOnChan e.2 e.1 c (mget 0 (s.chan c).cleared e.1)).isSome) with
  | none => none
  | some e =>
    let x := s.chan c
    let i := mget 0 x.cleared e.1
    match lineOnChan e.2 e.1 c i with
    | none => none
    | some l =>
      let n := e.1 * parcelLines + l
      let x := { x with cleared := mput 0 x.cleared e.1 (i + 1) }
      if !(s.t0Pieces e.1).contains (l / pieceLines) then some (s.setChan c x)
      else if s.fLegal c (s.bankOf n) = false then none
      else some ((s.setChan c (x.makeBusy (s.bankOf n))).clearBytes (128 * n) (128 * n + 128))

/-- The first line, in lineOnChan's count, of a parcel on a channel at or beyond line index l. -/
def firstOnChan (x : Parcel) (p c l : Nat) : Nat :=
  if x.hashed then
    match (List.range 12).find? (fun r => 3 * (r % 4) + r / 4 == c / 16) with
    | none => 0
    | some r =>
      let skip := (p + 11 - r) / 12
      let passed := (skip + 15 - c % 16) / 16 * 16
      ((p + l + 11 - r) / 12 - passed + 15 - c % 16) / 16
  else (l + 15 - c % 16) / 16

/-- The key under which a channel counts the lines it has cleared of an old piece; parcels count under their numbers. -/
def oldKey (i : Nat) : Nat := 2048 + i

/-- The next line of an old piece's backing to clear on a channel (R421). -/
def State.oldLine (s : State) (c i : Nat) : Option Nat :=
  let x := s.parcel (i / 32)
  let first := firstOnChan x (i / 32) c (i % 32 * pieceLines)
  (lineOnChan x (i / 32) c (first + mget 0 (s.chan c).cleared (oldKey i))).filter (fun l => l / pieceLines == i % 32)

/-- The backing of an old piece has been cleared on every channel of a stack that serves: its lines are free (R421). -/
def State.oldCleared (s : State) (i : Nat) : State :=
  if (List.range 192).any (fun c => !s.stackFailed (c / 16) && (s.oldLine c i).isSome) then s
  else { s with oldPieces := s.oldPieces.erase i,
                chans := s.chans.map (fun e => (e.1, { e.2 with cleared := merase e.2.cleared (oldKey i) })) }

/-- One write of zeros to the backing a move has left, where a line of it remains on the channel and its bank is legal in this slot
(R421). Its contents were given up with the move; the piece may be back in tier T0 elsewhere. -/
def State.oldUse (s : State) (c : Nat) : Option State :=
  match s.oldPieces.find? (fun i => (s.oldLine c i).isSome) with
  | none => none
  | some i =>
    match s.oldLine c i with
    | none => none
    | some l =>
      let bank := s.bankOf (i / 32 * parcelLines + l)
      if s.fLegal c bank = false then none
      else
        let x := (s.chan c).makeBusy bank
        some ((s.setChan c { x with cleared := mput 0 x.cleared (oldKey i) (mget 0 x.cleared (oldKey i) + 1) }).oldCleared i)

/-- RUNNING and PAUSED of a die's traverse engine (Table 5-2). -/
def State.trvStatus (s : State) (d : Nat) (running paused : Bool) : State :=
  (s.setRf (Reg.BS_TRV_STATUS d) 0 1 (bitN running)).setRf (Reg.BS_TRV_STATUS d) 1 1 (bitN paused)

/-- A correction write issues: the corrected words as the read returned them (R124). -/
def State.correct (s : State) (c : Nat) (k : Correction) : State :=
  let x := s.chan c
  let s := s.setChan c { (x.makeBusy (s.bankOf k.line)) with corr := x.corr.filter (fun y => y.line != k.line) }
  if 2 ^ 34 ≤ k.line then s else s.writeLine k.line k.data (maskOfWords k.words)

/-- What an S slot, or an F slot no queued request can use, does (R112, R124, R141, R148): a correction write, then the
rebuild, then the clearing of a released parcel or of a piece's old backing, then a range pass or the traverse. The order among them is the Golik's (notes assumption
16). None of them is an access that delays the sleep of its channel, and none wakes one: DESIGN CHOICE (notes assumption 67). -/
def State.background (s : State) (c : Nat) (sSlot : Bool) : State :=
  let d := dieOfChan c
  let level5 := s.rf Reg.GL_PWR_STATE 0 3 = 5
  match (s.chan c).corr.find? (fun k => s.fLegal c (s.bankOf k.line)) with
  | some k => s.correct c k
  | none =>
    if level5 ∧ !sSlot then s
    else match s.rebuilding with
    | some k => if k = c / 16 then s else (s.trvStatus d false true).rebuildUse c k
    | none =>
      match (s.clearUse c).orElse (fun _ => s.oldUse c) with
      | some s => s
      | none =>
        if s.rf Reg.GL_TRV_MODE 0 1 = 1 then
          match s.passRead c with
          | some s => s.trvStatus d true false
          | none => s.trvStatus d s.pass.isSome false
        else (s.trvStatus d true false).traverseRead c

/-! ### A stack fails (R145 to R149) -/

/-- A request that was queued on a stack as it failed: a read of a stripe's position finds it lost, a closing access goes to the line's new
place, one to a lost parcel completes TARGET_LOST, any other waits for its line to be remade (R146 to R149). -/
def State.rehome (s : State) (r : FReq) : State :=
  match r.use with
  | .stripe => s.stripeReturned r.line 0xFFFF
  | .mergeRead | .mergeWrite => if s.parcelLost (parcelOf r.line) then s else s.pushF r
  | .repair | .storePost => s.pushF r
  | _ => if r.line < 2 ^ 34 ∧ s.parcelLost (parcelOf r.line) then s.act (.failed r stTargetLost) else s.requestF r

/-- A stack declared failed in service, and what was queued on its channels carried on (R146). -/
def State.stackFails (s : State) (k cause : Nat) : State :=
  if s.stackFailed k then s
  else
    let s := s.failStack k cause
    s.forEach (List.range 16) (fun s i =>
      let c := 16 * k + i
      let x := s.chan c
      let l := x.fq ++ x.inner ++ x.ingress
      let lost := x.merge.filter (fun m => s.parcelLost (parcelOf m.line))
      let s := s.setChan c { x with fq := [], inner := [], ingress := [], merge := x.merge.filter (fun m => !lost.contains m) }
      s.forEach l State.rehome)

/-! ### E slots (R107 to R110) -/

/-- The checks of Table 4-6 from GROUP on, for the access that holds the slot. -/
def State.eCheck (s : State) (c : Nat) (e : Nat) (b : EBound) : Option Nat :=
  let bank := s.bankOf b.line
  if bank / 4 ≠ entryGroup e then some 0x1C
  else if (s.chan c).bankBusy bank then some 0x1D
  else if b.wr && (subWord b.mask || s.guardedLine b.line) then some 0x1E
  else none

def State.refuseE (s : State) (c : Nat) (b : EBound) (kind : Nat) : State :=
  let s := s.bump (Reg.ST_CHAN_BREACH (c / 16) (c % 16)) 0 32 1
  s.act (.erefused b kind)

/-- The E access that holds a slot is performed (R107). -/
def State.performE (s : State) (c : Nat) (b : EBound) : State :=
  let bank := s.bankOf b.line
  let x := (s.chan c).makeBusy bank
  let s := s.setChan c { x with used := true }
  if b.wr then s.arrayWrite c b.line b.data b.mask
  else
    let x := s.chan c
    s.setChan c { x with flight := x.flight ++
      [{ due := x.slots + 96, f := { line := b.line, use := .ecopy, tag := b.tag }, e := some b }] }

/-- Every E access bound to this slot (R108): without an E slot in force all are refused; else the lowest jet holds it. -/
def State.eSlot (s : State) (c e : Nat) (l : List EBound) (inForce : Bool) : State :=
  if !inForce then s.forEach l (fun s b => s.refuseE c b 0x1A)
  else
    match l.foldl (fun (a : Option EBound) b =>
      match a with
      | none => some b
      | some y => if b.jet < y.jet then some b else some y) none with
    | none => s
    | some h =>
      let s := s.forEach (l.erase h) (fun s b => s.refuseE c b 0x1B)
      match s.eCheck c e h with
      | some k => s.refuseE c h k
      | none => s.performE c h

/-! ### One slot (R95, R98, R111, R145) -/

/-- A second C slot in a row unanswered: the stack fails (Table 5-5). -/
def State.calibrate (s : State) (c : Nat) (answered : Bool) : State :=
  let y := s.chan c
  if answered then s.setChan c { y with cMissed := 0 }
  else
    let s := s.setChan c { y with cMissed := y.cMissed + 1 }
    if 2 ≤ y.cMissed + 1 then s.stackFails (c / 16) 4 else s

/-- SLOT: one command-clock slot of a channel by the class of its position; answered says whether the base die answers a C
slot. A merge entry that reaches its limit begins to close before the slot's access (R119). A sleeping channel passes no slot but refuses
E accesses bound to it (R106, R146); an access bound to a slot that has passed is refused as one that finds no E slot: DESIGN CHOICE (notes
assumption 67). -/
def State.slotCore (s : State) (c : Nat) (answered : Bool) : State :=
  let x := s.chan c
  let e := s.slotEntry c (x.pos % 4096)
  let cls := entryClass e
  let asleep := s.chanAsleep c || s.stackFailed (c / 16)
  let here (b : Nat × EBound) : Bool := b.1 == x.slots
  let now := (x.bound.filter here).map (·.2)
  let late := (x.bound.filter (fun b => decide (b.1 < x.slots))).map (·.2)
  let s := s.setChan c { x with bound := x.bound.filter (fun b => decide (x.slots < b.1)) }
  let s := s.forEach late (fun s b => s.refuseE c b 0x1A)
  let s := if now.isEmpty then s else s.eSlot c e now (!asleep && s.chanRunning c && cls == .e)
  let limit := s.gzv 0x5010 0x01
  let s := s.forEach ((s.chan c).merge.filter (fun m => decide (m.opened + limit ≤ x.slots))) (fun s m => s.closeEntry c m.line)
  let s :=
    if asleep then s.takeIngress c
    else
      let s := s.takeIngress c
      match cls with
      | .f => match s.pickF c with
        | some r => (s.issueF c r).takeIngress c
        | none => s.background c false
      | .s => s.background c true
      | .r =>
        let g := refreshGroup (x.pos % 4096)
        s.setChan c ((List.range 4).foldl (fun y i => y.makeBusy (4 * g + i)) (s.chan c))
      | .c => s.calibrate c answered
      | _ => s
  let y := s.chan c
  s.setChan c { y with pos := (y.pos + 1) % 4096, slots := y.slots + 1 }

/-- MERGE_OPEN_TIMEOUT: the oldest entry, where it has been open for its limit, begins to close (R119). -/
def mergeOpenTimeoutStep (c : Nat) (s : State) : State :=
  match (s.chan c).oldestOpen with
  | some e => if e.opened + s.gzv 0x5010 0x01 ≤ (s.chan c).slots then s.closeEntry c e.line else s
  | none => s

/-! ### What a read returns (R122 to R131, R138, R139) -/

/-- Tenant slot, parcel and line of an event: a slot that does not apply, of a parcel no tenant holds, is all ones, and so is every
field of a line outside the memory window (R472, Table 5-6). -/
def State.lineFields (s : State) (n : Nat) : List (Nat × Nat) :=
  if 2 ^ 34 ≤ n then [(2, 0xFFFF), (2, 0xFFFF), (4, 0xFFFFFFFF)]
  else
    let x := s.parcel (parcelOf n)
    [(2, if x.state = .granted ∨ x.state = .closing then x.tenant else 0xFFFF), (2, parcelOf n), (4, indexOf n)]

/-- Event 0x2110 (Table 5-6). Sources: 0 F read, 1 E read, 2 atomic, 3 merge close, 4 write. -/
def State.uncorrectable (s : State) (n : Nat) (tag : BitVec 16) (source : Nat) : State :=
  s.raise 0x2110 (s.ownerDie n) (s.lineFields n ++ [(2, tag.toNat), (1, source)])

/-- A remap entry allocated to a margin word; with none free, FULL and the replacement request (R138, R139). -/
def State.remapWord (s : State) (c n w : Nat) : State :=
  let k := c / 16
  let i := c % 16
  let (bank, row, w0) := Config.marginPlace n
  let e := pack [(1, 1), (6, bank), (16, row), (8, w0 + w)]
  let used := s.rf (Reg.ST_CHAN_REMAP k i) 0 5
  if (List.range used).any (fun j => s.reg (Reg.ST_REMAP k (16 * i + j)) == e) then s
  else if used < 16 then
    ((s.setReg (Reg.ST_REMAP k (16 * i + used)) e).setRf (Reg.ST_CHAN_REMAP k i) 0 5 (used + 1)).raise 0x2113 (dieOfStack k)
      [(1, k), (1, i), (1, used)]
  else if s.rf (Reg.ST_CHAN_REMAP k i) 5 1 = 1 then s
  else (s.setRf (Reg.ST_CHAN_REMAP k i) 5 1 1).raiseCause 0x2114 (dieOfStack k) [(1, k), (1, i)] .remap

/-- One-bit corrections of margin words on consecutive laps (R138). -/
def State.countOnes (s : State) (c n : Nat) (one : BitVec 16) : State :=
  s.forEach (List.range 16) (fun s w =>
    let x := s.chan c
    let key := 16 * n + w
    if one.getLsbD w then
      let k := mget 0 x.ones key + 1
      let s := s.setChan c { x with ones := mput 0 x.ones key k }
      if s.gzv 0x2040 0x02 ≤ k then s.remapWord c n w else s
    else s.setChan c { x with ones := merase x.ones key })

/-- Corrected words queued for a correction write, as the read returned them, at most 64 lines a channel (R124). -/
def State.queueCorrection (s : State) (c n : Nat) (ws : BitVec 16) (l : Line) : State :=
  if ws = 0 then s
  else
    let x := s.chan c
    let more (k : Correction) : Correction :=
      if k.line = n then { k with words := k.words ||| ws, data := mergeBytes k.data l (maskOfWords ws) } else k
    if x.corr.any (fun k => k.line == n) then s.setChan c { x with corr := x.corr.map more }
    else if x.corr.length < 64 then s.setChan c { x with corr := x.corr ++ [{ line := n, words := ws, data := l }] }
    else s.bump (Reg.ST_CHAN_REMAP (c / 16) (c % 16)) 32 32 1

/-- Uncorrectable words read count against the rate that fails a stack (R144, Table 5-5). -/
def State.ueRate (s : State) (k n : Nat) : State :=
  if n = 0 then s
  else
    let x := s.stack k
    let times := (List.replicate n s.now ++ x.ueTimes).filter (fun t => decide (s.now ≤ t + 1000000 * s.gzv 0x2040 0x04))
    let s := s.setStack k { x with ueTimes := times }
    if s.gzv 0x2040 0x03 ≤ times.length then s.stackFails k 5 else s

/-- The entry's bytes merged onto the words its closing read returned; its closing write follows (R119, R121). -/
def State.mergeReadBack (s : State) (n : Nat) (l : Line) (ue : BitVec 16) : State :=
  let b := s.homeChan n
  let x := s.chan b
  match x.entryOf n with
  | none => s
  | some e =>
    if !e.closing then s
    else if e.mask = 0 then s.setChan b { x with merge := x.merge.filter (fun y => y.line != n) }
    else
      let part := touchedWords e.mask &&& ~~~ fullWords e.mask
      let badNow := part &&& ue
      let s := if ue = 0 then s
        else (s.bump (Reg.ST_CHAN_MERGE_UC (b / 16) (b % 16)) 0 32 1).uncorrectable n e.tag 3
      let data := mergeBytes l e.data e.mask
      let s := s.modEntry b n (fun y => { y with data := data, mask := maskOfWords (touchedWords e.mask), ue := badNow })
      s.pushF { line := n, use := .mergeWrite, wr := true, tag := e.tag }

/-- Event 0x2111 of an uncorrectable word the traverse or a range pass leaves (R142). The spec gives no event for a guarded line that
cannot be reconstructed: the model raises this one, DESIGN CHOICE (notes assumption 67); padding and spare hold no data, and nothing is
raised for them. -/
def State.foundBad (s : State) (n : Nat) (ue : BitVec 16) : State :=
  if ue = 0 ∨ 2 ^ 34 ≤ n then s else s.raise 0x2111 (s.ownerDie n) (s.lineFields n)

/-- A read that has its final outcome, with what the array gave: handed to what asked for it. -/
def State.readDone (s : State) (r : FReq) (l : Line) (ue : BitVec 16) : State :=
  match r.use with
  | .mergeRead => s.mergeReadBack r.line l ue
  | .scrub => s.foundBad r.line ue
  | .pass =>
    let s := s.foundBad r.line ue
    (match s.pass with
    | none => s
    | some p =>
      let first := if ue = 0 ∨ p.firstUe.isSome then p.firstUe else some r.line;
      { s with pass := some { p with waiting := p.waiting - 1, ue := p.ue + popCount ue, firstUe := first } }).passIfDone
  | .ecopy => if ue = 0 then s else s.uncorrectable r.line r.tag 1
  | .stripe => s.stripeReturned r.line ue
  | .storeRead => s.storeReturned r.line
  | .parityRead => s.pushF { line := r.line, use := .parityWrite, wr := true }
  | _ => s.act (.returned r (s.withEntry r.line l) ue)

/-- The words a read returns are lost to no one: a guarded line, a margin line or a parity line is reconstructed, but not for a read of a
reconstruction itself (R126, R131, R142). -/
def State.reconstructs (s : State) (r : FReq) : Bool :=
  r.use != .stripe && (s.guardedLine r.line || isMargin r.line || isStripePos r.line)

/-- ARRAY_READ_RETURN: the oldest read in flight, whose 96 slots have passed, comes back with what the word code made of it (R107, R123 to
R129, R138). The contents are those of the return slot, to which R117 applies the open entry; a word written since the read's issue is
read as written: the spec does not say whether a read in flight takes the array of its issue or of its return, DESIGN CHOICE (notes assumption
67). An error that decodes as clean or corrected though it is none is returned, and may be written back (R122, R124). -/
def State.readReturn (s : State) (c : Nat) (d : Decoded) : State :=
  let x := s.chan c
  match x.flight with
  | [] => s
  | f :: rest =>
    if x.slots < f.due then s
    else
    let r := f.f
    let k := c / 16
    let i := c % 16
    let ue := (d.ue &&& ~~~ f.covered) ||| s.badWords r.line
    let two := d.two &&& ~~~ ue &&& ~~~ f.covered
    let one := d.one &&& ~~~ ue &&& ~~~ two &&& ~~~ f.covered
    let l := if d.wrong = 0 then s.line r.line
      else s.line r.line ^^^ (d.wrong &&& spread (maskOfWords (~~~ (ue ||| f.covered))))
    let s := s.setChan c { x with flight := rest }
    let s := if ue = s.badWords r.line ∨ r.use = .stripe then s else s.setBad r.line ue
    let s := ((s.bump (Reg.ST_CHAN_CE1 k i) 0 32 (popCount one)).bump (Reg.ST_CHAN_CE2 k i) 0 32 (popCount two)).bump
      (Reg.ST_CHAN_UE k i) 0 32 (popCount ue)
    let s := (s.queueCorrection c r.line (one ||| two) l).ueRate k (popCount ue)
    let s := if isMargin r.line then s.forEach (onesOf two) (fun s w => s.remapWord c r.line w) else s
    let s := if isMargin r.line ∧ r.use = .scrub then s.countOnes c r.line one else s
    let s := match s.pass with
      | some p => if r.use = FUse.pass then
          { s with pass := some { p with ce1 := p.ce1 + popCount one, ce2 := p.ce2 + popCount two } } else s
      | none => s
    let s := match f.e with
      | some b => s.act (.eread b (s.withEntry b.line l) ue)
      | none => s
    if ue = 0 then s.readDone r l 0
    else if s.reconstructs r then
      let y := s.chan c
      (s.setChan c { y with recon := y.recon ++ [r] }).wantStep r.line
    else s.readDone r l ue

/-- The channel where reads or requests wait for the reconstruction of a line: the one they came by (R126, R149). -/
def State.reconChan (s : State) (n : Nat) : Nat :=
  ((List.range 192).find? (fun c => (s.chan c).recon.any (fun r => r.line == n) || (s.chan c).remake.any (fun r => r.line == n))).getD
    (s.chanOf n)

/-- The line as the XOR of its stripe's other positions: a parity line is that of the data positions; a margin line's contents the model
does not hold (R132, R133). -/
def State.reconstructed (s : State) (n : Nat) : Line :=
  if isMargin n then 0
  else if isStripePos n ∧ (n - 2 ^ 36) % 12 = Config.parityStack (stripeOfLine n) % 12 then s.dataXor (stripeOfLine n)
  else s.stripeXor n

/-- RECONSTRUCT_DONE: a step whose reads are all back ends: the XOR of its stripe's other positions is the line, or a second position of it is
lost (R126 to R128, R131, R133, R149). -/
def State.reconstructCore (s : State) (n : Nat) (found : Bool) : State :=
  match s.steps.find? (fun y => y.line == n && y.begun && !y.writing && y.left == 0) with
  | none => s
  | some step =>
    let c := s.reconChan n
    let x := s.chan c
    let waiting := x.recon.filter (fun r => r.line == n)
    let remade := x.remake.filter (fun r => r.line == n)
    let s := s.setChan c { x with recon := x.recon.filter (fun r => r.line != n),
                                  remake := x.remake.filter (fun r => r.line != n) }
    if found && !step.lost && !s.stripeBroken n then
      let l := s.reconstructed n
      let s := if waiting.isEmpty then s else
        (s.bump (Reg.ST_CHAN_UE (c / 16) (c % 16)) 32 32 1).raise 0x2112 (dieOfChan c)
          [(1, c / 16), (1, c % 16), (8, if isMargin n then marginOffset n else if 2 ^ 34 ≤ n then 2 ^ 64 - 1 else 128 * n)]
      let s := if isMargin n then s.forEach (onesOf (s.badWords n)) (fun s w => s.remapWord c n w) else s
      let s := match s.pass with
        | some p => if waiting.any (fun r => r.use == FUse.pass) then { s with pass := some { p with recon := p.recon + 1 } }
                    else s
        | none => s
      let s : State := { s with steps := s.steps.map (fun y => if y = step then { y with writing := true } else y) }
      let s := if remade.isEmpty then s else
        let k := s.stackOf n
        s.setStack k { s.stack k with remade := (s.stack k).remade ++ [n] }
      let s := s.pushF { line := n, use := .repair, wr := true, data := l }
      let s := s.forEach waiting (fun s r => s.readDone r l 0)
      s.forEach remade (fun s r => s.requestF r)
    else
      let s : State := { s with steps := s.steps.erase step }
      if isMargin n then s.marginLost (c / 16) (c % 16) (marginOffset n)
      else
        let s := s.forEach waiting (fun s r => s.readDone r (s.line n) (s.badWords n))
        let s := s.forEach remade (fun s r => s.act (.returned r 0 0xFFFF))
        (s.stepsGo).parityGo (stripeOfLine n)

/-- PARITY_UPDATE_RX: the oldest difference of the line that is under way reaches the parity line's die, which applies the updates of a stripe in
the order their data writes issued (R134). -/
def parityUpdateRxStep (n : Nat) (s : State) : State :=
  match s.parity.find? (fun u => u.line == n && !u.arrived) with
  | none => s
  | some u =>
    let k := Config.stripeOf n
    (({ s with parity := s.parity.replace u { u with arrived := true } }).carry (s.ownerDie n)
      (dieOfStack (Config.parityStack k % 12)) n).parityGo k

/-! ### Traverse commands (R140, R143) -/

/-- A write of GL_TRV_MODE: a change to range-pass mode abandons the laps in progress. A range pass that runs while the mode is written to
idle-cycle mode stays BUSY and reads nothing until it is written back: the spec does not say, DESIGN CHOICE (notes assumption 67). -/
def State.trvModeWrite (s : State) (rangePass : Bool) : State :=
  let was := s.rf Reg.GL_TRV_MODE 0 1
  let s := s.setRf Reg.GL_TRV_MODE 0 1 (bitN rangePass)
  if was = bitN rangePass then s
  else
    let s := s.forEach (List.range 4) (fun s d => s.setDie d { s.die d with lapEdge := s.edges })
    s.forEach (List.range 192) (fun s c => s.setChan c { s.chan c with trv := 0 })

/-- A write of GL_TRV_CMD (R143, R556). ABORT is taken while BUSY is 1. A write of the reserved OP 0x3 completes nothing and counts in DROPS
only while BUSY is 1: the spec gives it no result, DESIGN CHOICE (notes assumption 67). -/
def State.trvCommand (s : State) (w : Word) : State :=
  match field w 0 2 with
  | 0 => s
  | 1 => s.command trvRegs (fun s =>
      let start := s.reg Reg.GL_TRV_START
      let lines := s.reg Reg.GL_TRV_LINES
      if s.rf Reg.GL_TRV_MODE 0 1 = 0 then s.done trvRegs 1
      else if lines = 0 ∨ 2 ^ 41 < start.toNat + 128 * lines.toNat then s.done trvRegs 2
      else ({ s with pass := some { id := BitVec.ofNat 16 (field w 32 16), start := start, lines := lines,
                                    goEdge := s.edges } }).keepBusy trvRegs w)
  | 2 => match s.pass with
    | some p => s.endPass p 3
    | none => s.done trvRegs 4
  | _ => s.bump Reg.GL_TRV_DROPS 0 32 (bitN (s.busy trvRegs))

end Sys2Proof.Machine
end

