-- ==== Sys2Proof/Machine/Check.lean ====
section
/-!
DEFINITION. Context tags, the check at the home (chapter 3), fault records, and the per-tenant counting of responses (R322).
-/

namespace Sys2Proof.Machine

/-! ### The context table and the management tag (R59 to R63) -/

/-- The valid entry that holds a tag, with its number. -/
def State.ctxOf (s : State) (tag : BitVec 16) : Option (Nat × Ctx) :=
  s.ctxs.find? (fun e => e.2.valid && e.2.tag == tag)

/-- The tenant slot a tag maps to. -/
def State.slotOf (s : State) (tag : BitVec 16) : Option Nat := (s.ctxOf tag).map (fun e => e.2.tenant)

/-- The tag holds management rights (R61). -/
def State.isMgmt (s : State) (tag : BitVec 16) : Bool :=
  s.rf Reg.GL_MGMT_TAG 16 1 == 1 && s.rf Reg.GL_MGMT_TAG 0 16 == tag.toNat

/-- A write of GL_MGMT_TAG: one that would name a valid context's tag as management tag is discarded and counted (R61). -/
def State.mgmtTagWrite (s : State) (v : Word) : State :=
  if v.getLsbD 16 && (s.ctxOf (v.setWidth 16)).isSome then s.bump Reg.GL_CTX_DROPS 32 32 1
  else s.setReg Reg.GL_MGMT_TAG (v &&& 0x1FFFF)

/-- Translation-cache entries of a tag dropped on all four dies; pinned ones at their leg's end (R63, R80, R81). -/
def State.dropXlate (s : State) (hit : XEntry → Bool) : State :=
  s.forEach (List.range 4) (fun s d =>
    let x := s.die d
    let marked := x.xlate.map (fun e => if hit e then { e with drop := true } else e)
    s.setDie d { x with xlate := marked.filter (fun e => !(e.drop && e.pins.isEmpty)) })

/-- The result of a context command with its LAST_ENTRY. -/
def State.ctxDone (s : State) (entry result : Nat) : State :=
  (s.setRf Reg.GL_CTX_STATUS 8 10 entry).done ctxRegs result

/-- The tag's entry is fenced, as by FENCE_TAG; a tag already fenced is not changed (R324, R183). What R324 ends is ended
through the new drain before the command that runs is over. -/
def State.fence (s : State) (tag : BitVec 16) : State :=
  match s.ctxOf tag with
  | some (n, c) =>
    if c.fenced then s
    else
      let s := s.setCtx n { c with fenced := true };
      { s with drains := s.drains ++ [{ tag := tag, slot := c.tenant }] }
  | none => s

/-! ### Counting responses (R322) -/

/-- A response's status counted in the slot its request's tag maps to. -/
def State.countStatus (s : State) (tag : BitVec 16) (status : Nat) : State :=
  match s.slotOf tag with
  | none => s
  | some t =>
    if status = stNoParcel then s.bump (Reg.TN_CNT_REFUSED t) 0 32 1
    else if status = stFenced then s.bump (Reg.TN_CNT_REFUSED t) 32 32 1
    else if status = stTargetLost then s.bump (Reg.TN_CNT_FAILED t) 0 32 1
    else if status = stUncorrectable then s.bump (Reg.TN_CNT_FAILED t) 32 32 1
    else if status = stRetry then s.bump (Reg.TN_CNT_RETRY t) 0 64 1
    else s

/-! ### Requests and who sends them -/

/-- The die at which a request enters the Golik (R31, R64). -/
def Origin.die : Origin → Nat
  | .port p => dieOfPort p
  | .group g => 2 * g
  | .eng (.jet j _) => dieOfJet j
  | .eng (.qp t q _) => (t + q) % 4
  | .eng (.move p k) => (p + k) % 4
  | .eng (.rlc d _) => d

/-- The key of the order record and echo records of a request's source (R218, R264): its device ID, or 16,384 for the
companion. -/
def sourceKey (f : Frame) : Origin → Nat
  | .group _ => 16384
  | _ => f.src.toNat

/-- The request is to the memory window. -/
def inMemory (f : Frame) : Bool := decide (f.addr.toNat < 2 ^ 41)

/-- The first byte of the register window (R38). -/
def regBase : Nat := 0x3F00_0000_0000

/-- The request is to the register window. -/
def inRegisters (f : Frame) : Bool := decide (regBase ≤ f.addr.toNat) && decide (f.addr.toNat < regBase + 2 ^ 28)

/-- The coherence-port entry of a request's source that satisfies p (R153). -/
def State.portFor (s : State) (f : Frame) (o : Origin) (p : CPort → Bool) : Option Nat :=
  match o with
  | .group _ => if p (s.cport 0) then some 0 else none
  | .port _ => (s.cports.find? (fun e => decide (0 < e.1) && e.2.device == f.src && p e.2)).map (·.1)
  | .eng _ => none

/-- Distance of an ordered number from OT (R218). -/
def OrderRec.dist (r : OrderRec) (n : BitVec 24) : Nat := (n - r.ot).toNat

/-- An ordered request's number is beyond the window. -/
def OrderRec.beyond (r : OrderRec) (n : BitVec 24) : Bool := decide (257 ≤ r.dist n) && decide (r.dist n < 2 ^ 23)

/-- An ordered request's number has already retired. -/
def OrderRec.behind (r : OrderRec) (n : BitVec 24) : Bool :=
  decide (r.dist n = 0) || decide (2 ^ 23 ≤ r.dist n)
    || (decide (r.dist n ≤ 256) && r.retired.getLsbD (r.dist n - 1))

/-- OT advanced over the leading RETIRED bits. -/
def advanceGo : Nat → OrderRec → OrderRec
  | 0, r => r
  | fuel + 1, r => if r.retired.getLsbD 0 then advanceGo fuel { ot := r.ot + 1, retired := r.retired >>> 1 } else r

/-- A number of the window retires (R219). -/
def OrderRec.retire (r : OrderRec) (n : BitVec 24) : OrderRec :=
  if decide (1 ≤ r.dist n) && decide (r.dist n ≤ 256) then
    advanceGo 256 { r with retired := withBit r.retired (r.dist n - 1) } else r

def State.retire (s : State) (src : Nat) (n : BitVec 24) : State := s.setOrder src ((s.order src).retire n)

/-- A request breaks a flag rule of R257. -/
def flagsBad (f : Frame) : Bool :=
  let t := f.typ.toNat
  ((t == 0x1A || t == 0x1B || t == 0x1C || (t == 0x18 && f.isSeal)) && !f.ord)
    || (f.ord && !(decide (0x18 ≤ t) && decide (t ≤ 0x1C)))
    || (f.isSeal && !(t == 0x18 || t == 0x1A))
    || (f.gauge != 0 && !(t == 0x1A || t == 0x1B))

/-- Rights a request type requires: RD, WR, AT in bits 0 to 2 (Table 3-5). -/
def rightsNeeded (typ : Nat) : BitVec 4 :=
  if typ = 0x10 ∨ typ = 0x12 then 0b0001
  else if typ = 0x11 ∨ typ = 0x13 then 0b0011
  else if typ = 0x18 ∨ typ = 0x19 ∨ typ = 0x1A ∨ typ = 0x1B then 0b0010
  else if typ = 0x1C then 0b0100
  else 0

/-- Rights a request requires: a jet's bundle fetch, which its AUX marks inside the Golik, EX (Table 3-5). -/
def rightsFor (f : Frame) (o : Origin) : BitVec 4 :=
  match o with
  | .eng _ => if f.typ.toNat = 0x12 ∧ f.aux = 1 then 0b1000 else rightsNeeded f.typ.toNat
  | _ => rightsNeeded f.typ.toNat

/-- A parcel holds every right named. -/
def hasRights (have_ need : BitVec 4) : Bool := have_ &&& need == need

/-- The commons list admits a tenant slot (R528). -/
def State.commonsAdmits (s : State) (t : Nat) : Bool := s.rf (Reg.GL_COMMONS_LIST (t / 64)) (t % 64) 1 == 1

/-- Steps 7 and 8 of Table 3-4 for a tenant slot and the rights a request needs. -/
def State.parcelAdmits (s : State) (p t : Nat) (need : BitVec 4) : Bool :=
  let x := s.parcel p
  match x.state with
  | .granted => x.tenant == t && hasRights x.rights need
  | .commons => s.commonsAdmits t
  | _ => false

/-- What the check answers: admitted for a tenant slot, or refused with a status. -/
inductive Verdict where
  | allow (tenant : Nat)
  | refuse (status : Nat)
deriving DecidableEq, Repr

/-- Steps 4, 5, 7 and 8 of Table 3-4 for a memory-window request: tag, fence, parcel, rights; WriteBack and EvictClean pass
step 5 and step 8 (R66, R326). A lent parcel admits its borrower's VC1 requests in their place (R414). -/
def State.checkMemory (s : State) (f : Frame) (o : Origin) : Verdict :=
  let p := parcelOf f.line
  let t := f.typ.toNat
  let lent : Bool := match o, mfind s.lends p with
    | .port _, some b => b == f.src && f.vc == 1
    | _, _ => false
  if lent then (if t = 0x12 ∨ t = 0x18 ∨ t = 0x19 then .allow (s.parcel p).tenant else .refuse stNoParcel)
  else if s.isMgmt f.ctx then .refuse stContext
  else match s.ctxOf f.ctx with
  | none => .refuse stContext
  | some (_, c) =>
    if c.fenced && !(t == 0x14 || t == 0x15) then .refuse stFenced
    else if s.parcelAdmits p c.tenant (rightsFor f o) then .allow c.tenant
    else .refuse stNoParcel

/-- R58 for a register-window offset: a tenant block admits its slot's tags and the management tag, everything else the
management tag alone. -/
def State.checkRegister (s : State) (tag : BitVec 16) (off : Nat) : Verdict :=
  if s.isMgmt tag then .allow 0
  else if 0x100_0000 ≤ off ∧ off < 0x500_0000 then
    match s.ctxOf tag with
    | none => .refuse stContext
    | some (_, c) =>
      if c.tenant ≠ (off - 0x100_0000) / 0x1_0000 then .refuse stContext
      else if c.fenced then .refuse stFenced
      else .allow c.tenant
  else .refuse stContext

/-- The writer of a command row is admitted to the register (R49, R58): the companion always, the management bus through
the register's mirror where it has one, a tag under R58. -/
def State.admits (s : State) (w : Writer) (off : Nat) (mirror : Bool) : Bool :=
  match w with
  | .companion => true
  | .bus => mirror
  | .tag t => s.checkRegister t off != .refuse stContext && s.checkRegister t off != .refuse stFenced

/-! ### Fault records (R87 to R90) -/

/-- The die that serves a queue pair (R314). -/
def dieOfQp (t q : Nat) : Nat := (t + q) % 4

/-- What a fault record says (Table 3-10). -/
structure FaultRec where
  tenant : Nat
  kind : Nat
  status : Nat
  ctx : BitVec 16
  jet : Nat := 0
  mover : Bool := false
  qp : Nat := 0
  va : Nat := 0
  gpa : Nat := 0

/-- The basin die of the jet or of the queue pair's mover (R472). -/
def FaultRec.origin (r : FaultRec) : Nat := if r.mover then dieOfQp r.tenant r.qp else dieOfJet r.jet

/-- The four words of a fault record (Table 3-10). -/
def FaultRec.words (r : FaultRec) (stamp : Nat) : List Word :=
  [pack [(8, r.kind), (8, r.status), (16, r.ctx.toNat), (7, r.jet), (1, bitN r.mover), (6, r.qp)],
   BitVec.ofNat 64 r.va, BitVec.ofNat 64 r.gpa, BitVec.ofNat 64 stamp]

/-- A fault record written to its tenant's ring, or lost to a full one; event 0x6010 either way, and a copy for the
companion (R87, R88, R90, R309). -/
def State.writeFault (s : State) (r : FaultRec) : State :=
  let t := r.tenant
  let head := s.rf (Reg.TN_FAULT_HEAD t) 0 5
  let words := r.words s.edges
  let ev (s : State) (idx : Nat) : State :=
    s.raise 0x6010 r.origin [(2, t), (1, r.kind), (1, r.status), (2, r.ctx.toNat), (1, r.jet), (1, bitN r.mover),
      (1, r.qp), (1, idx)]
  let s :=
    if (head + 1) % 32 = s.rf (Reg.TN_FAULT_TAIL t) 0 5 then
      ev ((s.setRf (Reg.TN_FAULT_STATUS t) 1 1 1).bump (Reg.TN_FAULT_LOST t) 0 32 1) 0xFF
    else
      let s := s.forEach ((List.range 4).zip words) (fun s e => s.setReg (Reg.TN_FAULT_REC t (4 * head + e.1)) e.2)
      let s := (s.setRf (Reg.TN_FAULT_HEAD t) 0 5 (head + 1)).bump (Reg.TN_FAULT_HEAD t) 32 32 1
      ev (s.setRf (Reg.TN_FAULT_STATUS t) 0 1 1) head
  let credits := mget 0 s.thoit.credits 3
  if credits = 0 then s.bump Reg.GL_THOIT_COUNTS 16 16 1
  else
    let f : Frame := { typ := 0xA2, aux := pack [(3, 1), (29, 0), (10, t)], data := lineOfWords words }
    { s with thoit := { s.thoit with credits := mput 0 s.thoit.credits 3 (credits - 1),
                                     waiting := s.thoit.waiting ++ [(3, f)] } }

/-- The tag is fenced here and its drain has begun (R327). -/
def State.drainsTag (s : State) (tag : BitVec 16) : Bool := s.drains.any (fun x => x.tag == tag && x.applied)

end Sys2Proof.Machine
end

