-- ==== Sys2Proof/Machine/Link.lean ====
section
/-!
DEFINITION. The Speger ports (chapter 9): credits, sequenced sending, link retry, training, lane changes and lane sleep.
-/

namespace Sys2Proof

/-! ### Frame kinds (Tables 9-3 and 9-4) -/

/-- A frame type carries 128 bytes of payload. -/
def hasPayload (typ : Nat) : Bool :=
  [0x14, 0x18, 0x19, 0x1A, 0x1B, 0x1C, 0x40, 0x47, 0x51, 0x60, 0x81].contains typ

/-- A masked write, which a MASK frame follows (R245). -/
def isMasked (typ : Nat) : Bool := typ == 0x19 || typ == 0x1B

/-- The VCs Table 9-3 allows a type. -/
def vcsOf (typ : Nat) : List Nat :=
  if 0x10 ≤ typ ∧ typ ≤ 0x1C then [0, 1]
  else if typ = 0x40 ∨ typ = 0x41 ∨ (0x50 ≤ typ ∧ typ ≤ 0x52) then [3]
  else if 0x42 ≤ typ ∧ typ ≤ 0x47 then [2]
  else if 0x60 ≤ typ ∧ typ ≤ 0x62 then [4]
  else if 0x80 ≤ typ ∧ typ ≤ 0x83 then [5]
  else if 0xF0 ≤ typ then [5]
  else []

/-- A type of Table 9-3 that belongs to a VC; vendor types count in test mode only (R244). -/
def knownType (test : Bool) (typ : Nat) : Bool :=
  [0x10, 0x11, 0x12, 0x13, 0x14, 0x15, 0x18, 0x19, 0x1A, 0x1B, 0x1C, 0x40, 0x41, 0x42, 0x43, 0x44, 0x45, 0x46, 0x47,
   0x50, 0x51, 0x52, 0x60, 0x61, 0x62, 0x80, 0x81, 0x82, 0x83].contains typ || (test && decide (0xF0 ≤ typ))

/-- Bytes of a frame on the wire, with its MASK frame where it has one (R240, R245). -/
def Frame.bytes (f : Frame) : Nat :=
  (if hasPayload f.typ.toNat then 160 else 32) + (if isMasked f.typ.toNat then 32 else 0)

/-- Credits a frame takes: one per 32 bytes (R247). -/
def Frame.credits (f : Frame) : Nat := f.bytes / 32

/-- Sequenced frames it counts as (R249). -/
def Frame.count (f : Frame) : Nat := if isMasked f.typ.toNat then 2 else 1

/-- The MASK frame of a masked write, as a frame of its own (R245). -/
def Frame.maskOnly (f : Frame) : Frame := { ver := f.ver, typ := 0x1F, vc := f.vc, mask := f.mask }

end Sys2Proof

namespace Sys2Proof.Machine

/-- Caching requests (R155). -/
def isCaching (typ : Nat) : Bool := [0x10, 0x11, 0x13, 0x14, 0x15].contains typ

/-! ### Port states (Table 9-10) -/

/-- STATE of PT_LINK_STATE. -/
def State.linkState (s : State) (p : Nat) : Nat := s.rf (Reg.PT_LINK_STATE p) 0 3

def stDown : Nat := 0
def stTraining : Nat := 1
def stUp : Nat := 2
def stDegraded : Nat := 3
def stDisabled : Nat := 4
def stNoCommon : Nat := 5

def State.setLinkState (s : State) (p x : Nat) : State := s.setRf (Reg.PT_LINK_STATE p) 0 3 x

/-- The port carries frames: UP or DEGRADED. -/
def State.portUp (s : State) (p : Nat) : Bool := s.linkState p == stUp || s.linkState p == stDegraded

/-- Peer DEVICE as last learnt. -/
def State.portPeer (s : State) (p : Nat) : Nat := s.rf (Reg.PT_LINK_STATE p) 26 14

/-- The ports that are UP or DEGRADED, as a mask. -/
def State.portsUp (s : State) : BitVec 48 :=
  (List.range 48).foldl (fun a p => if s.portUp p then withBit a p else a) 0

/-! ### Sending sequenced frames (R246 to R251) -/

/-- The replay buffer's 128 KiB. -/
def replayRoom : Nat := 131072

def replayBytes (l : List Frame) : Nat := l.foldl (fun a f => a + f.bytes) 0

/-- A frame put on the wire: its credits leave HELD, it is counted and kept for replay. -/
def State.transmit (s : State) (p : Nat) (f : Frame) (credits : Bool) : State :=
  let v := f.vc.toNat
  let s := if credits then s.setRf (Reg.PT_CREDIT p v) 24 12 (s.rf (Reg.PT_CREDIT p v) 24 12 - f.credits) else s
  let x := s.port p
  let s := s.setPort p { x with tx := (x.tx + f.count) % 65536, replay := x.replay ++ [f] }
  (s.bump (Reg.PT_FRAMES_TX p) 0 64 f.count).send (.frame p f)

/-- The port may send sequenced frames now. -/
def State.canSend (s : State) (p : Nat) : Bool :=
  s.portUp p && !(s.port p).swapping && !(s.port p).txAsleep && s.serving

/-! ### Ageing and shaping of the sluice's frames (R285, R287) -/

/-- A frame's age, in 32 ns steps rounded up. -/
def State.ageOf (s : State) (x : SFrame) : Nat := (s.now - x.stamp + 31) / 32 * 32

/-- The frame has reached the age limit; VC2 is never aged. -/
def State.aged (s : State) (x : SFrame) : Bool := x.f.vc != 2 && decide (1000 * s.gzv 0x4040 0x01 ≤ s.ageOf x)

/-- An age discard counted at its output (PT_SLU_AGED); the credits reserved for the frame return where it had begun to cross (R287). -/
def State.discardAged (s : State) (output : Nat) (x : SFrame) (reserved : Bool) : State :=
  let v := x.f.vc.toNat
  if output < 48 then
    let s := s.bump (Reg.PT_SLU_AGED output v) 0 32 1
    if reserved then s.setRf (Reg.PT_CREDIT output v) 24 12 (s.rf (Reg.PT_CREDIT output v) 24 12 + x.f.credits) else s
  else s

def State.bucket (s : State) (output cls : Nat) : Bucket := mget {} s.sluice.buckets (1024 * output + cls)
def State.setBucket (s : State) (output cls : Nat) (b : Bucket) : State :=
  { s with sluice := { s.sluice with buckets := mput {} s.sluice.buckets (1024 * output + cls) b } }

def floorRate (s : State) (output cls : Nat) : Nat := s.rf (Reg.PT_SHAPE output cls) 0 16
def ceilRate (s : State) (output cls : Nat) : Nat := s.rf (Reg.PT_SHAPE output cls) 16 16

/-- The bytes of a frame taken from both buckets of its class as it leaves the output. The ceiling's goes below empty, which bounds what
leaves as R285 has it; the floor's does not, so that what a class sends beyond its floor never delays the floor (DEDUCED, notes assumption 30). -/
def State.spend (s : State) (output : Nat) (x : SFrame) : State :=
  match x.cls with
  | none => s
  | some c =>
    let b := s.bucket output c
    let n : Int := Int.ofNat (105 * x.f.bytes)
    s.setBucket output c { floor := max 0 (b.floor - n), ceil := b.ceil - n }

/-- FLOOR_SUM and FLOOR_OVER of an output; event 0x4123 when FLOOR_OVER sets (R285, Table 10-6). -/
def State.floorCheck (s : State) (p : Nat) : State :=
  let sum := (List.range 1024).foldl (fun a c => a + floorRate s p c) 0
  let rate := if popCount (BitVec.ofNat 9 (s.rf (Reg.PT_LINK_STATE p) 17 9)) = 4 then 10000 else 20000
  let was := s.rf (Reg.PT_SLU_STATE p) 0 1
  let s := (s.setRf (Reg.PT_SLU_STATE p) 16 24 sum).setRf (Reg.PT_SLU_STATE p) 0 1 (bitN (decide (rate < sum)))
  if rate < sum ∧ was = 0 then s.raise 0x4123 (dieOfPort p) [(1, p), (4, sum)] else s

/-! ### The egress stage (R32) -/

/-- The replay buffer has room for a frame (R251). -/
def State.replayHas (s : State) (p : Nat) (f : Frame) : Bool := decide (replayBytes (s.port p).replay + f.bytes ≤ replayRoom)

/-- The oldest waiting frame of the own homes, each VC's first, that has its credits: a VC whose head lacks them holds only itself back
(R248). -/
def State.ownReady (s : State) (p : Nat) : List Nat → List Frame → Option Frame
  | _, [] => none
  | blocked, f :: rest =>
    let v := f.vc.toNat
    if blocked.contains v then s.ownReady p blocked rest
    else if f.credits ≤ s.rf (Reg.PT_CREDIT p v) 24 12 ∧ s.replayHas p f then some f
    else s.ownReady p (v :: blocked) rest

/-- Whether the sluice's frame goes before the own homes' one: they take turns, in their VC where it is the same, else at the port (R32). -/
def Port.sluiceFirst (x : Port) (own slu : Frame) : Bool := x.lastOwn.getLsbD (if own.vc = slu.vc then own.vc.toNat else 7)

/-- A frame of the own homes sent. -/
def State.sendOwnFrame (s : State) (p : Nat) (f : Frame) : State :=
  let x := s.port p
  (s.setPort p { x with txq := x.txq.erase f, lastOwn := withBit (withBit x.lastOwn f.vc.toNat) 7 }).transmit p f true

/-- A frame of the sluice leaves the output, whose credits it holds; one aged by then is discarded (R287). -/
def State.sendSluiceFrame (s : State) (p : Nat) (y : SFrame) : State :=
  let x := s.port p
  let s := s.setPort p { x with slq := x.slq.erase y, lastOwn := withoutBit (withoutBit x.lastOwn y.f.vc.toNat) 7 }
  if s.aged y then s.discardAged p y true
  else ((s.spend p y).bump (Reg.PT_SLU_BYTES p) 0 64 y.f.bytes).transmit p y.f false

/-- The next frame the egress stage of a port takes; none where none is ready. -/
def State.egressNext (s : State) (p : Nat) : Option State :=
  let x := s.port p
  match s.ownReady p [] x.txq, x.slq.find? (fun y => s.aged y || s.replayHas p y.f) with
  | none, none => none
  | some f, none => some (s.sendOwnFrame p f)
  | none, some y => some (s.sendSluiceFrame p y)
  | some f, some y => some (if x.sluiceFirst f y.f then s.sendSluiceFrame p y else s.sendOwnFrame p f)

def egressGo (p : Nat) : Nat → State → State
  | 0, s => s
  | n + 1, s => match s.egressNext p with
    | some s => egressGo p n s
    | none => s

/-- Every waiting frame that can be sent is sent. -/
def State.flushPort (s : State) (p : Nat) : State :=
  if s.canSend p then egressGo p ((s.port p).txq.length + (s.port p).slq.length) s else s

/-- A frame the Golik's own homes send by a port (R31, R32): it waits for credits behind those already waiting; a port
that is not UP or DEGRADED loses it (R252, R254). -/
def State.egress (s : State) (p : Nat) (f : Frame) : State :=
  if s.portUp p then (s.setPort p { s.port p with txq := (s.port p).txq ++ [f] }).flushPort p else s

/-! ### LINK_ACK (R250, Table 9-6) -/

/-- Cumulative credits returned in a VC. -/
def Port.freedIn (x : Port) (v : Nat) : Nat := mget 0 x.freed v

/-- The credits freed in all VCs since UP. -/
def Port.freedTotal (x : Port) : Nat := x.freed.foldl (fun a e => a + e.2) 0

/-- A LINK_ACK sent. -/
def State.sendAck (s : State) (p : Nat) : State :=
  let x := s.port p
  let m : LinkAck := { nak := x.nak, ack := BitVec.ofNat 16 x.rx,
                       crd := Vector.ofFn (fun v : Fin 6 => BitVec.ofNat 12 (x.freedIn v.val)) }
  (s.setPort p { x with nak := false, rxAckSent := x.rx, freedSent := x.freedTotal }).send (.linkAck p m)

/-- A LINK_ACK sent where 16 frames have arrived or 64 credits have been freed since the last (R250). -/
def State.ackIfDue (s : State) (p : Nat) : State :=
  let x := s.port p
  if 16 ≤ (x.rx + 65536 - x.rxAckSent) % 65536 ∨ 64 ≤ x.freedTotal - x.freedSent then s.sendAck p else s

/-- Credits of a VC returned once a frame has left the port buffer (R247). -/
def State.freeCredits (s : State) (p v n : Nat) : State :=
  if n = 0 then s else
  let x := s.port p
  (s.setPort p { x with freed := mput 0 x.freed v (x.freedIn v + n) }).ackIfDue p

/-! ### Receiving (R246, R249) -/

/-- A port takes the next sequenced frame: it is UP or DEGRADED and not discarding until a REPLAY. -/
def State.portTakes (s : State) (p : Nat) : Bool := s.serving && s.portUp p && !(s.port p).discarding

/-- A good sequenced frame counted (R249, R250). -/
def State.countRx (s : State) (p n : Nat) : State :=
  let x := s.port p
  let s := s.setPort p { x with rx := (x.rx + n) % 65536, rxAsleep := false }
  s.bump (Reg.PT_FRAMES_RX p) 0 64 n

/-- The data frame of a masked write that waits for its MASK is discarded where the next accepted frame of its VC is another (R245). -/
def State.unpair (s : State) (p : Nat) (vc : BitVec 3) : State :=
  let x := s.port p
  match x.half with
  | some d => if d.vc = vc then
      ((s.setPort p { x with half := none }).bump (Reg.PT_DISCARDS p) 32 16 1).freeCredits p d.vc.toNat (d.credits - 1) else s
  | none => s

/-- A good frame at a port that counts as n sequenced frames: counted; a wrong or reserved VC discards it; a Golik with no device ID discards
all but the join frames (R246, R523); otherwise it goes on, and its credits return unless what takes it holds them. -/
def State.arriveAs (s : State) (p : Nat) (f : Frame) (n : Nat) (take : State → State × Bool) : State :=
  if s.portTakes p then
    let s := (s.unpair p f.vc).countRx p n
    let v := f.vc.toNat
    if !(vcsOf f.typ.toNat).contains v then
      ((s.bump (Reg.PT_DISCARDS p) 16 16 1).freeCredits p v f.credits).ackIfDue p
    else if s.boot.deviceId.isNone && !(decide (0x80 ≤ f.typ.toNat) && decide (f.typ.toNat ≤ 0x82)) then
      ((s.bump (Reg.PT_DISCARDS p) 0 16 1).freeCredits p v f.credits).ackIfDue p
    else
      let (s, held) := take s
      ((if held then s else s.freeCredits p v f.credits)).ackIfDue p
  else s

/-- A good frame at a port, a masked write with its MASK. -/
def State.arrive (s : State) (p : Nat) (f : Frame) (take : State → State × Bool) : State := s.arriveAs p f f.count take

/-- A response, probe answer or GrantAck that matches nothing (R255). -/
def State.unmatched (s : State) (p : Nat) : State := s.bump (Reg.PT_DISCARDS p) 48 16 1

/-! ### Replay (R251) -/

def State.resend (s : State) (p : Nat) (l : List Frame) : State := s.forEach l (fun s f => s.send (.frame p f))

/-! ### Training (R237 to R239, R252) -/

/-- The receive lanes a port will use of those usable: the lowest eight, or the lowest four at half width; none where the
port cannot run (R236; which of nine, notes assumption 10). -/
def chooseLanes (usable : BitVec 9) (half : Bool) : BitVec 9 :=
  let l := onesOf usable
  if 8 ≤ l.length then (l.take 8).foldl withBit 0
  else if half && decide (4 ≤ l.length) then (l.take 4).foldl withBit 0
  else 0

def allowHalf (s : State) (p : Nat) : Bool := s.rf (Reg.PT_LINK_CFG p) 1 1 == 1

/-- Credits advertised in a VC: G:0x4020.01 to .08. -/
def State.advertised (s : State) (v : Nat) : Nat := s.gzv 0x4020 (v + 1)

def State.creditSum (s : State) : Nat := (List.range 8).foldl (fun a v => a + s.advertised v) 0

/-- What a port holds when a training starts. -/
def Port.fresh (x : Port) : Port :=
  { fails := x.fails, wasUp := x.wasUp }

/-- LINK_STATE with STATE set and nothing negotiated. -/
def State.clearLink (s : State) (p st : Nat) : State :=
  s.setReg (Reg.PT_LINK_STATE p) (withField (withField 0 0 3 st) 26 14 (s.portPeer p))

/-- Step 1 of a training starts; a port whose credit entries sum above 2,048 does not train (R237, R247). -/
def State.startTraining (s : State) (p : Nat) : State :=
  let s := s.setPort p (s.port p).fresh
  if 2048 < s.creditSum then
    (s.clearLink p stDown).raise 0x4102 (dieOfPort p) [(1, p), (1, 3), (2, s.portPeer p)]
  else (s.clearLink p stTraining).bump (Reg.PT_REPLAYS p) 32 32 1

/-- What a port keeps to send is discarded and counted, event 0x4106 (R252): its replay buffer, and the frames at its egress stage, which
the credits of the next LINK_INIT do not cover. Frames of the sluice that had begun to cross begin afresh. -/
def State.dropKept (s : State) (p : Nat) : State :=
  let x := s.port p
  let n := x.replay.foldl (fun a f => a + f.count) 0 + x.txq.foldl (fun a f => a + f.count) 0 + x.slq.foldl (fun a y => a + y.f.count) 0
  let s : State := { s with sluice := { s.sluice with voqs := s.sluice.voqs.map (fun e =>
    if e.1 / 8 % 52 = p then (e.1, { e.2 with chip := e.2.chip.map (fun y => { y with left := 0 }) }) else e) } }
  (s.bump (Reg.PT_REPLAY_LOST p) 0 32 n).raise 0x4106 (dieOfPort p) [(1, p), (4, n)]

/-- A retrain: what is kept and received state discarded (R252). -/
def State.retrain (s : State) (p : Nat) : State := (s.dropKept p).startTraining p

/-- A retrain that silence or replays without progress cause (Table 9-12). -/
def State.retrainFor (s : State) (p cause : Nat) : State :=
  (s.raise 0x4102 (dieOfPort p) [(1, p), (1, cause), (2, s.portPeer p)]).retrain p

/-- The LINK_INIT this port sends (Table 9-1). -/
def State.linkInit (s : State) (p : Nat) : LinkInit :=
  { genMask := 1, initAck := (s.port p).gotInit, device := s.selfId, deviceValid := s.boot.deviceId.isSome,
    rxLanes := chooseLanes (s.port p).usable (allowHalf s p),
    crd := Vector.ofFn (fun v : Fin 8 => BitVec.ofNat 12 (s.advertised v.val)) }

/-- UP once LINK_INIT with INIT_ACK has been both sent and received (R237). -/
def State.linkUpIfReady (s : State) (p : Nat) : State :=
  let x := s.port p
  if s.linkState p = stTraining ∧ x.sentAck ∧ x.gotAck then
    let rxl := chooseLanes x.usable (allowHalf s p)
    let txl := s.rf (Reg.PT_LINK_STATE p) 17 9
    let halfRx := popCount rxl == 4
    let halfTx := popCount (BitVec.ofNat 9 txl) == 4
    let st := if halfRx || halfTx then stDegraded else stUp
    let s := (((((s.setLinkState p st).setRf (Reg.PT_LINK_STATE p) 4 2 1).setRf (Reg.PT_LINK_STATE p) 8 9 rxl.toNat).setRf
      (Reg.PT_LINK_STATE p) 6 1 (bitN (rxl.getLsbD 8))).setRf (Reg.PT_LINK_STATE p) 7 1 (txl / 256))
    let s := s.forEach (List.range 8) (fun s v =>
      (s.setRf (Reg.PT_CREDIT p v) 0 12 (s.advertised v)).setRf (Reg.PT_CREDIT p v) 24 12
        (s.rf (Reg.PT_CREDIT p v) 12 12))
    let s := s.setPort p { s.port p with wasUp := true, fails := 0 }
    let s := s.raise 0x4101 (dieOfPort p) [(1, p), (1, 1), (2, rxl.toNat), (2, txl), (2, s.portPeer p)]
    let s := if halfRx then s.raise 0x4104 (dieOfPort p) [(1, p), (1, 0)] else s
    let s := if halfTx then s.raise 0x4104 (dieOfPort p) [(1, p), (1, 1)] else s
    (s.floorCheck p).flushPort p
  else s

/-- PMD_TRAINING_DONE: step 1 ends and the usable receive lanes are marked (R237). -/
def pmdTrainingDoneStep (p : Nat) (usable : BitVec 9) (s : State) : State :=
  if s.alive && s.linkState p == stTraining then
    s.setPort p { s.port p with usable := usable, pmd := true }
  else s

/-- LINK_INIT_TIMER: one LINK_INIT sent, with INIT_ACK once the peer's has come (R237). A port with too few usable lanes
has no mask to send. -/
def linkInitTimerStep (p : Nat) (s : State) : State :=
  if s.alive && s.linkState p == stTraining && (s.port p).pmd && (s.linkInit p).rxLanes != 0 then
    let m := s.linkInit p
    let s := s.send (.linkInit p m)
    (s.setPort p { s.port p with sentAck := (s.port p).sentAck || m.initAck }).linkUpIfReady p
  else s

/-- LINK_INIT_RX (R237, R238): a LINK_INIT with 8 or 4 lanes is valid. -/
def linkInitRxStep (p : Nat) (m : LinkInit) (s : State) : State :=
  if s.alive && s.linkState p == stTraining && (s.port p).pmd && (popCount m.rxLanes == 8 || popCount m.rxLanes == 4) then
    let s := ((s.setRf (Reg.PT_LINK_STATE p) 26 14 m.device.toNat).setRf (Reg.PT_LINK_STATE p) 40 1
      (bitN m.deviceValid)).setRf (Reg.PT_LINK_STATE p) 17 9 m.rxLanes.toNat
    if !m.genMask.getLsbD 0 then
      (s.setLinkState p stNoCommon).raise 0x4105 (dieOfPort p) [(1, p), (1, m.genMask.toNat)]
    else
      let s := s.forEach (List.finRange 8) (fun s v => s.setRf (Reg.PT_CREDIT p v.val) 12 12 (m.crd[v]).toNat)
      (s.setPort p { s.port p with gotInit := true, gotAck := (s.port p).gotAck || m.initAck }).linkUpIfReady p
  else s

/-- A write of PT_LINK_CFG (R237): ENABLE 0 holds the port DISABLED, 0 to 1 starts training. -/
def State.linkCfgWrite (s : State) (p : Nat) (enable half : Bool) : State :=
  let was := s.rf (Reg.PT_LINK_CFG p) 0 1
  let s := (s.setRf (Reg.PT_LINK_CFG p) 0 1 (bitN enable)).setRf (Reg.PT_LINK_CFG p) 1 1 (bitN half)
  if !enable then
    if was = 0 then s
    else
      let s := if s.portUp p then s.dropKept p else s
      (s.setPort p { wasUp := (s.port p).wasUp }).clearLink p stDisabled
  else if was = 0 then (s.setPort p { wasUp := (s.port p).wasUp }).startTraining p
  else s

/-- The data frame of a masked write accepted without its MASK: it is counted, and waits in the port buffer (R245). -/
def State.acceptHalf (s : State) (p : Nat) (d : Frame) : State :=
  if s.portTakes p && isMasked d.typ.toNat then
    let s := (s.unpair p d.vc).countRx p 1
    if (vcsOf d.typ.toNat).contains d.vc.toNat then s.setPort p { s.port p with half := some d }
    else (s.bump (Reg.PT_DISCARDS p) 16 16 1).freeCredits p d.vc.toNat (d.credits - 1)
  else s

/-- BAD_FRAME_RX: discarded with every sequenced frame after it until a REPLAY; NAK sent (R243, R249, R250). Where it is the MASK of a masked
write, half is the data frame before it, which is good and waits for the replayed MASK (R245). -/
def badFrameRxStep (p : Nat) (fec : Bool) (half : Option Frame) (s : State) : State :=
  if s.serving && s.portUp p then
    let s := match half with
      | some d => s.acceptHalf p d
      | none => s
    let s := if fec then s.bump (Reg.PT_FEC_UNCORR p) 0 32 1 else s.bump (Reg.PT_CRC_ERR p) 0 32 1
    (s.setPort p { s.port p with discarding := true, nak := true }).sendAck p
  else s

/-- A replay started: REPLAY naming the first unacknowledged count, then every frame kept; eight in a row without
progress retrain the port (R251). -/
def State.startReplay (s : State) (p : Nat) : State :=
  let x := s.port p
  if 8 ≤ x.stuck then s.retrainFor p 2
  else
    let s := s.setPort p { x with stuck := x.stuck + 1 }
    ((s.bump (Reg.PT_REPLAYS p) 0 32 1).send (.replay p x.acked)).resend p x.replay

/-- The frames still unacknowledged after n more counts are; of a masked write whose data frame alone is acknowledged, the MASK. -/
def dropAcked : List Frame → Nat → List Frame
  | [], _ => []
  | f :: rest, n => if f.count ≤ n then dropAcked rest (n - f.count) else if n = 0 then f :: rest else f.maskOnly :: rest

/-- LINK_ACK_RX (R247, R249, R251): frames acknowledged, credits returned, a replay started by NAK. -/
def linkAckRxStep (p : Nat) (m : LinkAck) (s : State) : State :=
  if s.serving && s.portUp p then
    let x := s.port p
    let n := (m.ack.toNat + 65536 - x.acked) % 65536
    let ok := decide (n ≤ (x.tx + 65536 - x.acked) % 65536)
    let x := if ok && decide (0 < n) then
        { x with acked := m.ack.toNat, replay := dropAcked x.replay n, stuck := 0 } else x
    let s := s.setPort p { x with swapping := x.swapping && !m.nak, rxAsleep := false }
    let s := s.forEach (List.finRange 6) (fun s v =>
      let c := (m.crd[v]).toNat
      let last := mget 0 (s.port p).peerRet v.val
      let s := s.setRf (Reg.PT_CREDIT p v.val) 24 12 (s.rf (Reg.PT_CREDIT p v.val) 24 12 + (c + 4096 - last) % 4096)
      s.setPort p { s.port p with peerRet := mput 0 (s.port p).peerRet v.val c })
    let s := if m.nak then s.startReplay p else s
    s.flushPort p
  else s

/-- REPLAY_RX: frames are accepted again where START equals the own count of good frames; after a REPLAY with any other START the frames it
brings are discarded, and the next REPLAY is awaited (R249). -/
def replayRxStep (p : Nat) (start : BitVec 16) (s : State) : State :=
  if s.serving && s.portUp p then
    s.setPort p { s.port p with discarding := decide (start.toNat ≠ (s.port p).rx) }
  else s

/-- STATE after a lane change: DEGRADED while either direction is at half width (R239). -/
def State.widthState (s : State) (p : Nat) : State :=
  let half := popCount (BitVec.ofNat 9 (s.rf (Reg.PT_LINK_STATE p) 8 9)) == 4 || popCount (BitVec.ofNat 9 (s.rf (Reg.PT_LINK_STATE p) 17 9)) == 4
  s.setLinkState p (if half then stDegraded else stUp)

/-- LANE_SWAP_RX: new transmit lanes, or with an empty mask the receiver's consent to sleep (R253, R481). -/
def laneSwapRxStep (p : Nat) (lanes : BitVec 9) (s : State) : State :=
  if s.serving && s.portUp p then
    let x := s.port p
    if lanes = 0 then
      if x.txq.isEmpty && x.slq.isEmpty && x.replay.isEmpty && !x.txAsleep then
        (s.sendAck p).setPort p { (s.sendAck p).port p with txAsleep := true }
      else s
    else if popCount lanes = 8 ∨ popCount lanes = 4 then
      let was := popCount (BitVec.ofNat 9 (s.rf (Reg.PT_LINK_STATE p) 17 9))
      let s := (s.setRf (Reg.PT_LINK_STATE p) 17 9 lanes.toNat).setRf (Reg.PT_LINK_STATE p) 7 1 (bitN (lanes.getLsbD 8))
      let s := ((s.setPort p { x with swapping := true }).widthState p).floorCheck p
      if popCount lanes = 4 ∧ was ≠ 4 then s.raise 0x4104 (dieOfPort p) [(1, p), (1, 1)] else s
    else s
  else s

/-- LANE_FAILURE of a receive lane (R253). -/
def laneFailureStep (p lane : Nat) (s : State) : State :=
  if s.serving && s.portUp p then
    let x := s.port p
    let u := withoutBit x.usable lane
    let s := s.setPort p { x with usable := u }
    if s.rf (Reg.PT_LINK_STATE p) (8 + lane) 1 = 1 then
      let l := chooseLanes u (allowHalf s p)
      if l = 0 then s.retrain p
      else
        let was := popCount (BitVec.ofNat 9 (s.rf (Reg.PT_LINK_STATE p) 8 9))
        let s := (s.setRf (Reg.PT_LINK_STATE p) 8 9 l.toNat).setRf (Reg.PT_LINK_STATE p) 6 1 (bitN (l.getLsbD 8))
        let s := ((s.setPort p { s.port p with swapping := true }).send (.laneSwap p l)).widthState p
        if popCount l = 4 ∧ was ≠ 4 then s.raise 0x4104 (dieOfPort p) [(1, p), (1, 0)] else s.raise 0x4103 (dieOfPort p) [(1, p), (1, lane)]
    else s
  else s

/-- LANE_REALIGN_DONE: LINK_ACK with NAK set, which starts the peer's replay (R253). -/
def laneRealignDoneStep (p : Nat) (s : State) : State :=
  if s.serving && s.portUp p then
    (((s.setPort p { s.port p with swapping := false, discarding := true, nak := true }).sendAck p)).flushPort p
  else s

/-- REALIGN_TIMEOUT: a lane change or a wake not done within 20 µs retrains the port (R253, R481). -/
def realignTimeoutStep (p : Nat) (s : State) : State :=
  if s.serving && s.portUp p && ((s.port p).swapping || (s.port p).txAsleep || (s.port p).rxAsleep) then s.retrain p else s

/-- ACK_TIMER: a send condition of R250 is reached. While the direction sleeps its timers are suspended (R481). -/
def ackTimerStep (p : Nat) (s : State) : State :=
  if s.serving && s.portUp p && !(s.port p).txAsleep then s.sendAck p else s

/-- REPLAY_TIMEOUT: 2 µs without progress while frames are unacknowledged (R251). -/
def replayTimeoutStep (p : Nat) (s : State) : State :=
  if s.serving && s.portUp p && !(s.port p).txAsleep && !(s.port p).replay.isEmpty then s.startReplay p else s

/-- LINK_SILENCE_TIMEOUT: nothing received for 10 µs, or eight replays without progress (R251). -/
def linkSilenceTimeoutStep (p : Nat) (s : State) : State :=
  if s.serving && s.portUp p && !(s.port p).rxAsleep then
    s.retrainFor p (if 8 ≤ (s.port p).stuck then 2 else 1)
  else s

/-- LANE_SLEEP_CONSENT: LANE_SWAP with an empty mask; a setting of 0 disables lane sleep (R481). -/
def laneSleepConsentStep (p : Nat) (s : State) : State :=
  if s.serving && s.portUp p && !(s.port p).rxAsleep && decide (s.gzv 0x8020 0x01 ≠ 0) then
    (s.setPort p { s.port p with rxAsleep := true }).send (.laneSwap p 0)
  else s

/-- LANE_WAKE: the lanes realign and LINK_ACK goes before any sequenced frame (R481). -/
def laneWakeStep (p : Nat) (s : State) : State :=
  if s.serving && s.portUp p && (s.port p).txAsleep then
    ((s.setPort p { s.port p with txAsleep := false }).sendAck p).flushPort p
  else s

/-- A MASK that no data frame precedes, or a data frame that no MASK follows (R245). -/
def unpairedType (typ : Nat) : Bool := typ == 0x1F || typ == 0x19 || typ == 0x1B

/-- BAD_TYPE_FRAME_RX: a good frame of reserved type, or of a vendor type outside test mode, is counted in BAD_TYPE; a
MASK or masked data frame without its partner in BAD_PAIR (R244, R245). Its credits return (R247): those of a header alone for a type Table 9-3
gives no payload. -/
def badTypeFrameRxStep (p typ : Nat) (vc : BitVec 3) (s : State) : State :=
  if s.portTakes p && (unpairedType typ || !knownType (decide (s.mode = .test)) typ) && decide (4 < typ ∨ typ = 0) then
    let s := ((s.unpair p vc).countRx p 1).bump (Reg.PT_DISCARDS p) (if unpairedType typ then 32 else 0) 16 1
    (s.freeCredits p vc.toNat (if hasPayload typ then 5 else 1)).ackIfDue p
  else s

end Sys2Proof.Machine
end

