-- ==== Sys2Proof/Machine/Sluice.lean ====
section
/-!
DEFINITION. The sluice switch (chapter 10): routing, virtual output queues, matching, shaping, ageing, the cistern. Inputs and
outputs 0 to 47 are the ports, 48 + k the internal port of Bk (R272).
-/

namespace Sys2Proof.Machine

/-- The quarter a sluice input or output belongs to. -/
def dieOfSluice (i : Nat) : Nat := if i < 48 then dieOfPort i else i - 48

/-- The key of a virtual output queue. -/
def voqKey (input output vc : Nat) : Nat := 8 * (52 * input + output) + vc

def State.voq (s : State) (k : Nat) : Voq := mget {} s.sluice.voqs k
def State.setVoq (s : State) (k : Nat) (x : Voq) : State :=
  { s with sluice := { s.sluice with voqs := mput {} s.sluice.voqs k x } }

/-- 256-byte cells a part of a queue holds (R273). -/
def cellsOf (l : List SFrame) : Nat := (l.foldl (fun a x => a + (if x.left = 0 then x.f.bytes else x.left)) 0 + 255) / 256

/-- Cistern lines a frame takes. -/
def linesOf (f : Frame) : Nat := (f.bytes + 127) / 128

/-- Cells cut and not yet across, of queues a test picks: they hold their place till they have crossed (R276, R286). -/
def State.cellsAway (s : State) (pick : Nat → Bool) : Nat := ((s.sluice.fly ++ s.sluice.cross).filter (fun c => pick c.key)).length

/-- Shared cells of a quarter in use (R286): VC2 has its own reserve. -/
def State.sharedUsed (s : State) (d : Nat) : Nat :=
  let pick (k : Nat) : Bool := k % 8 != 2 && dieOfSluice (k / 8 / 52) == d
  s.sluice.voqs.foldl (fun a e => if pick e.1 then a + cellsOf e.2.chip else a) (s.cellsAway pick)

/-- VC2 cells of an input in use. -/
def State.reserveUsed (s : State) (input : Nat) : Nat :=
  let pick (k : Nat) : Bool := k % 8 == 2 && k / 8 / 52 == input
  s.sluice.voqs.foldl (fun a e => if pick e.1 then a + cellsOf e.2.chip else a) (s.cellsAway pick)

/-- Cistern lines of a quarter in use (Table 10-7). -/
def State.cisternLines (s : State) (d : Nat) : Nat :=
  s.sluice.voqs.foldl (fun a e =>
    if dieOfSluice (e.1 / 8 / 52) = d then a + e.2.cist.foldl (fun b x => b + linesOf x.f) 0 else a) 0

/-- BS_SLU_BUF and BS_CISTERN of a quarter brought up to date (Table 10-7). -/
def State.sluiceBuf (s : State) (d : Nat) : State :=
  let free := 31936 - s.sharedUsed d
  let off := Reg.BS_SLU_BUF d
  let s := s.setRf off 0 16 free
  let s := if free < s.rf off 16 16 ∨ s.sluice.lowRead.getLsbD d then s.setRf off 16 16 free else s
  let s : State := { s with sluice := { s.sluice with lowRead := withoutBit s.sluice.lowRead d } }
  s.setRf (Reg.BS_CISTERN d) 0 26 (s.cisternLines d)

/-! ### Routing (R280, R282) -/

/-- The first of the listed ports from position i on, cyclically, that is not the arrival port. -/
def pickPort (ports : List Nat) (i : Nat) (arrival : Nat) : Option Nat :=
  ((ports.drop i) ++ (ports.take i)).find? (fun p => p != arrival)

/-- The output a route gives a frame; none where it has no route or every listed port is the arrival port. -/
def Route.output (r : Route) (src arrival : Nat) : Option Nat :=
  if r.count = 0 then none else pickPort (r.ports.take r.count) (src % r.count) arrival

/-- A discard under R280 or R269, counted at the input it entered by. -/
def State.noRoute (s : State) (input : Nat) : State :=
  if input < 48 then s.bump (Reg.PT_SLU_NOROUTE input) 0 32 1 else s.bump (Reg.BS_SLU_INTERNAL (input - 48)) 0 32 1

/-- A request frame, which a lost destination is answered for (R282). -/
def isRequest (typ : Nat) : Bool := decide (0x10 ≤ typ) && decide (typ ≤ 0x1C)

/-- The destination a running SET or CLEAR drains (R281). -/
def State.drainDst (s : State) : Option Nat :=
  if s.busy routeRegs then some (field (s.runningWord routeRegs) 4 14) else none

/-- The shaping class of a frame at entry (R283): VC2 and VC5 are not shaped. -/
def State.classOf (s : State) (f : Frame) : Option Nat :=
  if f.vc = 2 ∨ f.vc = 5 then none
  else
    let e := s.rf (Reg.GL_CLASS_TABLE (f.ctx.toNat / 4)) (16 * (f.ctx.toNat % 4)) 16
    if e / 1024 % 2 = 1 then some (e % 1024) else none

/-- Any queue of the quarter spills. -/
def State.spillingOn (s : State) (d : Nat) : Bool :=
  s.sluice.voqs.any (fun e => e.2.spilling && dieOfSluice (e.1 / 8 / 52) == d)

/-- A frame left in its input's port buffer. -/
def State.block (s : State) (input : Nat) (f : Frame) : State :=
  { s with sluice := { s.sluice with blocked := s.sluice.blocked ++ [(input, f)] } }

/-- A frame put in its queue: on chip, in the cistern, or, where there is no room, in its input's port buffer (R286,
R288, R290). Answers whether it stays in the port buffer. -/
def State.enqueue (s : State) (input output : Nat) (f : Frame) : State × Bool :=
  let v := f.vc.toNat
  let d := dieOfSluice input
  let k := voqKey input output v
  let q := s.voq k
  let x : SFrame := { f := f, input := input, stamp := s.now, cls := s.classOf f }
  if v = 2 then
    if 64 < s.reserveUsed input + (f.bytes + 255) / 256 then (s.block input f, true)
    else (s.setVoq k { q with chip := q.chip ++ [x] }, false)
  else
    let free := 31936 - s.sharedUsed d
    let spills := q.spilling || (decide (free < s.gzv 0x4040 0x02) && decide (s.gzv 0x4040 0x03 < cellsOf q.chip))
    if free < (if spills then (f.bytes + 255) / 256 else cellsOf (q.chip ++ [x]) - cellsOf q.chip) then (s.block input f, true)
    else if spills then
      let first := !s.spillingOn d
      let s := s.setVoq k { q with cist := q.cist ++ [{ x with blk := q.spilled / 65536 }], spilling := true,
                                   spilled := q.spilled + f.bytes }
      let s := s.bump (Reg.BS_CISTERN_IO d) 0 32 (linesOf f)
      let s := if first then s.raise 0x4120 d [(1, d)] else s
      (s.sluiceBuf d, false)
    else ((s.setVoq k { q with chip := q.chip ++ [x] }).sluiceBuf d, false)

/-! ### What the inset captures (R190) -/

/-- ENABLE of GL_INSET_CFG. -/
def State.insetOn (s : State) : Bool := s.rf Reg.GL_INSET_CFG 0 1 == 1

/-- The member entry of a device with VALID set. -/
def State.memberOf (s : State) (d : BitVec 14) : Option Nat :=
  (s.members.find? (fun e => decide (0 < e.1) && e.2.valid && e.2.device == d)).map (·.1)

/-- A frame the inset captures: a caching request, GrantAck or probe answer of a member, not for this Golik. -/
def State.captures (s : State) (f : Frame) : Bool :=
  s.insetOn && (s.memberOf f.src).isSome && !s.isSelf f.dst
    && (isCaching f.typ.toNat || f.typ == 0x42 || f.typ == 0x46 || f.typ == 0x47)

/-! ### Entry (R269, R272, R280 to R282) -/

/-- The RESP a sluice sources for a lost destination (R269, R282). -/
def lostResp (f : Frame) : Frame :=
  { typ := 0x50, vc := 3, ctx := f.ctx, src := f.dst, ord := f.ord, dst := f.src, seq := f.seq, status := 0x05,
    addr := f.addr, aux := 1 }

/-- A frame goes to the queue it is for: behind those of its input and VC that wait in the port buffer, and behind the drain of its
destination (R281); a captured one to the internal output of the die of bits [8:7] of its address (R272); another by its route, onLost
saying what becomes of one for a LOST destination. Answers whether it stays in its port buffer. -/
def State.enterAs (s : State) (input : Nat) (f : Frame) (onLost : State → State) : State × Bool :=
  if s.sluice.blocked.any (fun x => x.1 == input && x.2.vc == f.vc) then (s.block input f, true)
  else if input < 48 && s.captures f then s.enqueue input (48 + f.line % 4) f
  else if s.drainDst = some f.dst.toNat then (s.block input f, true)
  else
    let r := s.route f.dst.toNat
    match r.output f.src.toNat input with
    | none => (if r.lost then onLost s else s.noRoute input, false)
    | some o =>
      if r.lost then
        let q := s.voq (voqKey input o f.vc.toNat)
        if q.chip.isEmpty && q.cist.isEmpty then (onLost s, false) else s.enqueue input o f
      else if s.portUp o then s.enqueue input o f
      else (s.noRoute input, false)

/-- A RESP sourced on Bk goes through the internal input; without a route, or to a lost destination, it is discarded (R282).
One for this Golik itself goes straight to it. -/
def State.sourceResp (s : State) (d : Nat) (f : Frame) : State :=
  if s.isSelf f.dst then { s with sluice := { s.sluice with deliver := s.sluice.deliver ++ [(48 + d, f)] } }
  else (s.enterAs (48 + d) f (fun s => s.noRoute (48 + d))).1

/-- A frame for a destination marked LOST: a request is answered, anything else discarded (R269, R282). -/
def State.lostFrame (s : State) (input : Nat) (f : Frame) : State :=
  let d := dieOfSluice input
  if isRequest f.typ.toNat then
    let s := if input < 48 then s.bump (Reg.PT_SLU_NOROUTE input) 32 32 1
             else s.bump (Reg.BS_SLU_INTERNAL d) 32 32 1
    s.sourceResp d (lostResp f)
  else s.noRoute input

/-- A frame for another device enters the sluice (R272, R280 to R282). Answers whether it stays in its port buffer. -/
def State.sluiceEnter (s : State) (input : Nat) (f : Frame) : State × Bool := s.enterAs input f (fun s => s.lostFrame input f)

/-- A frame the Golik sources on Bk to another device (R31, R272). -/
def State.sourceFrame (s : State) (d : Nat) (f : Frame) : State := (s.sluiceEnter (48 + d) f).1

/-- Frames that wait in port buffers tried again, in order, by the routes as they are now; those that move return their credits (R247, R280,
R281, R290). -/
def State.unblock (s : State) : State :=
  let waiting := s.sluice.blocked
  let s := { s with sluice := { s.sluice with blocked := [] } }
  s.forEach waiting (fun s w =>
    let (s, held) := s.sluiceEnter w.1 w.2
    if held || decide (48 ≤ w.1) then s else s.freeCredits w.1 w.2.vc.toNat w.2.credits)

/-! ### Ageing (R287, R289) -/

/-- Heads of an on-chip part that have aged out, or whose destination is LOST, leave it. -/
def headsGo (output : Nat) : List SFrame → State → State × List SFrame
  | [], s => (s, [])
  | x :: rest, s =>
    if s.aged x then headsGo output rest (s.discardAged output x (x.left != 0))
    else if x.left = 0 && output < 48 && (s.route x.f.dst.toNat).lost then headsGo output rest (s.lostFrame x.input x.f)
    else (s, x :: rest)

/-- The cistern blocks whose newest frame has aged out, freed without being read (R289). -/
def blocksGo (output : Nat) : Nat → List SFrame → State → State × List SFrame
  | 0, l, s => (s, l)
  | _, [], s => (s, [])
  | fuel + 1, x :: rest, s =>
    let blk := (x :: rest).takeWhile (fun y => y.blk == x.blk)
    match blk.getLast? with
    | some y =>
      if s.aged y then
        blocksGo output fuel ((x :: rest).dropWhile (fun z => z.blk == x.blk))
          (s.forEach blk (fun s z => s.discardAged output z false))
      else (s, x :: rest)
    | none => (s, x :: rest)

/-- Discards of one queue in a cell time. -/
def State.ageQueue (s : State) (k : Nat) : State :=
  let output := k / 8 % 52
  let q := s.voq k
  let s := s.setVoq k { q with chip := [] }
  let (s, chip) := headsGo output q.chip s
  let (s, cist) := blocksGo output q.cist.length q.cist s
  let now := s.voq k
  s.setVoq k { q with chip := chip ++ now.chip, cist := cist ++ now.cist,
                      spilling := q.spilling && !(cist.isEmpty && now.cist.isEmpty) }

/-! ### Shaping (R285) -/

/-- 64 KiB in units of 1/105 byte. -/
def bucketDepth : Int := 6881280

/-- A bucket filled for one cell time. -/
def fillBucket (s : State) (e : Nat × Bucket) : Nat × Bucket :=
  (e.1, { floor := min bucketDepth (e.2.floor + Int.ofNat (floorRate s (e.1 / 1024) (e.1 % 1024))),
          ceil := min bucketDepth (e.2.ceil + Int.ofNat (ceilRate s (e.1 / 1024) (e.1 % 1024))) })

/-- Every bucket in use filled for one cell time; a full one is no longer listed. -/
def State.fillBuckets (s : State) : State :=
  { s with sluice := { s.sluice with
      buckets := (s.sluice.buckets.map (fillBucket s)).filter (fun e => decide (e.2 ≠ ({} : Bucket))) } }

/-- Held back by its class's ceiling. -/
def State.ceilingHolds (s : State) (output : Nat) (x : SFrame) : Bool :=
  match x.cls with
  | none => false
  | some c => decide (output < 48) && decide (ceilRate s output c ≠ 0xFFFF) && decide ((s.bucket output c).ceil ≤ 0)

/-- Its class holds floor tokens on the output. -/
def State.floorHolds (s : State) (output : Nat) (x : SFrame) : Bool :=
  match x.cls with
  | none => false
  | some c => decide (output < 48) && decide (floorRate s output c ≠ 0) && decide (0 < (s.bucket output c).floor)

/-! ### Matching (R275 to R277) -/

/-- Bytes in, or on their way to, an output's reassembly buffer: frames whole there, those whose last cell is under way, and what has been
cut of the frames that have begun to cross (R273, R275). -/
def State.reassembly (s : State) (output : Nat) : Nat :=
  let whole := if output < 48 then (s.port output).slq else []
  let away := (s.sluice.fly ++ s.sluice.cross).flatMap (fun c => if c.key / 8 % 52 = output then c.ends else [])
  let begun := s.sluice.voqs.foldl (fun a e =>
    match e.2.chip.head? with
    | some x => if e.1 / 8 % 52 = output ∧ x.left ≠ 0 then a + (x.f.bytes - x.left) else a
    | none => a) 0
  (whole ++ away).foldl (fun a x => a + x.f.bytes) begun

/-- The head frame of a queue is eligible (R275): it has begun to cross, or its output, which must be up, holds its credits; no ceiling holds
it; the 32 KiB reassembly buffer has room for one more cell. -/
def State.eligible (s : State) (output : Nat) (x : SFrame) : Bool :=
  decide (s.reassembly output + 256 ≤ 32768) &&
  (if output < 48 then
     (decide (x.left ≠ 0)
        || (s.portUp output && decide (x.f.credits ≤ s.rf (Reg.PT_CREDIT output x.f.vc.toNat) 24 12)))
       && !s.ceilingHolds output x
   else true)

/-- Priority of an eligible head: 2 HIGH, 1 FLOOR, 0 NORMAL. -/
def State.prio (s : State) (output : Nat) (x : SFrame) : Nat :=
  if x.f.vc = 2 then 2 else if s.floorHolds output x then 1 else 0

/-- The requests of every queue with an eligible head. -/
def State.matchRequests (s : State) : List MReq :=
  s.sluice.voqs.filterMap (fun e =>
    match e.2.chip.head? with
    | some x => if s.eligible (e.1 / 8 % 52) x then some ⟨e.1 / 8 / 52, e.1 / 8 % 52, s.prio (e.1 / 8 % 52) x⟩ else none
    | none => none)

/-- The best of candidates (number, priority): the highest priority first, then round-robin from ptr. -/
def rrPick (ptr : Nat) (l : List (Nat × Nat)) : Option Nat :=
  (l.foldl (fun (a : Option (Nat × Nat)) c =>
    match a with
    | none => some c
    | some b =>
      if b.2 < c.2 ∨ (b.2 = c.2 ∧ (c.1 + 52 - ptr) % 52 < (b.1 + 52 - ptr) % 52) then some c else some b) none).map (·.1)

/-- One iteration: grants by unmatched outputs, accepts by unmatched inputs; pointers move on the first iteration. -/
def State.matchOnce (s : State) (reqs : List MReq) (first : Bool) (done : List (Nat × Nat)) :
    State × List (Nat × Nat) :=
  let open_ := reqs.filter (fun r => !(done.any (fun m => m.1 == r.input || m.2 == r.output)))
  let grants := (List.range 52).filterMap (fun o =>
    (rrPick (mget 0 s.sluice.outPtr o) ((open_.filter (fun r => r.output == o)).map (fun r => (r.input, r.prio)))).map
      (fun i => (i, o)))
  let prioOf (i o : Nat) : Nat := (open_.filter (fun r => r.input == i && r.output == o)).foldl (fun a r => max a r.prio) 0
  let accepts := (List.range 52).filterMap (fun i =>
    (rrPick (mget 0 s.sluice.inPtr i) ((grants.filter (fun g => g.1 == i)).map (fun g => (g.2, prioOf i g.2)))).map
      (fun o => (i, o)))
  let s := if first then s.forEach accepts (fun s m =>
      { s with sluice := { s.sluice with inPtr := mput 0 s.sluice.inPtr m.1 ((m.2 + 1) % 52),
                                         outPtr := mput 0 s.sluice.outPtr m.2 ((m.1 + 1) % 52) } }) else s
  (s, done ++ accepts)

/-- The queue a matched input sends from (R277). -/
def State.chooseVc (s : State) (input output : Nat) : Option Nat :=
  let heads := (List.range 6).filterMap (fun v =>
    match (s.voq (voqKey input output v)).chip.head? with
    | some x => if s.eligible output x then some (v, s.prio output x) else none
    | none => none)
  let ptr := mget 0 s.sluice.vcPtr (52 * input + output)
  match heads.find? (fun h => h.2 == 2) with
  | some h => some h.1
  | none => match heads.find? (fun h => h.2 == 1) with
    | some h => some h.1
    | none => match heads.find? (fun h => decide (ptr ≤ h.1)) with
      | some h => some h.1
      | none => heads.head?.map (·.1)

/-- A frame whose last byte has crossed: aged out at the output, passed to the egress stage, or delivered to the inset (R32, R273, R287). A
port that has gone down meanwhile loses it (R252). -/
def State.outputFrame (s : State) (output : Nat) (x : SFrame) : State :=
  if s.aged x then s.discardAged output x true
  else if 48 ≤ output then { s with sluice := { s.sluice with deliver := s.sluice.deliver ++ [(x.input, x.f)] } }
  else if s.portUp output then
    (s.setPort output { s.port output with slq := (s.port output).slq ++ [x] }).flushPort output
  else s.bump (Reg.PT_REPLAY_LOST output) 0 32 x.f.count

/-- One cell of up to 256 bytes cut from the front of a queue: it may hold the ends of several frames (R273). A frame that begins to cross
has its credits reserved (R275). Answers the frames whose last byte it holds and the room left in it. -/
def cellGo (k : Nat) : Nat → Nat → List SFrame → State → State × List SFrame × Nat
  | 0, room, ends, s => (s, ends, room)
  | fuel + 1, room, ends, s =>
    let output := k / 8 % 52
    let q := s.voq k
    match q.chip with
    | [] => (s, ends, room)
    | x :: rest =>
      if room = 0 ∨ !s.eligible output x then (s, ends, room)
      else
        let s := if x.left = 0 ∧ output < 48 then
            let off := Reg.PT_CREDIT output x.f.vc.toNat
            s.setRf off 24 12 (s.rf off 24 12 - x.f.credits) else s
        let left := if x.left = 0 then x.f.bytes else x.left
        if left ≤ room then cellGo k fuel (room - left) (ends ++ [x]) (s.setVoq k { q with chip := rest })
        else (s.setVoq k { q with chip := { x with left := left - room } :: rest }, ends, 0)

/-- C1 for a matched pair: the queue it sends from is chosen and its cell is granted; no later matching counts those bytes (R276, R277). -/
def State.grantCell (s : State) (input output : Nat) : State :=
  match s.chooseVc input output with
  | none => s
  | some v =>
    let s := if v = 2 then s else
      { s with sluice := { s.sluice with vcPtr := mput 0 s.sluice.vcPtr (52 * input + output) ((v + 1) % 6) } }
    let k := voqKey input output v
    let (s, ends, room) := cellGo k 9 256 [] s
    { s with sluice := { s.sluice with fly := if room = 256 then s.sluice.fly else s.sluice.fly ++ [{ key := k, bytes := 256 - room, ends := ends }] } }

/-- C3: a cell crosses, over the ring by the parity of its output (R273), and the frames it ends are whole. -/
def State.sendCell (s : State) (c : Cell) : State :=
  let output := c.key / 8 % 52
  let s := s.carry (dieOfSluice (c.key / 8 / 52)) (dieOfSluice output) (if output < 48 then output % 2 else 0)
  s.forEach c.ends (fun s x => s.outputFrame output x)

/-- One matching moves on by a stage: C3 of the cells cut longest ago, C2, C1 of the requests of the last cell time, C0 (R276, Table 10-1). -/
def State.matchStages (s : State) : State :=
  let out := s.sluice.cross
  let reqs := s.sluice.reqs
  let s : State := { s with sluice := { s.sluice with cross := s.sluice.fly, fly := [] } }
  let s := s.forEach out State.sendCell
  let (s, m) := s.matchOnce reqs true []
  let (s, m) := s.matchOnce reqs false m
  let (s, m) := s.matchOnce reqs false m
  let s := s.forEach m (fun s x => s.grantCell x.1 x.2);
  { s with sluice := { s.sluice with reqs := s.matchRequests } }

/-- CEILWAIT of every output with a head held by a ceiling. -/
def State.countCeilWait (s : State) : State :=
  let outs := s.sluice.voqs.filterMap (fun e =>
    match e.2.chip.head? with
    | some x => if s.ceilingHolds (e.1 / 8 % 52) x then some (e.1 / 8 % 52) else none
    | none => none)
  s.forEach ((List.range 48).filter (fun o => outs.contains o)) (fun s o => s.bump (Reg.PT_SLU_CEILWAIT o) 0 64 1)

/-- BS_SLU_STALL and event 0x4121 of a quarter whose pool is empty (R290). -/
def State.countStall (s : State) (d : Nat) : State :=
  let s := s.sluiceBuf d
  if s.rf (Reg.BS_SLU_BUF d) 0 16 = 0 then
    let s := s.bump (Reg.BS_SLU_STALL d) 0 64 1
    if s.sluice.poolEmpty.getLsbD d then s
    else ({ s with sluice := { s.sluice with poolEmpty := withBit s.sluice.poolEmpty d } }).raise 0x4121 d [(1, d)]
  else { s with sluice := { s.sluice with poolEmpty := withoutBit s.sluice.poolEmpty d } }

/-- One cell time of the whole sluice (R273, R276): 20/21 ns pass. Frames delivered inside the Golik are left in
sluice.deliver. -/
def State.cellTime (s : State) : State :=
  let c := s.sluice.cells
  let s := { s with now := s.now + ((c + 1) * 20 / 21 - c * 20 / 21),
                    sluice := { s.sluice with cells := (c + 1) % 21 } }
  let s := s.forEach (s.sluice.voqs.map (·.1)) State.ageQueue
  let s := s.countCeilWait
  let s := s.matchStages
  let s := s.fillBuckets
  let s := s.unblock
  s.forEach (List.range 4) State.countStall

/-- CISTERN_READBACK: the next frames come back behind those on chip, while the on-chip part is below G:0x4040.04 and the pool has room
(R286 to R288). -/
def readbackGo (k : Nat) : Nat → State → State
  | 0, s => s
  | fuel + 1, s =>
    let q := s.voq k
    let d := dieOfSluice (k / 8 / 52)
    match q.cist with
    | [] => s
    | x :: rest =>
      if s.gzv 0x4040 0x04 ≤ cellsOf q.chip then s
      else
        let s1 := (s.setVoq k { q with cist := rest }).bump (Reg.BS_CISTERN_IO d) 32 32 (linesOf x.f)
        if s.aged x then readbackGo k fuel (s1.discardAged (k / 8 % 52) x false)
        else if 31936 - s.sharedUsed d < cellsOf (q.chip ++ [x]) - cellsOf q.chip then s
        else readbackGo k fuel (s1.setVoq k { q with cist := rest, chip := q.chip ++ [x] })

def cisternReadbackStep (input output vc : Nat) (s : State) : State :=
  let k := voqKey input output vc
  let s := readbackGo k (s.voq k).cist.length s
  let q := s.voq k
  (s.setVoq k { q with spilling := q.spilling && !q.cist.isEmpty }).sluiceBuf (dieOfSluice input)

/-- Frames held anywhere in the sluice for a destination (R281): in its queues, in cells under way, or at an output. -/
def State.heldFor (s : State) (d : Nat) : Bool :=
  s.sluice.voqs.any (fun e => (e.2.chip ++ e.2.cist).any (fun x => x.f.dst.toNat == d && decide (e.1 / 8 % 52 < 48)))
    || (s.sluice.fly ++ s.sluice.cross).any (fun c => decide (c.key / 8 % 52 < 48) && c.ends.any (fun x => x.f.dst.toNat == d))
    || s.ports.any (fun e => e.2.slq.any (fun x => x.f.dst.toNat == d))

end Sys2Proof.Machine
end

