-- ==== Sys2Proof/Machine/Source.lean ====
section
/-!
DEFINITION. What the Golik sends: answers to requests (R255), its own requests to other homes (R223, R256, R261), messages to
the companion (R309).
-/

namespace Sys2Proof.Machine

/-! ### Answers -/

/-- A response in the shape of its request (R255). -/
def respTo (f : Frame) (typ status : Nat) (aux : Word) (data : Line) : Frame :=
  { typ := BitVec.ofNat 8 typ, vc := 3, ctx := f.ctx, src := f.dst, ord := f.ord, dst := f.src, seq := f.seq,
    status := BitVec.ofNat 8 status, addr := f.addr, aux := aux, data := data }

/-- A response sent where its request came from: the arrival port, the Thoit link, or an issuer inside (R31); to a member, in the name of the
line's home, through the internal input of the die that holds its entry (R31, R191). -/
def State.deliverResp (s : State) (o : Origin) (r : Frame) : State :=
  match o with
  | .port p => if s.insetOn && !s.isSelf r.src then s.sourceFrame (r.line % 4) r else s.egress p r
  | .group _ => { s with thoit := { s.thoit with answers := s.thoit.answers ++ [r] } }
  | .eng e => { s with ans := s.ans ++ [{ eng := e, f := r }] }

/-- The basin die that answers a request of a line: its owning die, or for a member's line of another home the die of bits
[8:7] (R16, R195). -/
def State.answerDie (s : State) (f : Frame) : Nat := if s.isSelf f.dst then s.ownerDie f.line else f.line % 4

/-- A response sent and counted in its tag's slot (R322); one that concerns a line goes back over the ring (R18). -/
def State.respond (s : State) (f : Frame) (o : Origin) (typ status : Nat) (aux : Word) (data : Line) : State :=
  let s := if inMemory f then s.carry (s.answerDie f) o.die f.line else s
  (s.countStatus f.ctx status).deliverResp o (respTo f typ status aux data)

/-- What is passed on of a status another home answers: a code of Table 0-2, or for any other, which R13 makes a failure, a failing
code of that table (notes assumption 67). -/
def relayStatus (st : Nat) : Nat := if st ≤ stElsewhere then st else stContext + Config.relayFailure st % 10

/-- A response as the Golik takes it: one with a status it does not recognise says that the operation failed (R13). -/
def heard (f : Frame) : Frame :=
  if (f.typ = 0x50 ∨ f.typ = 0x51) ∧ stElsewhere < f.status.toNat then { f with typ := 0x50 } else f

/-! ### Messages the Golik starts on the Thoit link (R309) -/

/-- A message of class K0, K2, K3 or K4 (0, 2, 3, 4) for the companion; it waits for credit in its class. -/
def State.toCompanion (s : State) (k : Nat) (f : Frame) : State :=
  { s with thoit := { s.thoit with waiting := s.thoit.waiting ++ [(k, f)] } }

/-- LINK of GL_THOIT_STATE reads LOST. -/
def State.thoitLost (s : State) : Bool := s.rf Reg.GL_THOIT_STATE 0 3 == 4

/-! ### Own requests to other homes -/

/-- The next number of the series to a destination (R223, R256): the series starts at 0. -/
def State.nextSeq (s : State) (dst : Nat) (ord : Bool) : BitVec 24 × State :=
  let k := 2 * dst + bitN ord
  let n := mget 0 s.series k
  (BitVec.ofNat 24 n, { s with series := mput 0 s.series k ((n + 1) % 2 ^ 24) })

/-- A request of the Golik's own sent by the sluice, and kept for retry (R261): an ordered one leaves by B(d mod 4)
(R223). -/
def State.sendOwn (s : State) (die : Nat) (f : Frame) (why : Purpose) : State :=
  let d := if f.ord then f.dst.toNat % 4 else die
  let (n, s) := s.nextSeq f.dst.toNat f.ord
  let f := { f with seq := n, src := s.selfId }
  let s : State := { s with out := s.out ++ [{ f := f, die := d, purpose := why, sentAt := s.now }] }
  s.sourceFrame d f

/-- A read or a write of a line of tier T2 backing (R411), numbered in the series to the companion and kept until its
answer. -/
def State.t2Send (s : State) (wr : Bool) (ctx : BitVec 16) (line : Nat) (data : Line) (why : Purpose) : State :=
  let (n, s) := s.nextSeq 16384 false
  let f : Frame := { typ := if wr then 0xA9 else 0xA8, ctx := ctx, seq := n, addr := BitVec.ofNat 46 (128 * line),
                     data := if wr then data else 0 };
  (({ s with thoit := { s.thoit with t2 := s.thoit.t2 ++ [(f, why)] } }).carry (s.ownerDie line) (2 * (line % 2)) line).toCompanion 4 f

end Sys2Proof.Machine
end

