-- ==== Sys2Proof/Machine/Home.lean ====
section
/-!
DEFINITION. Transactions at the home (chapter 6): one line's requests one at a time (R163), the rows of Table 6-7, probes and their
answers, grants, the hold window, recalls, lost-dirty lines; and what the ordered operations of chapter 8 add to them.
Lines below 2^39 are homed here; the keys above are inset entries (chapter 7).
-/

namespace Sys2Proof.Machine

/-! ### Holders, probes and entries -/

/-- A key names an inset entry, not a line homed here. -/
def isInsetKey (n : Nat) : Bool := decide (2 ^ 39 ≤ n)

/-- The table entry behind a holder number: a coherence port, or a member for an inset entry. -/
def State.holder (s : State) (n p : Nat) : CPort := if isInsetKey n then s.member p else s.cport p

/-- Device-local offset of a line, or of an inset entry's line. -/
def keyAddr (n : Nat) : BitVec 46 := BitVec.ofNat 46 (n % 2 ^ 39 * 128)

/-- The head transaction of a line changed. -/
def State.modHead (s : State) (n : Nat) (f : Txn → Txn) : State :=
  match s.txnsOf n with
  | [] => s
  | t :: rest => s.setTxns n (f t :: rest)

/-- The head transaction ends. -/
def State.popHead (s : State) (n : Nat) : State := s.setTxns n (s.txnsOf n).tail

/-- The next identifier of a probe to a holder: unique among those outstanding to it (R258). -/
def State.nextProbeId (s : State) (p : Nat) : Nat :=
  let above (a : Nat) (l : List ProbeOut) : Nat := l.foldl (fun a q => if q.port = p then max a (q.id + 1) else a) a
  s.uprobes.foldl (fun a u => above a u.probes) (s.txns.foldl (fun a e => e.2.foldl (fun a t => above a t.probes) a) 0)

/-- A probe sent by the home: through the sluice to a device, or in class K0 to the companion (R159, R162, R309). -/
def State.sendProbe (s : State) (n p id : Nat) (kind : ProbeKind) : State :=
  let typ := match kind with | .inv => 0x43 | .share => 0x44 | .fetch => 0x45
  let src := if isInsetKey n then BitVec.ofNat 14 (n / 2 ^ 39 - 1) else s.selfId
  let f : Frame := { typ := BitVec.ofNat 8 typ, vc := 2, src := src, dst := (s.holder n p).device, addr := keyAddr n,
                     aux := BitVec.ofNat 64 id }
  if p = 0 ∧ !isInsetKey n then (s.carry (s.dieOfKey n) (2 * (n % 2)) n).toCompanion 0 f else s.sourceFrame (s.dieOfKey n) f

/-- What the remote-line cache of a die answers to a probe of a line, and the line after it (Table 6-6, R160, R179): PRIOR
and data. -/
def rlcAnswer (x : Rlc) (kind : ProbeKind) : (Nat × Option Line) × Rlc :=
  match x.state with
  | .exclusive =>
    if x.dirty then
      ((4, some x.data), match kind with
        | .inv => { x with state := .invalid, dirty := false }
        | .share => { x with state := .owned }
        | .fetch => x)
    else
      match kind with
      | .inv => ((2, none), { x with state := .invalid })
      | .share => ((2, some x.data), { x with state := .shared })
      | .fetch => ((2, some x.data), x)
  | .owned => ((3, some x.data), if kind = .inv then { x with state := .invalid, dirty := false } else x)
  | .shared => ((1, none), if kind = .inv then { x with state := .invalid } else x)
  | _ => ((0, none), x)

/-- The remote-line cache line of a key on its die (R179). -/
def State.rlcAt (s : State) (k : Nat) : Rlc := mget {} (s.die (k % 4)).rlc k
def State.setRlc (s : State) (k : Nat) (x : Rlc) : State :=
  s.setDie (k % 4) { s.die (k % 4) with rlc := mput {} (s.die (k % 4)).rlc k x }

/-- The holder number of a request's sender: its coherence port with VALID set, or at the inset its member entry, 0 for the
Golik's own remote-line cache (R188). -/
def State.requester (s : State) (n : Nat) (f : Frame) (o : Origin) : Option Nat :=
  if isInsetKey n then
    match o with
    | .eng _ => some 0
    | _ => (s.members.find? (fun e => decide (0 < e.1) && e.2.valid && e.2.device == f.src)).map (·.1)
  else s.portFor f o (fun e => e.valid)

/-- The holders an entry records. -/
def Entry.holders (e : Entry) : List Nat := onesOf e.vector

/-- The entry with no holder left in any state. -/
def Entry.cleared (e : Entry) : Entry :=
  if e.vector = 0 then {} else { e with state := .shared, owner := 0 }

/-- Holder p removed (Tables 6-7 and 6-10). -/
def Entry.without (e : Entry) (p : Nat) : Entry :=
  let e := { e with vector := withoutBit e.vector p }
  if e.vector = 0 then {} else e

/-- Probes of one kind sent to holders for the head transaction; a lost port counts as answered with PRIOR I (R182). Entry 0
of the inset is the Golik's own remote-line cache, which answers at once. -/
def State.probeAll (s : State) (n : Nat) (ports : List Nat) (kind : ProbeKind) : State :=
  s.forEach ports (fun s p =>
    if (s.holder n p).lost then s
    else if isInsetKey n ∧ p = 0 then
      let ((prior, data), x) := rlcAnswer (s.rlcAt n) kind
      let owner := (s.entry n).state != .shared && (s.entry n).owner == 0
      (s.setRlc n x).modHead n (fun t => { t with prior := if owner then some prior else t.prior,
                                                  data := if owner && data.isSome then data else t.data })
    else
      let id := s.nextProbeId p
      let s := s.modHead n (fun t => { t with probes := t.probes ++ [{ port := p, id := id, kind := kind, since := s.now }] })
      s.sendProbe n p id kind)

/-! ### Lost-dirty lines (R183) -/

/-- A line becomes LOST: no holder, OWNER and OWNER_TAG kept, the tag fenced, the parcel's bit set; event 0x3101 for this one line
unless a walk counts it. -/
def State.loseLine (s : State) (n : Nat) (walk : Bool) : State :=
  let e := s.entry n
  let s := s.setEntry n { e with state := .lost, vector := 0, awaited := [], walked := walk }
  if isInsetKey n then
    if walk then s else s.raise 0x3111 (s.dieOfKey n) [(2, e.owner), (2, e.ownerTag.toNat), (4, 1)]
  else
    let p := parcelOf n
    let s := (s.fence e.ownerTag).setRf (Reg.GL_PARCEL_LOSTDIRTY (p / 64)) (p % 64) 1 1
    if walk then s
    else s.raise 0x3101 (s.ownerDie n) [(2, p), (2, e.ownerTag.toNat), (2, e.owner), (4, 1)]

/-! ### Grants (R164 to R168) -/

/-- State codes of a grant (Table 9-5). -/
def grS : Nat := 1
def grE : Nat := 2
def grM : Nat := 3

/-- The hold window a grant to a holder sets: four times as long for an inset (R168, R205). -/
def State.holdWindow (s : State) (n p : Nat) : Nat :=
  let w := s.gzv 0x3010 0x01
  let inset := if isInsetKey n then (s.member p).kind == 1 else (s.cport p).kind == 3
  if inset then 4 * w else w

/-! ### Ways of the atlas cache and store (R172 to R175) -/

/-- A line is locked in the atlas cache (R172). -/
def State.locked (s : State) (n : Nat) : Bool :=
  !(s.txnsOf n).isEmpty || decide (s.now < (s.entry n).holdEnd) || !(s.entry n).awaited.isEmpty || (s.entry n).state == .lost

/-- The atlas-cache set of a key on its die. -/
def cacheSet (n : Nat) : Nat := Config.cacheSet n % 8192

/-- Working ways of a key's cache set: 16, until more than its four spares are used (R172, R175). -/
def State.cacheWays (s : State) (n : Nat) : Nat :=
  let l := (s.die (s.dieOfKey n)).aretired
  if l.isEmpty then 16 else 16 - (mget 0 l (cacheSet n) - 4)

/-- What takes a way of a key's cache set, most recently used first. -/
def State.cacheMates (s : State) (n : Nat) : List Nat :=
  let x := s.die (s.dieOfKey n)
  if x.acache.length < 16 ∧ x.aretired.isEmpty then [] else x.acache.filter (fun m => cacheSet m == cacheSet n)

/-- The key has a way of its cache set, or one is free or can be evicted (R172). -/
def State.cacheRoom (s : State) (n : Nat) : Bool :=
  (s.die (s.dieOfKey n)).acache.contains n
    || decide ((s.cacheMates n).length < s.cacheWays n) || (s.cacheMates n).any (fun m => !s.locked m)

/-- The key takes a way of its cache set, or becomes its most recently used; the least recently used unlocked way is evicted where none is
free (R172). -/
def State.cacheIn (s : State) (n : Nat) : State :=
  let d := s.dieOfKey n
  let x := s.die d
  let evict : Option Nat := if x.acache.contains n ∨ (s.cacheMates n).length < s.cacheWays n then none
    else ((s.cacheMates n).filter (fun m => !s.locked m)).getLast?
  let rest := match evict with
    | some v => x.acache.erase v
    | none => x.acache
  s.setDie d { x with acache := n :: rest.erase n }

/-- The lines of a die's quarter in the store set of a line, of a list (R171, R195). -/
def State.sameSet (s : State) (n : Nat) (l : List (Nat × Entry)) : List (Nat × Entry) := l.filter (fun e => s.setOf e.1 == s.setOf n)

/-- The lowest way of its store set that a first grant may take (R174). -/
def State.freeWay (s : State) (n : Nat) : Nat :=
  let used := (s.sameSet n s.atlas).map (fun e => e.2.way)
  ((List.range 8).find? (fun w => !used.contains w)).getD 0

/-- A way of the cache of a die reads uncorrectable and is retired: a spare takes its place, or the set runs with fewer ways (R175); in
service events 0x3104 and 0x3105 tell it. The way's number is the Golik's. -/
def State.retireWay (s : State) (d set : Nat) (inService : Bool) : State :=
  let x := s.die d
  let r := mget 0 x.aretired set + 1
  let s := s.setDie d { x with aretired := mset x.aretired set r }
  let s := if r = 1 then s.bump (Reg.BS_ATLAS_WAYS d) 0 14 1 else s
  let s := if r = 5 then s.bump (Reg.BS_ATLAS_WAYS d) 14 14 1 else s
  if 4 < r then
    (if inService then s.raiseCause 0x3105 d [(1, d), (2, set), (1, 20 - r)] .atlas else s.setCause .atlas)
  else if inService then
    let (w, s) := s.fresh
    s.raise 0x3104 d [(1, d), (2, set), (1, w.toNat % 20)]
  else s

/-- A hit reads its way, which may turn out uncorrectable: the way is retired and the entry reloaded from the store (R175). -/
def State.readWay (s : State) (n : Nat) : State :=
  let s1 : State := { s with free := s.free + 1 }
  if Config.atlasReadFails s.free then (s1.retireWay (s.dieOfKey n) (cacheSet n) true).readSet n else s1

/-- The entry after a grant of st to p under a tag: S joins the vector, E and M make p the sole owner; STAMP, HOLD_END, the
GrantAck awaited, but for a lost port's, which counts as arrived (R166 to R168, R182); the way of store and cache it takes. data is what the
grant carries where the array need not hold it (R167). -/
def State.recordGrant (s : State) (n p : Nat) (f : Frame) (st : Nat) (dataless : Bool) (data : Option Line) : State :=
  let e := s.entry n
  let w := s.holdWindow n p
  let way := if e.state = .invalid then s.freeWay n else e.way
  let aw : Awaited := { port := p, seqs := [f.seq.toNat], typ := f.typ.toNat, granted := st + (if dataless then 4 else 0),
                        data := data, since := s.now }
  let e := if st = grS then
      { e with state := (if e.state = .owned then .owned else .shared), vector := withBit e.vector p,
               owner := (if e.state = .owned then e.owner else 0) }
    else { e with state := .exclusive, vector := withBit 0 p, owner := p, ownerTag := f.ctx }
  (s.setEntry n { e with stamp := s.edges % 2 ^ 40, holdEnd := max e.holdEnd (s.now + w), way := way,
                         awaited := if (s.holder n p).lost then e.awaited else e.awaited ++ [aw] }).cacheIn n

/-- The grant sent with its data, or dataless. -/
def State.sendGrant (s : State) (f : Frame) (o : Origin) (st : Nat) (dataless : Bool) (data : Line) : State :=
  s.respond f o (if dataless then 0x41 else 0x40) stOk (BitVec.ofNat 64 st) (if dataless then 0 else data)

/-- The parcel of a line held WR as the request was checked (R51) and the line is no stamp line: an untracked ReadShared is granted E
(Table 6-7, Table 21-5). -/
def State.grantsE (s : State) (n : Nat) (writes : Bool) : Bool :=
  if (s.parcel (parcelOf n)).state = .commons then decide (indexOf n ≠ 0) else writes

/-! ### Retirement, gauges and the echo table (R219, R225, R264, R265) -/

/-- The key of an echo record. -/
def echoKey (die src : Nat) (seq : BitVec 24) : Nat := die * 2 ^ 40 + src * 2 ^ 24 + seq.toNat

/-- What a request's end does beside its answer: its number retires, a gauge-tagged write counts (R219, R225). -/
def State.retireReq (s : State) (f : Frame) (o : Origin) (tenant : Nat) (behind old : Bool) (status : Nat) : State :=
  if !f.ord || behind then s
  else
    let s := if (f.typ = 0x1A ∨ f.typ = 0x1B) ∧ status = stOk then
        { s with increments := s.increments ++ [(tenant, f.gauge.toNat,
          if f.typ = 0x1A then 128 else popCount f.mask)] } else s
    if old ∨ status = stRetry then s else s.retire (sourceKey f o) f.seq

/-- The atomic's echo record takes its result; those that waited on it are answered from it (R264, R265). A RETRY leaves
no record, and those that waited are taken through the check afresh (R265). -/
def State.echoDone (s : State) (f : Frame) (o : Origin) (die status : Nat) (oldBytes : BitVec 128) : State :=
  let k := echoKey die (sourceKey f o) f.seq
  match mfind s.echoes k with
  | none => s
  | some r =>
    if status = stRetry then
      ({ s with echoes := merase s.echoes k } : State).forEach r.waiters (fun s w => s.act (.again w.1 w.2))
    else
      let done : Echo := { pending := false, status := BitVec.ofNat 8 status, old := oldBytes, until_ := s.now + 64000 }
      let s : State := { s with echoes := mset s.echoes k done }
      s.forEach r.waiters (fun s w =>
        (s.bump (Reg.BS_ECHO_HITS die) 0 64 1).respond w.1 w.2
          (if status = stOk ∨ status = stStaleBase then 0x51 else 0x50) status 0 (oldBytes.setWidth 1024))

/-- The head transaction's request is answered and the transaction ends. -/
def State.finishReq (s : State) (n : Nat) (t : Txn) (f : Frame) (o : Origin) (tenant : Nat) (behind : Bool)
    (typ status : Nat) (aux : Word) (data : Line) : State :=
  let s := s.retireReq f o tenant behind t.oldSeries status
  let s := if f.typ = 0x1C ∧ !t.oldSeries then s.echoDone f o (s.ownerDie n) status (data.setWidth 128) else s
  (s.popHead n).respond f o typ status aux data

/-- As finishReq with no data. -/
def State.finishStatus (s : State) (n : Nat) (t : Txn) (status : Nat) : State :=
  match t.work with
  | .req f o tenant behind => s.finishReq n t f o tenant behind 0x50 status 0 0
  | .recall _ => s.popHead n

/-! ### Access to the line's backing (R411, Table 16-2) -/

/-- An access to the line's backing: the array, the lender, or the companion's DRAM. -/
def State.access (s : State) (r : FReq) (ctx : BitVec 16) : State :=
  let n := r.line
  let e := s.reloc (parcelOf n) (pieceOf n)
  if e.place = 0 then s.requestF { r with tag := ctx }
  else
    let s := if r.wr then s.markDirty n else s
    if e.place = 1 then
      let full := r.mask == BitVec.allOnes 128
      let f : Frame := { typ := if !r.wr then 0x12 else if full then 0x18 else 0x19, vc := 1, ctx := ctx, dst := e.device,
                         ord := false, addr := BitVec.ofNat 46 (e.parcel * 2 ^ 30 + e.piece * 2 ^ 25 + 128 * (n % pieceLines)),
                         data := r.data, mask := if r.wr then r.mask else BitVec.allOnes 128 }
      s.sendOwn (s.ownerDie n) f (.forward n)
    else if s.thoitLost then s.act (.failed r stTargetLost)
    else s.t2Send r.wr ctx n r.data (.forward n)

/-- The tag a transaction's accesses carry. -/
def Txn.ctx (t : Txn) : BitVec 16 := match t.work with
  | .req f _ _ _ => f.ctx
  | .recall _ => 0

/-- Whether a full-line or whole-word write reads the old line first: a guarded line in tier T0 (R134), or a masked write to
tier T2 backing (Table 16-2). -/
def State.readsOld (s : State) (n : Nat) (m : Mask) : Bool :=
  let place := s.whereOf n
  (place == 0 && s.guardedLine n && !subWord m) || (place == 2 && m != BitVec.allOnes 128)

/-- A write to backing starts: its old line is read first where it must be. -/
def State.startWrite (s : State) (n : Nat) (t : Txn) (use : FUse) (data : Line) (m : Mask) : State :=
  if s.readsOld n m then (s.modHead n (fun t => { t with phase := .old })).access { line := n, use := .old } t.ctx
  else (s.modHead n (fun t => { t with phase := if use = .dirty then .dirty else if use = .rmwWrite then .rmwWrite else .write })).access
    { line := n, use := use, wr := true, data := data, mask := m } t.ctx

/-! ### Plans: the probes of each row of Table 6-7 -/

/-- What a row of Table 6-7 asks of the holders. discards: dirty data that comes back is dropped; writes: it is written first. -/
structure Plan where
  ports : List Nat := []
  kind : ProbeKind := .inv
  discards : Bool := false
  writes : Bool := false

/-- The type a request is performed as: an Upgrade of a line its sender does not hold is a ReadOwn. -/
def rowType (e : Entry) (typ p : Nat) : Nat :=
  if typ = 0x13 ∧ !(e.vector.getLsbD p && e.state != .invalid) then 0x11 else typ

/-- The row of Table 6-7 for a request of type typ from port p (1024 for none). A request of a device without a port probes the line's holders as
Table 6-7 has it: that no holder is probed on its behalf (R155) is read as its holding no line, DEDUCED (notes assumption 67). -/
def reqPlan (e : Entry) (typ p : Nat) : Plan :=
  let others := e.holders.filter (fun q => q != p)
  if typ = 0x10 then
    match e.state with
    | .exclusive => if e.owner = p then {} else { ports := [e.owner], kind := .share }
    | .owned => if e.owner = p then { ports := others, discards := true } else { ports := [e.owner], kind := .fetch }
    | _ => {}
  else if typ = 0x11 then
    match e.state with
    | .shared => { ports := others }
    | .exclusive => { ports := others }
    | .owned => { ports := others, discards := e.owner == p }
    | _ => {}
  else if typ = 0x13 then { ports := others, discards := e.state == .owned }
  else if typ = 0x12 then
    match e.state with
    | .exclusive | .owned => { ports := [e.owner], kind := .fetch }
    | _ => {}
  else if typ = 0x14 then {}
  else if typ = 0x15 then
    if e.state = .owned ∧ e.owner = p then { ports := others, discards := true } else {}
  else if typ = 0x18 ∨ typ = 0x1A then { ports := e.holders, discards := true }
  else { ports := e.holders, writes := true }

/-- What a recall asks of the holders. -/
def recallPlan (e : Entry) : RecallWhy → Plan
  | .rightsShare => if e.state = .exclusive then { ports := [e.owner], kind := .share, writes := true } else {}
  | .release => { ports := e.holders, discards := true }
  | .lose => if e.state = .owned then { ports := e.holders.filter (fun q => q != e.owner), discards := true } else {}
  | _ => { ports := e.holders, writes := true }

/-- The plan of a transaction on its line's entry. -/
def State.planOf (s : State) (n : Nat) (t : Txn) : Plan :=
  let e := s.entry n
  match t.work with
  | .req f o _ _ =>
    let p := (s.requester n f o).getD 1024
    if isInsetKey n && f.typ == 0x14 && e.owner == p then { ports := e.holders.filter (fun q => q != p), discards := true }
    else reqPlan e (rowType e f.typ.toNat p) p
  | .recall w =>
    if e.state = .lost ∨ e.state = .invalid ∨ (w = .lose ∧ !(s.holder n e.owner).lost) then {} else recallPlan e w

/-- Holders of a line found lost-dirty that its probes have not invalidated; a copy its owner named I, M or O without data
is gone (R183, R202, R557). -/
def State.survivors (s : State) (n : Nat) (t : Txn) : List Nat :=
  let e := s.entry n
  let pl := s.planOf n t
  let gone := e.state != .shared && (t.prior == some 0 || t.prior == some 3 || t.prior == some 4)
  e.holders.filter (fun q => !((pl.kind == .inv && pl.ports.contains q) || (gone && q == e.owner)))

/-- A lost-dirty answer leaves holders to invalidate before the line becomes LOST (R183). -/
def State.toSweep (s : State) (n : Nat) (t : Txn) : Bool := t.lostDirty && !t.swept && !(s.survivors n t).isEmpty

/-- Those holders are sent ProbeInv; what they return is discarded. -/
def State.sweepLost (s : State) (n : Nat) (t : Txn) : State :=
  (s.modHead n (fun t => { t with swept := true })).probeAll n (s.survivors n t) .inv

/-! ### Recalls (R174) -/

/-- A recall of a line joins its queue; one already waiting is enough. -/
def State.recall (s : State) (n : Nat) (w : RecallWhy) : State :=
  let l := s.txnsOf n
  if l.any (fun t => t.work == .recall w) then s else s.setTxns n (l ++ [{ work := .recall w, since := s.now }])

/-- A recall that goes before what waits on the line. -/
def State.recallFirst (s : State) (n : Nat) (w : RecallWhy) : State :=
  s.setTxns n ({ work := .recall w, since := s.now } :: s.txnsOf n)

/-- The entries in the store set of a line, where it can be full (R171, R195). -/
def State.storeMates (s : State) (n : Nat) : List (Nat × Entry) :=
  if s.atlas.length + s.txns.length < 8 then [] else s.sameSet n s.atlas

/-- Lines of the set whose request, on its way to a first grant, will take a way: they hold a cache way already. -/
def State.storeClaims (s : State) (n : Nat) : Nat :=
  if s.atlas.length + s.txns.length < 8 then 0
  else (s.txns.filter (fun e => e.1 != n && !e.2.isEmpty && (s.entry e.1).state == .invalid
    && (s.die (s.dieOfKey e.1)).acache.contains e.1 && s.setOf e.1 == s.setOf n)).length

/-- The entry of oldest STAMP, compared modulo 2^40 (R174). -/
def oldestEntry (l : List (Nat × Entry)) (now : Nat) : Option Nat :=
  (l.foldl (fun (a : Option (Nat × Nat)) e =>
    let age := (now + 2 ^ 40 - e.2.stamp % 2 ^ 40) % 2 ^ 40
    match a with
    | none => some (e.1, age)
    | some b => if b.2 < age then some (e.1, age) else some b) none).map (·.1)

/-- A first grant of an untracked line needs a way of its cache set and a free way of its store set: answers true where there are both;
where the store set is full a victim is recalled, if one is not locked (R172, R174). -/
def State.wayFree (s : State) (n : Nat) : State × Bool :=
  if (s.entry n).state ≠ .invalid then (s, true)
  else if !s.cacheRoom n then (s, false)
  else
    let mates := s.storeMates n
    if mates.length + s.storeClaims n < 8 then (s, true)
    else if mates.any (fun e => (s.txnsOf e.1).any (fun t => t.work == .recall .victim)) then (s, false)
    else match oldestEntry (mates.filter (fun e => !s.locked e.1)) (s.edges % 2 ^ 40) with
      | some v =>
        let d := s.dieOfKey n
        let s := s.bump (Reg.BS_ATLAS_RECALLS d) 0 64 1
        let s := if isInsetKey v then s.bump (Reg.BS_INSET_RELEASES d) 32 32 1 else s
        (s.recall v .victim, false)
      | none => (s, false)

/-- The census of a piece on a die is not zero (R173). -/
def State.censusOn (s : State) (d piece : Nat) : Bool :=
  s.atlas.any (fun e => decide (e.1 < 2 ^ 34) && decide (e.1 / pieceLines = piece) && s.ownerDie e.1 == d)

/-- The key's entry is in the atlas cache. -/
def State.cached (s : State) (n : Nat) : Bool := (s.die (s.dieOfKey n)).acache.contains n && (s.entry n).state != .invalid

/-- The census settles that the line is untracked; inset entries are not counted in it (R173, R195). -/
def State.censusSettles (s : State) (n : Nat) : Bool := !isInsetKey n && !s.censusOn (s.dieOfKey n) (n / pieceLines)

/-- The line is in the atlas cache, or the census settles it without a read of the store. -/
def State.atlasOnDie (s : State) (n : Nat) : Bool := s.cached n || s.censusSettles n

/-- The lookup of a line in the atlas cache, counted: a hit reads its way; a miss the census does not settle has its store set read (R172,
R173, R175). -/
def State.lookup (s : State) (n : Nat) : State :=
  let d := s.dieOfKey n
  if s.cached n then ((s.cacheIn n).bump (Reg.BS_ATLAS_HITS d) 0 64 1).readWay n
  else if s.censusSettles n then s.bump (Reg.BS_ATLAS_UNTRACKED d) 0 64 1
  else if s.storeReading n then s
  else (s.readSet n).bump (Reg.BS_ATLAS_FETCHES d) 0 64 1

/-- A request that comes to its turn with its number retired meanwhile is a reissue: its original waited on the line before it (R218, R220,
R225). -/
def State.reclassed (s : State) (t : Txn) : Bool := match t.work with
  | .req f o _ behind => f.ord && !behind && !t.oldSeries && (s.order (sourceKey f o)).behind f.seq
  | .recall _ => false

/-- The transaction of a reissue. -/
def Txn.asBehind (t : Txn) : Txn := match t.work with
  | .req f o tenant _ => { t with work := .req f o tenant true }
  | .recall _ => t

/-- The lookup of the head's line as its transaction begins, a request's number classed again; where its store set is read the head
waits for it. -/
def State.lookHead (s : State) (n : Nat) : State :=
  let again := (s.txnsOf n).head?.any s.reclassed
  let s := if again then s.bump (Reg.BS_ORDER_REISSUE (s.dieOfKey n)) 0 64 1 else s
  let s := s.lookup n
  let wait := s.storeReading n
  s.modHead n (fun t =>
    let t := if again then t.asBehind else t
    { t with looked := true, since := s.now, phase := if wait then .store else .start })

/-- The store set of the head's line has been read: the entry found fills a way of the cache, once one can take it (R172, R173); none
where the head waits. -/
def State.storeStep (s : State) (n : Nat) : Option State :=
  if s.storeReading n then none
  else if (s.entry n).state ≠ .invalid ∧ !s.cacheRoom n then none
  else
    let s := if (s.entry n).state = .invalid then s else s.cacheIn n
    some (s.modHead n (fun t => { t with phase := .start }))

/-! ### The steps of a transaction -/

/-- Waiting of a request for HOLD_END and GrantAcks counted (BS_ATLAS_HOLDWAIT). -/
def State.holdWaited (s : State) (n : Nat) (t : Txn) : State :=
  s.raiseTo (Reg.BS_ATLAS_HOLDWAIT (s.dieOfKey n)) 0 32 (s.now - t.since)

/-- A request's number has retired, or waits for no predecessor: it is not the seal store it was classed as (R220). -/
def State.unsealed (s : State) (f : Frame) (o : Origin) : Bool :=
  let r := s.order (sourceKey f o)
  r.behind f.seq || f.seq - 1 == r.ot

/-- A seal store that waits for its predecessors, at its line's head or behind other requests of the line (R220). -/
def State.sealWaits (s : State) (t : Txn) : Bool :=
  t.phase == .seal && (match t.work with
    | .req f o _ behind => !behind && !t.oldSeries && !s.unsealed f o
    | .recall _ => false)

/-- Seal stores that wait on a die (R222). -/
def State.sealsWaiting (s : State) (d : Nat) : Nat :=
  s.txns.foldl (fun a e => if s.dieOfKey e.1 = d then a + (e.2.filter s.sealWaits).length else a) 0

/-- Event 0x3106 of an owner that dropped its modified copy (Table 6-7, Table 6-13). -/
def State.ownerProtocol (s : State) (n p typ : Nat) : State :=
  s.raise 0x3106 (s.dieOfKey n) [(2, p), (8, 128 * (n % 2 ^ 39)), (1, if typ = 0x15 then 0 else if typ = 0x10 then 1 else 2)]

/-- The old value of an atomic's operand: the word, or the pair of words, that POS names (Table 8-6). -/
def operandOf (l : Line) (kind pos : Nat) : BitVec 128 :=
  if kind % 2 = 1 then (lineWord l pos).setWidth 128
  else (lineWord l (2 * pos)).setWidth 128 ||| ((lineWord l (2 * pos + 1)).setWidth 128 <<< 64)

/-- The operation of an atomic kind at a width (Table 8-7); none where nothing is written. -/
def atomicOp (kind : Nat) {w : Nat} (old opd swap : BitVec w) : Option (BitVec w) :=
  match (kind + 1) / 2 with
  | 1 => some (old + opd)
  | 2 => some opd
  | 3 => if old = opd then some swap else none
  | 4 => if opd.slt old then some opd else none
  | 5 => if old.slt opd then some opd else none
  | 6 => if opd.ult old then some opd else none
  | 7 => if old.ult opd then some opd else none
  | _ => none

/-- The line after an atomic, or none where it writes nothing (R231, Table 8-7). -/
def atomicLine (l : Line) (f : Frame) : Option Line :=
  let kind := (lineByte f.data 32).toNat
  let pos := (lineByte f.data 33).toNat
  let opd := f.data.setWidth 128
  let swp := (f.data >>> 128).setWidth 128
  if kind % 2 = 1 then
    (atomicOp kind (lineWord l pos) (opd.setWidth 64) (swp.setWidth 64)).map (withLineWord l pos)
  else
    (atomicOp kind (operandOf l kind pos) opd swp).map (fun (v : BitVec 128) =>
      withLineWord (withLineWord l (2 * pos) (v.setWidth 64)) (2 * pos + 1) ((v >>> 64).setWidth 64))

/-- An atomic that breaks R230: reserved KIND, POS out of range, reserved bytes not zero. -/
def atomicBad (f : Frame) : Bool :=
  let kind := (lineByte f.data 32).toNat
  let pos := (lineByte f.data 33).toNat
  let wide := kind % 2 == 0
  let cas := kind == 5 || kind == 6
  kind == 0 || decide (14 < kind) || decide ((if wide then 7 else 15) < pos)
    || f.data >>> 272 != 0
    || (!cas && (f.data >>> 128).setWidth 128 != (0 : BitVec 128))
    || (!wide && ((f.data >>> 64).setWidth 64 != (0 : BitVec 64)
        || (cas && (f.data >>> 192).setWidth 64 != (0 : BitVec 64))))

/-- The operation on an INVALID line with nothing of it merging: the write of a write, the read of an atomic (R164, R231). -/
def State.afterClose (s : State) (n : Nat) (t : Txn) (f : Frame) : State :=
  if f.typ = 0x1C then (s.modHead n (fun t => { t with phase := .rmwRead })).access { line := n, use := .rmwRead } t.ctx
  else s.startWrite n t .write f.data (if f.typ = 0x19 ∨ f.typ = 0x1B then f.mask else BitVec.allOnes 128)

/-- The operation after the line is INVALID; an atomic or a seal store first closes the line's merge entry and waits for its
closing write (R118, R119). -/
def State.afterInvalid (s : State) (n : Nat) (t : Txn) (f : Frame) : State :=
  let s := s.setEntry n {}
  if (f.typ = 0x1C ∨ f.isSeal) ∧ s.whereOf n = 0 ∧ (s.openEntry n).isSome then
    ((s.modHead n (fun t => { t with phase := .close })).closeEntry (s.homeChan n) n)
  else s.afterClose n t f

/-- The entry that probes already answered leave, when the request itself records nothing (R127). -/
def afterProbes (e : Entry) (typ p prior : Nat) : Entry :=
  match e.state with
  | .exclusive =>
    if e.owner = p then e
    else if typ = 0x10 ∧ (prior = 1 ∨ prior = 2) then { e with state := .shared, owner := 0 }
    else if typ = 0x10 ∧ prior = 0 ∨ typ = 0x11 then {}
    else e
  | .shared => if typ = 0x11 then (if e.vector.getLsbD p then { e with vector := withBit 0 p } else {}) else e
  | _ => e

/-- The piece of a line is engine-pinned on its owning die (R176). -/
def State.pinned (s : State) (n : Nat) : Bool :=
  decide (mget 0 (s.die (s.ownerDie n)).pins (n / pieceLines) ≠ 0)

/-- A request past the check whose piece has been engine-pinned since is answered RETRY (R177). -/
def State.pinRetry (s : State) (n : Nat) (t : Txn) : State :=
  (s.bump (Reg.BS_ATLAS_RETRIES (s.ownerDie n)) 0 64 1).finishStatus n t stRetry

/-- A caching request that has its data, or needs none, is granted (Table 6-7). -/
def State.grantReq (s : State) (n : Nat) (t : Txn) (f : Frame) (o : Origin) (p : Nat) (arrayLine : Line) : State :=
  let e := s.entry n
  let typ := rowType e f.typ.toNat p
  let dirty := t.prior == some 3 || t.prior == some 4
  let data := t.data.getD arrayLine
  let fresh := if typ = 0x11 ∨ s.grantsE n t.writes then grE else grS
  let (st, dataless) :=
    if typ = 0x13 then ((if e.state = .owned then grM else grE), true)
    else if typ = 0x10 then
      match e.state with
      | .exclusive => if e.owner = p ∨ t.prior = some 0 then (fresh, false) else (grS, false)
      | .shared | .owned => (grS, false)
      | _ => (fresh, false)
    else if dirty then (grM, false) else (grE, false)
  let already := e.awaited.any (fun a => a.port == p && a.seqs.contains f.seq.toNat)
  if already then (s.popHead n).sendGrant f o st dataless data
  else if s.pinned n then s.pinRetry n t
  else
    let s := s.popHead n
    let e := if typ = 0x10 ∧ e.state = .exclusive ∧ e.owner ≠ p then
        (if t.prior = some 0 then {}
         else if dirty then { e with state := .owned }
         else { e with state := .shared, owner := 0 })
      else e
    let s := s.setEntry n e
    (s.recordGrant n p f st dataless t.data).sendGrant f o st dataless data

/-- A read of the array is needed for the head transaction's answer. -/
def State.fetchLine (s : State) (n : Nat) (t : Txn) : State :=
  (s.modHead n (fun t => { t with phase := .fetch })).access { line := n, use := .fetch } t.ctx

/-- The offset of a line of a REHOMED piece at its new home (R417). -/
def Reloc.addrAt (e : Reloc) (n : Nat) : Nat := e.parcel * 2 ^ 30 + e.piece * 2 ^ 25 + 128 * (n % pieceLines)

/-- What the new home is sent for a write or an atomic of a REHOMED piece: ordered, without seal and gauge (R424). -/
def forwarded (e : Reloc) (n : Nat) (f : Frame) : Frame :=
  { f with typ := if f.typ = 0x1A then 0x18 else if f.typ = 0x1B then 0x19 else f.typ, vc := 1, isSeal := false, gauge := 0,
           ord := true, dst := e.device, addr := BitVec.ofNat 46 (e.addrAt n), aux := 0 }

/-- A request of a REHOMED piece in its turn: a caching request or read is redirected, the return of a line has no effect,
writes and atomics are forwarded and stay in progress until the new home answers (R422, R424). -/
def State.performRehomed (s : State) (n : Nat) (t : Txn) (f : Frame) (o : Origin) (tenant : Nat) (behind : Bool) : State :=
  let e := s.reloc (parcelOf n) (pieceOf n)
  if f.typ = 0x14 ∨ f.typ = 0x15 then s.finishStatus n t stOk
  else if f.typ.toNat < 0x18 then
    s.finishReq n t f o tenant behind 0x52 stOk (pack [(14, e.device.toNat), (46, e.addrAt n), (1, 1)]) 0
  else (s.modHead n (fun t => { t with phase := .up })).sendOwn (s.ownerDie n) (forwarded e n f) (.forward n)

/-- The new home's answer to a forward, relayed to its source (R424); one given up is TARGET_LOST and loses the parcel
(R413). -/
def State.forwardDone (s : State) (n : Nat) (typ status : Nat) (data : Line) (gaveUp : Bool) : State :=
  match s.txnsOf n with
  | t :: _ =>
    match t.work, t.phase with
    | .req f o tenant behind, .up =>
      if gaveUp then (s.loseParcel (parcelOf n)).finishStatus n t stTargetLost
      else s.finishReq n t f o tenant behind typ (relayStatus status) 0 data
    | _, _ => s
  | [] => s

/-- Every probe of a request answered, or none needed: its row is performed (Table 6-7, R557). -/
def State.performReq (s : State) (n : Nat) (t : Txn) (f : Frame) (o : Origin) (tenant : Nat) (behind : Bool) : State :=
  let e := s.entry n
  let p := (s.requester n f o).getD 1024
  let typ := rowType e f.typ.toNat p
  if !isInsetKey n && s.whereOf n == 3 then s.performRehomed n t f o tenant behind
  else if t.lostDirty then (s.loseLine n false).finishStatus n t stFenced
  else if typ = 0x12 then
    match t.data with
    | some l => s.finishReq n t f o tenant behind 0x51 stOk 0 l
    | none => s.fetchLine n t
  else if typ = 0x10 ∨ typ = 0x11 then
    if e.state = .owned ∧ e.owner = p then
      ((s.loseLine n false).ownerProtocol n p typ).finishStatus n t stFenced
    else match t.data with
    | some _ => s.grantReq n t f o p 0
    | none => s.fetchLine n t
  else if typ = 0x13 then s.grantReq n t f o p 0
  else if typ = 0x14 then
    if (e.state = .exclusive ∨ e.state = .owned) ∧ e.owner = p then
      s.startWrite n t .dirty f.data (BitVec.allOnes 128)
    else s.finishStatus n t stOk
  else if typ = 0x15 then
    if e.state = .owned ∧ e.owner = p then
      ((s.loseLine n false).ownerProtocol n p typ).finishStatus n t stOk
    else if (e.state = .shared ∨ e.state = .exclusive) ∧ e.vector.getLsbD p then (s.setEntry n (e.without p)).finishStatus n t stOk
    else s.finishStatus n t stOk
  else if (typ = 0x19 ∨ typ = 0x1B ∨ typ = 0x1C) ∧ t.data.isSome ∧ !t.dirtyDone then
    s.startWrite n t .dirty (t.data.getD 0) (BitVec.allOnes 128)
  else s.afterInvalid n t f

/-- Every probe of a recall answered: dirty data is written or dropped, then the entry goes (R51, R52, R156, R174, R182). -/
def State.performRecall (s : State) (n : Nat) (t : Txn) (w : RecallWhy) : State :=
  let e := s.entry n
  if t.lostDirty then (s.loseLine n (w == .lose)).popHead n
  else if w = .lose then
    if e.state = .owned ∧ (s.holder n e.owner).lost then (s.loseLine n true).popHead n else s.popHead n
  else if w != .release && t.data.isSome && !t.dirtyDone then
    s.startWrite n t .dirty (t.data.getD 0) (BitVec.allOnes 128)
  else if w = .rightsShare then
    let s := if e.state = .exclusive then
        s.setEntry n (if t.prior = some 0 then {} else { e with state := .shared, owner := 0 }) else s
    s.popHead n
  else if e.state = .lost ∧ w ≠ .release then s.popHead n
  else (s.setEntry n {}).popHead n

/-- The row of a transaction performed. -/
def State.perform (s : State) (n : Nat) (t : Txn) : State :=
  match t.work with
  | .req f o tenant behind => s.performReq n t f o tenant behind
  | .recall w => s.performRecall n t w

/-- A port lost while its walk runs is taken off the line before anything is performed on it (R182, Table 6-10); an owner
that held the line OWNED first has its sharers invalidated. Answers whether the head may go on. -/
def State.clearLostHolders (s : State) (n : Nat) : State × Bool :=
  let e := s.entry n
  match e.holders.find? (fun p => (s.holder n p).lost && (s.holder n p).valid) with
  | none => (s, true)
  | some p =>
    if e.owner = p ∧ e.state = .exclusive then (s.loseLine n true, true)
    else if e.owner = p ∧ e.state = .owned then
      if e.vector = withBit 0 p then (s.loseLine n true, true)
      else if (s.txnsOf n).head?.any (fun t => t.work == .recall .lose) then (s, true)
      else (s.recallFirst n .lose, false)
    else if isInsetKey n ∧ withoutBit e.vector p = 0 then
      ((s.setEntry n { e with state := .invalid, vector := 0, owner := 0 }).recallFirst n .victim, false)
    else (s.setEntry n (e.without p), true)

/-- A request found its own port's GrantAck awaited (R167): a request of the granted type is granted again; another one
waits. The data is that of the grant, where the array need not hold it. none: no such wait. -/
def State.regrant (s : State) (n : Nat) (t : Txn) : Option (Option State) :=
  match t.work with
  | .recall _ => none
  | .req f o _ _ =>
    match s.requester n f o with
    | none => none
    | some p =>
      match (s.entry n).awaited.find? (fun a => a.port == p) with
      | none => none
      | some a =>
        if !isCaching f.typ.toNat then none
        else if a.typ = f.typ.toNat ∧ f.typ ≠ 0x14 ∧ f.typ ≠ 0x15 then
          let e := s.entry n
          let aw := e.awaited.map (fun b => if b.port = p then { b with seqs := b.seqs ++ [f.seq.toNat] } else b)
          let s := s.setEntry n { e with awaited := aw }
          if 4 ≤ a.granted then some (some ((s.popHead n).sendGrant f o (a.granted - 4) true 0))
          else match a.data with
            | some l => some (some ((s.popHead n).sendGrant f o a.granted false l))
            | none => some (some (s.fetchLine n t))
        else some none

/-- What holds the head of a line back before its probes: a cut-over (R418), its seal (R220), a GrantAck of its own port,
a store way, the hold window (R168). One step of the head; none where it waits. -/
def State.startStep (s : State) (n : Nat) (t : Txn) : Option State :=
  let isReq := match t.work with | .req _ _ _ _ => true | _ => false
  if isReq && t.late && (s.reloc (parcelOf n) (pieceOf n)).phase == 2 then none
  else if s.sealWaits t then none
  else if !t.looked then some (s.lookHead n)
  else
    let (s1, go) := s.clearLostHolders n
    if !go then some s1
    else match s1.regrant n t with
    | some (some s2) => some s2
    | some none => none
    | none =>
      let s := s1
      let e := s.entry n
      let lostNow := match t.work with
        | .req f _ _ _ => e.state == AState.lost && f.typ != 0x14 && f.typ != 0x15
        | .recall _ => false
      if lostNow then some (s.finishStatus n t stFenced)
      else
        let pl := s.planOf n t
        let caching := match t.work with
          | .req f _ _ _ => f.typ == 0x10 || f.typ == 0x11 || f.typ == 0x13
          | .recall _ => false
        let (s2, way) := if caching then s.wayFree n else (s, true)
        let s := if caching ∧ e.state = .invalid then s.cacheIn n else s
        if !way then (if s2.txns = s.txns then none else some s2)
        else if pl.ports.isEmpty then some (s.perform n t)
        else if !e.awaited.isEmpty then none
        else if pl.kind ≠ ProbeKind.fetch ∧ s.now < e.holdEnd then none
        else
          let s := s.holdWaited n t
          some ((s.modHead n (fun t => { t with phase := .probe })).probeAll n pl.ports pl.kind)

/-- One step of the head transaction of a line homed here; none where it waits for something outside. -/
def State.headStep (s : State) (n : Nat) : Option State :=
  if isInsetKey n then none
  else match s.txnsOf n with
  | [] => none
  | t :: _ =>
    match t.phase with
    | .start | .seal => s.startStep n t
    | .store => s.storeStep n
    | .probe => if !t.probes.isEmpty then none else some (if s.toSweep n t then s.sweepLost n t else s.perform n t)
    | .close => if (s.openEntry n).isSome then none
                else match t.work with
                | .req f _ _ _ => some (s.afterClose n t f)
                | _ => none
    | _ => none

/-- A line's transactions carried as far as they go. -/
def advanceLine (n : Nat) : Nat → State → State
  | 0, s => s
  | fuel + 1, s => match s.headStep n with
    | some s => advanceLine n fuel s
    | none => s

/-- As advanceLine, with steps enough for everything that waits on the line. -/
def State.advance (s : State) (n : Nat) : State := advanceLine n (8 * (s.txnsOf n).length + 8) s

/-! ### What the backing gives back -/

/-- The head's write, or the write of its dirty data, done. -/
def State.writeDone (s : State) (n : Nat) (t : Txn) (use : FUse) : State :=
  match t.work, use with
  | .req f o tenant behind, .dirty =>
    if f.typ = 0x14 then
      let e := s.entry n
      let e := if e.owner = (s.requester n f o).getD 1024 then
          ({ e with vector := withoutBit e.vector e.owner, owner := 0 } : Entry).cleared else e
      (s.setEntry n e).finishStatus n t stOk
    else
      let t := { t with dirtyDone := true }
      (s.modHead n (fun _ => t)).performReq n t f o tenant behind
  | .recall w, .dirty =>
    let t := { t with dirtyDone := true }
    (s.modHead n (fun _ => t)).performRecall n t w
  | .req f o tenant behind, .rmwWrite =>
    s.finishReq n t f o tenant behind 0x51 stOk 0
      ((operandOf t.old (lineByte f.data 32).toNat (lineByte f.data 33).toNat).setWidth 1024)
  | .req _ _ _ _, _ => s.finishStatus n t stOk
  | .recall _, _ => s.popHead n

/-- The atomic's read is back: the operation, its write, or its answer where it writes nothing (R231, R530). -/
def State.atomicRead (s : State) (n : Nat) (t : Txn) (f : Frame) (o : Origin) (tenant : Nat) (behind : Bool)
    (l : Line) : State :=
  let kind := (lineByte f.data 32).toNat
  let pos := (lineByte f.data 33).toNat
  let oldv := (operandOf l kind pos).setWidth 1024
  let t := { t with old := l }
  let s := s.modHead n (fun _ => t)
  if s.pinned n then s.pinRetry n t
  else match atomicLine l f with
  | some l2 =>
    let m := maskOfWords (if kind % 2 = 1 then BitVec.ofNat 16 (2 ^ pos) else BitVec.ofNat 16 (3 * 2 ^ (2 * pos)))
    (s.modHead n (fun t => { t with phase := .rmwWrite })).access
      { line := n, use := .rmwWrite, wr := true, data := l2, mask := if s.whereOf n = 0 then m else BitVec.allOnes 128 } t.ctx
  | none =>
    let stale := (s.parcel (parcelOf n)).state == .commons && indexOf n == 0
    s.finishReq n t f o tenant behind 0x51 (if stale then stStaleBase else stOk) 0 oldv

/-- A read of the backing is back with its data, or uncorrectable (R126 to R128, R134). -/
def State.readBack (s : State) (n : Nat) (t : Txn) (l : Line) (ue : BitVec 16) : State :=
  match t.work, t.phase with
  | .req f o tenant behind, .fetch =>
    let p := (s.requester n f o).getD 1024
    if ue ≠ 0 then
      let s := s.uncorrectable n f.ctx 0
      let e := s.entry n
      let e := { e with awaited := e.awaited.filter (fun a => !(a.port == p && a.seqs == [f.seq.toNat])) }
      let e := if f.typ = 0x12 then e
        else if e.awaited.length < (s.entry n).awaited.length then e.without p
        else if e.awaited.any (fun a => a.port == p) then e
        else afterProbes e (rowType e f.typ.toNat p) p (t.prior.getD 0)
      (s.setEntry n e).finishStatus n t stUncorrectable
    else if f.typ = 0x12 then s.finishReq n t f o tenant behind 0x51 stOk 0 l
    else
      match (s.entry n).awaited.find? (fun a => a.port == p && a.seqs.contains f.seq.toNat) with
      | some a => (s.popHead n).sendGrant f o (a.granted % 4) false l
      | none => s.grantReq n t f o p l
  | .req f o tenant behind, .rmwRead =>
    if ue ≠ 0 then (s.uncorrectable n f.ctx 2).finishStatus n t stUncorrectable
    else s.atomicRead n t f o tenant behind l
  | .req f _ _ _, .old =>
    let dirty := f.typ = 0x14 ∨ (t.data.isSome ∧ !t.dirtyDone)
    if ue ≠ 0 then
      let s := s.uncorrectable n f.ctx 4
      (if f.typ = 0x14 then s else s.setEntry n {}).finishStatus n t stUncorrectable
    else if dirty then
      (s.modHead n (fun t => { t with phase := .dirty })).access
        { line := n, use := .dirty, wr := true, data := if f.typ = 0x14 then f.data else t.data.getD 0,
          mask := BitVec.allOnes 128 } t.ctx
    else
      let masked := f.typ = 0x19 ∨ f.typ = 0x1B
      let data := if masked ∧ s.whereOf n = 2 then mergeBytes l f.data f.mask else f.data
      (s.modHead n (fun t => { t with phase := .write })).access
        { line := n, use := .write, wr := true, data := data,
          mask := if masked ∧ s.whereOf n ≠ 2 then f.mask else BitVec.allOnes 128 } t.ctx
  | .req f _ _ _, .write =>
    if ue ≠ 0 then (s.uncorrectable n f.ctx 4).finishStatus n t stUncorrectable else s
  | .recall w, .old =>
    if ue ≠ 0 then
      let t := { t with dirtyDone := true }
      ((s.uncorrectable n 0 4).modHead n (fun _ => t)).performRecall n t w
    else (s.modHead n (fun t => { t with phase := .dirty })).access
      { line := n, use := .dirty, wr := true, data := t.data.getD 0, mask := BitVec.allOnes 128 } t.ctx
  | _, _ => s

/-- An access use belongs to the phase its head is in. -/
def usePhase : FUse → Phase
  | .fetch => .fetch | .old => .old | .write => .write | .dirty => .dirty | .rmwRead => .rmwRead | .rmwWrite => .rmwWrite
  | _ => .start

/-- The backing outside tier T0 fails: the request completes TARGET_LOST, or UNCORRECTABLE with event 0x2110, and the parcel is
lost (R413). -/
def State.backingFailed (s : State) (n : Nat) (t : Txn) (status : Nat) : State :=
  let st := if status = stUncorrectable then stUncorrectable else stTargetLost
  let s := if status = stUncorrectable then s.uncorrectable n t.ctx 0 else s
  ((s.loseParcel (parcelOf n)).finishStatus n t st)

/-- What the array or other backing has done for a line's head transaction, carried on. -/
def State.onAct (s : State) (a : Act) : State :=
  match a with
  | .issued r =>
    match (s.txnsOf r.line).head? with
    | some t => if usePhase r.use = t.phase then (s.writeDone r.line t r.use).advance r.line else s
    | none => s
  | .returned r l ue =>
    match (s.txnsOf r.line).head? with
    | some t => if usePhase r.use = t.phase then (s.readBack r.line t l ue).advance r.line else s
    | none => s
  | .failed r status =>
    match (s.txnsOf r.line).head? with
    | some t => if usePhase r.use = t.phase then (s.backingFailed r.line t status).advance r.line else s
    | none => s
  | _ => s

end Sys2Proof.Machine
end

