-- ==== Sys2Proof/Machine/Request.lean ====
section
/-!
DEFINITION. Requests at the home from arrival to their place on their line: the order of the checks (Table 3-4, R155, R218, R257),
the echo table, stamp lines, lost, moved and engine-pinned pieces, receipts of the Thoit link (R307); probe answers,
GrantAcks and the timers of a line.
-/

namespace Sys2Proof.Machine

/-! ### Classing and answering at arrival -/

/-- Class of an ordered request (Table 8-2): beyond, behind, or in the window. -/
inductive OrdClass where
  | unordered | beyond | behind | window
deriving DecidableEq, Repr

def State.classify (s : State) (f : Frame) (o : Origin) : OrdClass :=
  if !f.ord then .unordered
  else
    let r := s.order (sourceKey f o)
    if r.beyond f.seq then .beyond else if r.behind f.seq then .behind else .window

/-- A request answered as it arrives. An ordered one of the window retires with any status but RETRY (R219). A request of
the companion that a receipt answers gets no message (R307). -/
def State.refuseReq (s : State) (f : Frame) (o : Origin) (status : Nat) (byReceipt : Bool) : State × Receipt :=
  let cls := s.classify f o
  let s := if cls = .window ∧ status ≠ stRetry then s.retire (sourceKey f o) f.seq else s
  match o, byReceipt with
  | .group _, true =>
    (s.countStatus f.ctx status, if status = stRetry then { code := 2 } else { code := 4, status := BitVec.ofNat 8 status })
  | _, _ => (s.respond f o 0x50 status 0 0, { code := 1 })

/-! ### The echo table at step 6 (R264 to R266) -/

/-- Live records of a source on a die: PENDING ones, and completed ones inside their 64 µs. -/
def State.echoLive (s : State) (d src : Nat) : Nat :=
  (s.echoes.filter (fun e => e.1 / 2 ^ 24 == d * 2 ^ 16 + src && (e.2.pending || decide (s.now < e.2.until_)))).length

/-- Step 6 of an atomic: answered from its record, left waiting on it, AGED_OUT, RETRY, or a record of its own and the
check goes on (none). -/
def State.echoStep (s : State) (f : Frame) (o : Origin) (d : Nat) (cls : OrdClass) : State × Option Receipt :=
  let src := sourceKey f o
  let k := echoKey d src f.seq
  let found := match mfind s.echoes k with
    | some r => if r.pending ∨ s.now < r.until_ then some r else none
    | none => none
  match found with
  | some r =>
    if r.pending then
      ({ s with echoes := mset s.echoes k { r with waiters := r.waiters ++ [(f, o)] } }, some { code := 1 })
    else
      let st := r.status.toNat
      ((s.bump (Reg.BS_ECHO_HITS d) 0 64 1).respond f o (if st = stOk ∨ st = stStaleBase then 0x51 else 0x50) st 0
        (r.old.setWidth 1024), some { code := 1 })
  | none =>
    if cls = .behind then
      ((s.bump (Reg.BS_ECHO_AGED d) 0 64 1).respond f o 0x50 stAgedOut 0 0, some { code := 1 })
    else if 256 ≤ s.echoLive d src then
      let (s, r) := (s.bump (Reg.BS_ECHO_FULL d) 0 64 1).refuseReq f o stRetry true
      (s, some r)
    else ({ s with echoes := mset s.echoes k {} }, none)

/-- An atomic refused after step 6: its record takes the status (R264), or goes where it is RETRY. -/
def State.refuseLate (s : State) (f : Frame) (o : Origin) (d status : Nat) (byReceipt : Bool) : State × Receipt :=
  let s := if f.typ = 0x1C then s.echoDone f o d status 0 else s
  s.refuseReq f o status byReceipt

/-! ### After the check -/

/-- A request to the stamp line of a commons parcel that Table 21-5 does not perform (R529, R530). -/
def State.stampRefuses (s : State) (f : Frame) : Bool :=
  let n := f.line
  if (s.parcel (parcelOf n)).state = .commons ∧ indexOf n = 0 then
    match f.typ.toNat with
    | 0x10 | 0x12 | 0x14 | 0x15 => false
    | 0x1C =>
      !((lineByte f.data 32).toNat == 6 && (lineByte f.data 33).toNat == 0
        && decide ((lineWord f.data 0).toNat < (lineWord f.data 2).toNat))
    | _ => true
  else false

/-- Requests of the companion that wait at their channels' ingress on a die (R307). -/
def State.companionWaiting (s : State) (d : Nat) : Nat :=
  s.txns.foldl (fun a e =>
    if e.1 < 2 ^ 34 ∧ s.ownerDie e.1 = d ∧ s.waitsAtIngress e.1 then
      a + (e.2.filter (fun t => match t.work with | .req _ (.group _) _ _ => true | _ => false)).length
    else a) 0

/-- The place of an admitted request in its line's order (R163), and its receipt: GRANT where the companion's caching
request can be granted at once (R307, R308). A seal store that must wait does so from here on, in the pool of its die (R222). -/
def State.admitReq (s : State) (f : Frame) (o : Origin) (tenant : Nat) (cls : OrdClass) : State × Receipt :=
  let n := f.line
  let behind := cls == .behind
  let s := if behind then s.bump (Reg.BS_ORDER_REISSUE (s.ownerDie n)) 0 64 1 else s
  let e := s.entry n
  let typ := f.typ.toNat
  let early := match o with
    | .group _ => (typ == 0x10 || typ == 0x11 || typ == 0x13) && (s.txnsOf n).isEmpty && s.atlasOnDie n
        && (reqPlan e (rowType e typ 0) 0).ports.isEmpty && e.state != .lost
        && !(e.state == .owned && e.owner == 0 && typ != 0x13)
        && (e.awaited.find? (fun a => a.port == 0)).isNone && (s.wayFree n).2
    | _ => false
  let late := (s.reloc (parcelOf n) (pieceOf n)).phase == 2
  let sealed := f.isSeal && !behind && !s.unsealed f o
  let t : Txn := { work := .req f o tenant behind, since := s.now, looked := early, late := late, fenced := s.drainsTag f.ctx,
                   writes := (s.parcel (parcelOf n)).rights.getLsbD 1, phase := if sealed then .seal else .start }
  if sealed && decide (256 ≤ s.sealsWaiting (s.ownerDie n)) then
    (s.bump (Reg.BS_SEAL_TIMEOUT (s.ownerDie n)) 0 64 1).refuseReq f o stRetry true
  else if early then
    let s := s.lookup n
    let st := if typ = 0x13 ∧ e.state = .owned then grM
      else if typ ≠ 0x10 ∨ e.state = .invalid ∨ e.state = .exclusive then
        (if typ ≠ 0x10 ∨ s.grantsE n t.writes then grE else grS)
      else grS
    let dl := rowType e typ 0 == 0x13
    let s := s.recordGrant n 0 f st dl none
    if dl then (s.countStatus f.ctx stOk, { code := 3, state := st })
    else
      let s := s.setTxns n (s.txnsOf n ++ [t])
      (s.fetchLine n t, { code := 3, state := st })
  else
    let s := if sealed then s.bump (Reg.BS_SEAL_WAITED (s.ownerDie n)) 0 64 1 else s
    ((s.setTxns n (s.txnsOf n ++ [t])).advance n, { code := 1 })

/-- The companion's (R307: a receipt's code is the first row of Table 11-5 that applies, RETRY before REFUSED). -/
def Origin.isGroup : Origin → Bool
  | .group _ => true
  | _ => false

/-- Everything between the check and the line's order: uncached and lost parties, R230, stamp lines, lost parcels, moved
and pinned pieces. -/
def State.pastCheck (s : State) (f : Frame) (o : Origin) (tenant : Nat) (cls : OrdClass) : State × Receipt :=
  let n := f.line
  let t := f.typ.toNat
  let d := s.ownerDie n
  let x := s.reloc (parcelOf n) (pieceOf n)
  if isCaching t && (s.requester n f o).isNone then s.refuseLate f o d stContext false
  else if t = 0x1C ∧ atomicBad f then (s.bump (Reg.BS_REQ_MALFORMED d) 32 32 1).refuseLate f o d stNoParcel false
  else if s.stampRefuses f then s.refuseLate f o d stNoParcel false
  else if s.parcelLost (parcelOf n) && !(o.isGroup && s.pinned n && (t = 0x10 || t = 0x11 || t = 0x13 || t = 0x1C)) then s.refuseLate f o d stTargetLost true
  else
    if s.pinned n && (t = 0x10 || t = 0x11 || t = 0x13 || t = 0x1C) then
      (s.bump (Reg.BS_ATLAS_RETRIES d) 0 64 1).refuseLate f o d stRetry true
    else if x.phase ≠ 0 ∧ (t = 0x10 ∨ t = 0x11 ∨ t = 0x13) then
      (s.bump (Reg.BS_ATLAS_RETRIES d) 0 64 1).refuseLate f o d stRetry false
    else match o with
    | .group _ =>
      if (s.entry n).state = .lost ∧ t ≠ 0x14 ∧ t ≠ 0x15 then s.refuseLate f o d stFenced true
      else s.admitReq f o tenant cls
    | _ => s.admitReq f o tenant cls

/-- A memory-window request past steps 1 to 3: its class, the flag rules, the check, step 6 of an atomic between steps 5 and
7 (Table 3-4, R64, R218, R257). -/
def State.checkReq (s : State) (f : Frame) (o : Origin) : State × Receipt :=
  let n := f.line
  let d := s.ownerDie n
  let s := s.carry o.die d n
  let cls := s.classify f o
  if cls = .beyond then (s.bump (Reg.BS_ORDER_BEYOND d) 0 64 1).refuseReq f o stRetry true
  else if o.isGroup && decide (256 ≤ s.companionWaiting d) then s.refuseReq f o stRetry true
  else if flagsBad f then s.refuseReq f o stNoParcel false
  else
    let v := s.checkMemory f o
    if f.typ = 0x1C ∧ v ≠ .refuse stContext ∧ v ≠ .refuse stFenced then
      match s.echoStep f o d cls with
      | (s, some r) => (s, r)
      | (s, none) =>
        match v with
        | .refuse st => s.refuseLate f o d st true
        | .allow tenant => s.pastCheck f o tenant cls
    else match v with
    | .refuse st => s.refuseReq f o st true
    | .allow tenant => s.pastCheck f o tenant cls

/-- A request of the device that matches a coherence-port entry with LOST set (R155). -/
def State.fromLost (s : State) (f : Frame) (o : Origin) : Bool := (s.portFor f o (fun e => e.lost)).isSome

/-- A request to the memory window, or to no window, from its arrival (R37, R39, R64, R155). -/
def State.homeRequest (s : State) (f : Frame) (o : Origin) : State × Receipt :=
  if f.ver ≠ 1 then (s.bump (Reg.BS_REQ_MALFORMED o.die) 0 32 1).refuseReq f o stNoParcel true
  else if !inMemory f then s.refuseReq f o stNoParcel true
  else if s.fromLost f o then s.refuseReq f o stContext false
  else s.checkReq f o

/-! ### Probe answers (R159, R202, R255, R557) -/

/-- A probe answer matched to the probe outstanding to a holder on a line; none where none is. -/
def State.takeAnswer (s : State) (n p : Nat) (f : Frame) : Option State :=
  match s.txnsOf n with
  | [] => none
  | t :: _ =>
    let id := f.aux.toNat % 2 ^ 32
    if !t.probes.any (fun q => q.port == p && q.id == id) then none
    else
      let prior := f.aux.toNat / 2 ^ 32 % 8
      let e := s.entry n
      let pl := s.planOf n t
      let hasData := f.typ == 0x47
      let fromOwner := (e.state == .exclusive || e.state == .owned) && e.owner == p
      let lostDirty := !hasData &&
        (if e.state == .owned && e.owner == p then !pl.discards else (prior == 3 || prior == 4))
      some (s.modHead n (fun t =>
        { t with probes := t.probes.filter (fun q => !(q.port == p && q.id == id)),
                 prior := if fromOwner then some prior else t.prior,
                 data := if hasData && fromOwner && (!pl.discards || isInsetKey n) then some f.data else t.data,
                 lostDirty := t.lostDirty || lostDirty }))

/-- The holder number an answer comes from: the device's coherence-port entry, port 0 for the companion. -/
def State.answerPort (s : State) (f : Frame) (o : Origin) : Option Nat :=
  match o with
  | .group _ => some 0
  | _ => s.portFor f o (fun e => e.valid)

/-- A message that matches nothing is counted where it arrived (R255). -/
def State.countUnmatched (s : State) (o : Origin) : State :=
  match o with
  | .port p => s.unmatched p
  | .group _ => s.bump Reg.GL_THOIT_COUNTS 0 16 1
  | .eng _ => s

/-- PROBE_ANSWER_RX of a probe of this home's. -/
def State.probeAnswer (s : State) (f : Frame) (o : Origin) : State :=
  match (s.answerPort f o).bind (fun p => s.takeAnswer f.line p f) with
  | some s => s.advance f.line
  | none => s.countUnmatched o

/-! ### GrantAcks (R167) -/

/-- A GrantAck of a holder taken off a line's entry; none where none of its number is awaited. -/
def State.takeAck (s : State) (n p seq : Nat) : Option State :=
  let e := s.entry n
  if e.awaited.any (fun a => a.port == p && a.seqs.contains seq) then
    some ((s.setEntry n { e with awaited := e.awaited.filter (fun a => !(a.port == p && a.seqs.contains seq)) }))
  else none

/-- GRANT_ACK_RX: by port, line and SEQ; from the companion by SEQ alone. -/
def State.grantAck (s : State) (f : Frame) (o : Origin) : State :=
  let seq := f.seq.toNat
  match o with
  | .group _ =>
    match s.atlas.find? (fun e => !isInsetKey e.1 && e.2.awaited.any (fun a => a.port == 0 && a.seqs.contains seq)) with
    | some e => match s.takeAck e.1 0 seq with
      | some s => s.advance e.1
      | none => s
    | none => s.countUnmatched o
  | _ =>
    match (s.answerPort f o).bind (fun p => s.takeAck f.line p seq) with
    | some s => s.advance f.line
    | none => s.countUnmatched o

/-! ### Timers of a line -/

/-- The keys of a line: homed here, or inset entries of it. -/
def State.keysOf (s : State) (line : Nat) : List Nat := ((s.atlas.map (·.1)).filter (fun k => k % 2 ^ 39 == line))

/-- HOLD_END passes: what waits for it goes on (R168). -/
def State.holdEndExpiry (s : State) (line : Nat) : State :=
  let s := s.forEach (s.keysOf line) (fun s k => s.atLeast (s.entry k).holdEnd)
  s.forEach (s.keysOf line) (fun s k => s.advance k)

/-- Event 0x3103 for what one line still awaits from a port and has not named (R169, Table 6-13). -/
def State.reportOverdue (s : State) (port k : Nat) : State :=
  let limit := 1000 * s.gzv 0x3010 0x02
  let line := 128 * (k % 2 ^ 39)
  let probes := match (s.txnsOf k).head? with
    | some t => t.probes.filter (fun q => q.port == port && !q.reported)
    | none => []
  let acks := (s.entry k).awaited.filter (fun a => a.port == port && !a.reported)
  let s := s.modHead k (fun t =>
    { t with probes := t.probes.map (fun q => if q.port = port then { q with reported := true } else q) })
  let e := s.entry k
  let s := if acks.isEmpty then s else
    s.setEntry k { e with awaited := e.awaited.map (fun a => if a.port = port then { a with reported := true } else a) }
  let s := s.forEach probes (fun s q =>
    (s.atLeast (q.since + limit)).raise 0x3103 (s.dieOfKey k) [(2, port), (8, line), (1, 0),
      (1, match q.kind with | .inv => 0 | .share => 1 | .fetch => 2)])
  s.forEach acks (fun s a =>
    (s.atLeast (a.since + limit)).raise 0x3103 (s.dieOfKey k) [(2, port), (8, line), (1, 1), (1, 0xFF)])

/-- An answer awaited from a port for G:0x3010.02: event 0x3103, once for each (R169). -/
def State.probeOverdue (s : State) (line port : Nat) : State :=
  let keys := ((s.keysOf line ++ s.txns.map (·.1)).filter (fun k => k % 2 ^ 39 == line)).eraseDups
  s.forEach keys (fun s k => s.reportOverdue port k)

/-- A waiting seal store of a line answered RETRY: it is not performed and does not retire; the line's other requests go on (R222, R224). -/
def State.sealRetry (s : State) (n : Nat) (t : Txn) : State :=
  match t.work with
  | .req f o _ _ => ((s.setTxns n ((s.txnsOf n).erase t)).respond f o 0x50 stRetry 0 0).advance n
  | .recall _ => s

/-- A seal store of a line has waited G:0x3040.01: RETRY (R222). -/
def State.sealTimeout (s : State) (line : Nat) : State :=
  match (s.txnsOf line).find? s.sealWaits with
  | some t =>
    let s := s.atLeast (t.since + 1000 * s.gzv 0x3040 0x01)
    (s.bump (Reg.BS_SEAL_TIMEOUT (s.dieOfKey line)) 0 64 1).sealRetry line t
  | none => s

/-- An echo record's 64 µs are over (R264). -/
def State.echoExpiry (s : State) (die src : Nat) (seq : BitVec 24) : State :=
  match mfind s.echoes (echoKey die src seq) with
  | some r => if r.pending then s
              else ({ s with echoes := merase s.echoes (echoKey die src seq) }).atLeast r.until_
  | none => s

/-! ### Gauges (R225 to R227) -/

/-- Gauge g of a slot is in packet mode. -/
def State.packetMode (s : State) (t g : Nat) : Bool := s.rf (Reg.TN_GAUGE_MODE t (g / 64)) (g % 64) 1 == 1

/-- The oldest increment under way to a gauge takes effect (R226). -/
def State.gaugeIncrement (s : State) (t g : Nat) : State :=
  match s.increments.find? (fun x => x.1 == t && x.2.1 == g) with
  | none => s
  | some x =>
    ({ s with increments := s.increments.erase x }).bump (Reg.TN_GAUGE_COUNT t g) 0 64
      (if s.packetMode t g then 1 else x.2.2)

/-! ### Order resets (R224, R267) -/

/-- The source key of a request in a transaction. -/
def Txn.sourceIs (t : Txn) (src : Nat) : Bool :=
  match t.work with
  | .req f o _ _ => f.ord && sourceKey f o == src
  | .recall _ => false

/-- Every waiting seal store of a source on a line answered RETRY (R224). -/
def State.dropSeals (s : State) (src n : Nat) : State :=
  s.forEach ((s.txnsOf n).filter (fun t => s.sealWaits t && t.sourceIs src)) (fun s t => s.sealRetry n t)

/-- The requests of a source on a line that were classed before its reset: they belong to the old series, in which a number retires and
counts once (R224, R225). -/
def oldSeriesGo (src : Nat) : List (BitVec 24) → List Txn → List Txn
  | _, [] => []
  | seen, t :: rest =>
    match t.work with
    | .req f _ _ _ =>
      if t.sourceIs src then
        let t := if seen.contains f.seq then t.asBehind else t
        { t with oldSeries := true } :: oldSeriesGo src (f.seq :: seen) rest
      else t :: oldSeriesGo src seen rest
    | .recall _ => t :: oldSeriesGo src seen rest

/-- The record of a source reset: its waiting seal stores are answered RETRY, what else was classed before belongs to the old series; its
echo records go, and what waits on a PENDING one is answered RETRY. -/
def State.orderReset (s : State) (src : Nat) : State :=
  let s := s.forEach (s.txns.map (·.1)) (fun s n => s.dropSeals src n)
  let s : State := { s with txns := s.txns.map (fun e => (e.1, oldSeriesGo src [] e.2)) }
  let gone := s.echoes.filter (fun e => e.1 / 2 ^ 24 % 2 ^ 16 == src)
  let s : State := { s with echoes := s.echoes.filter (fun e => e.1 / 2 ^ 24 % 2 ^ 16 != src) }
  let s := s.forEach gone (fun s e => s.forEach e.2.waiters (fun s w => s.respond w.1 w.2 0x50 stRetry 0 0))
  s.setOrder src {}

/-- Every source that has a record, an echo record or a request under way. -/
def State.sources (s : State) : List Nat :=
  let inTxns : List Nat := s.txns.flatMap (fun e => e.2.filterMap (fun t => match t.work with
    | .req f o _ _ => some (sourceKey f o)
    | .recall _ => none))
  let inEchoes : List Nat := s.echoes.map (fun e => e.1 / 2 ^ 24 % 2 ^ 16)
  (s.orders.map (·.1) ++ inEchoes ++ inTxns).eraseDups

/-- A write of GL_ORDER_CMD (R224, Table 8-3). RESET_ALL leaves the companion's record. -/
def State.orderCommand (s : State) (w : Word) : State :=
  let op := field w 0 4
  if op = 0 then s
  else s.command orderRegs (fun s =>
    if op = 1 then (s.orderReset (field w 4 14)).done orderRegs 0
    else if op = 2 then (s.forEach (s.sources.filter (fun k => decide (k < 16384))) State.orderReset).done orderRegs 0
    else if op = 3 then (s.orderReset 16384).done orderRegs 0
    else s.done orderRegs 1)

end Sys2Proof.Machine
end

