-- ==== Sys2Proof/Machine/HomeCmds.lean ====
section
/-!
DEFINITION. The commands over parcels (chapter 2), coherence ports and lost lines (chapter 6), routes (chapter 10); and
TRAINING_TIMEOUT, which sends PEER_LOST through the sluice (R237).
-/

namespace Sys2Proof.Machine

/-! ### Parcels (R42 to R52, R150, R410, R414, R415) -/

/-- The result of a parcel command with its LAST_PARCEL. -/
def State.parcelDone (s : State) (p result : Nat) : State :=
  (s.setRf Reg.GL_PARCEL_STATUS 8 11 p).done parcelRegs result

/-- Arguments of a GRANT that Table 2-5 answers BAD_ARG. -/
def grantBad (broad : Bool) (tier stack : Nat) : Bool :=
  tier == 3 || (tier == 0 && (if broad then stack != 0 else decide (11 < stack))) || (tier != 0 && (broad || stack != 0))

/-- The borrow-list entry of a lender's parcel (R415). -/
def State.borrowOf (s : State) (lender : BitVec 14) (p : Nat) : Option (Nat × Borrow) :=
  s.borrows.find? (fun e => e.2.valid && e.2.lender == lender && e.2.parcel == p)

/-- The parcel with an entry granted to it: the relocation map set for its tier (R410). -/
def State.grantParcel (s : State) (p : Nat) (x : Parcel) : State :=
  let s := s.setParcel p { x with state := .granted, gen := (s.parcel p).gen + 1 }
  if x.tier = 0 then s
  else
    let s := s.forEach (List.range 32) (fun s k => s.setReloc p k
      (if x.tier = 1 then { place := 1, device := x.lender, parcel := x.lenderParcel, piece := k } else { place := 2 }))
    if x.tier = 1 then
      match s.borrowOf x.lender x.lenderParcel with
      | some (i, y) => s.setBorrow i { y with used := BitVec.allOnes 32 }
      | none => s
    else s

/-- The parcel fits: in tier T0 what is in use once it is granted fits each stack, and no failed stack would back it (R55, R150); in
tier T1 the lender's parcel is borrowed and unused (R415). -/
def State.grantRoom (s : State) (p : Nat) (x : Parcel) : Bool :=
  let failed := (List.range 12).any s.stackFailed
  if x.tier = 0 then (s.grantParcel p x).fits && !(failed && (x.broad || x.guarded || s.stackFailed x.stack))
  else if x.tier = 1 then
    match s.borrowOf x.lender x.lenderParcel with
    | some (_, y) => y.used == 0
    | none => false
  else true

/-- GRANT (R50, R55, R150, R415). -/
def State.grantCommand (s : State) (p : Nat) (x : Parcel) : State :=
  if grantBad x.broad x.tier x.stack then s.parcelDone p 3
  else if s.mode ≠ .service then s.parcelDone p 5
  else if (s.parcel p).state ≠ .free then s.parcelDone p 1
  else if s.grantRoom p x then (s.grantParcel p x).parcelDone p 0
  else s.parcelDone p 2

/-- Lines of a parcel the atlas tracks. -/
def State.trackedOf (s : State) (p : Nat) : List (Nat × Entry) :=
  s.atlas.filter (fun e => decide (e.1 < 2 ^ 34) && parcelOf e.1 == p)

/-- Lines of a parcel the atlas tracks or a request past the check still works on. -/
def State.linesInUse (s : State) (p : Nat) : List Nat :=
  let tracked := (s.trackedOf p).map (·.1)
  let asked := (s.txns.filter (fun e => decide (e.1 < 2 ^ 34) && parcelOf e.1 == p)).map (·.1)
  tracked ++ asked.filter (fun n => !tracked.contains n)

/-- A leg runs with a sheet of the parcel pinned (R74). -/
def State.legPins (s : State) (p : Nat) : Bool :=
  s.dies.any (fun d => d.2.xlate.any (fun e => !e.pins.isEmpty && (e.base % 2 ^ 46) / 2 ^ 30 == p
    && e.base / 2 ^ 46 % 2 ^ 14 == s.selfId.toNat))

/-- SET_RIGHTS: the new rights are in force at once; a withdrawn right recalls what was held under it (R51). Lines that a request
past the check is granted after the command starts are not recalled: the spec does not say whether they are, DESIGN CHOICE (notes
assumption 67). -/
def State.setRightsCommand (s : State) (p : Nat) (rights : BitVec 4) (w : Word) : State :=
  if s.mode ≠ .service then s.parcelDone p 5
  else if (s.parcel p).state ≠ .granted then s.parcelDone p 4
  else
    let old := (s.parcel p).rights
    let gone := old &&& ~~~ rights
    let s := s.setParcel p { s.parcel p with rights := rights }
    let s :=
      if gone.getLsbD 0 then s.forEach (s.trackedOf p) (fun s e => s.recall e.1 .rights)
      else if gone.getLsbD 1 || gone.getLsbD 2 then
        s.forEach ((s.trackedOf p).filter (fun e => e.2.state == .exclusive)) (fun s e => s.recall e.1 .rightsShare)
      else s
    s.keepBusy parcelRegs w

/-- SET_RIGHTS_DONE: every probe answered, every returned line written, no leg still runs under the old rights (R51, R74). -/
def State.setRightsEnd (s : State) : State :=
  let w := s.runningWord parcelRegs
  let p := field w 4 11
  if s.busy parcelRegs && field w 0 4 == 3
      && !(s.txns.any (fun e => parcelOf e.1 == p && e.2.any (fun t =>
            t.work == .recall .rights || t.work == .recall .rightsShare)))
      && !s.legPins p then s.parcelDone p 0
  else s

/-- RELEASE: CLOSING, every held line probed and its data dropped (R52). A line that a request past the check may still
grant is probed behind that request. -/
def State.releaseCommand (s : State) (p : Nat) (w : Word) : State :=
  if s.mode ≠ .service then s.parcelDone p 5
  else if (s.parcel p).state ≠ .granted then s.parcelDone p 4
  else
    let s := s.setParcel p { s.parcel p with state := .closing }
    (s.forEach (s.linesInUse p) (fun s n => s.recall n .release)).keepBusy parcelRegs w

/-- An old borrowed piece is cleared at its lender by WriteLines of zero; its USED bit clears with the last of their
completions (R421). -/
def State.zeroBorrowed (s : State) (e : Reloc) : State :=
  match s.borrowOf e.device e.parcel with
  | none => s
  | some (i, _) =>
    s.forEach (List.range pieceLines) (fun s l =>
      let f : Frame := { typ := 0x18, vc := 1, dst := e.device,
                         addr := BitVec.ofNat 46 (e.parcel * 2 ^ 30 + e.piece * 2 ^ 25 + 128 * l) };
      s.sendOwn (l % 4) f (.zero i e.piece))

/-- A parcel enters CLEARING: its entry, lost marks, loan and relocation entries go; a borrowed piece is cleared at its
lender before its USED bit clears (R47, R52, R147, R184, R410, R414, R421). -/
def State.startClearing (s : State) (p : Nat) : State :=
  let x := s.parcel p
  let s := s.forEach (List.range 32) (fun s k =>
    let e := s.reloc p k
    if e.place = 1 then
      s.zeroBorrowed e
    else s)
  let s : State := { s with lends := merase s.lends p }
  let s := s.forEach (s.trackedOf p) (fun s e => s.setEntry e.1 {})
  let s := (s.setRf (Reg.GL_PARCEL_LOST (p / 64)) (p % 64) 1 0).setRf (Reg.GL_PARCEL_LOSTDIRTY (p / 64)) (p % 64) 1 0
  s.setParcel p { x with state := .clearing, tenant := 0, rights := 0 }

/-- Every request that passed the check on the parcel has completed. -/
def State.parcelQuiet (s : State) (p : Nat) : Bool :=
  !(s.txns.any (fun e => decide (e.1 < 2 ^ 34) && parcelOf e.1 == p && !e.2.isEmpty))
    && !s.legPins p && !(s.moves.any (fun m => m.parcel == p))

/-- RELEASE_DRAINED: CLEARING is entered and the command completes (R52). -/
def State.releaseEnd (s : State) : State :=
  let w := s.runningWord parcelRegs
  let p := field w 4 11
  if s.busy parcelRegs && field w 0 4 == 2 && (s.parcel p).state == .closing && s.parcelQuiet p then
    (s.startClearing p).parcelDone p 0
  else s

/-- PARCEL_FREED: clearing has ended; FREE, every line zero, event 0x2119 (R46, R52, R554). -/
def State.parcelFreed (s : State) (p : Nat) : State :=
  let x := s.parcel p
  if x.state = .clearing then
    let s := s.clearBytes (p * 2 ^ 30) ((p + 1) * 2 ^ 30)
    let s := s.forEach (List.range 32) (fun s k => s.setReloc p k {})
    let s : State := { s with oldPieces := s.oldPieces.filter (fun i => i / 32 != p),
                              chans := s.chans.map (fun e => (e.1, { e.2 with cleared := e.2.cleared.filter (fun y =>
                                y.1 != p && !(decide (2048 ≤ y.1) && (y.1 - 2048) / 32 == p)) })) }
    (s.setParcel p { gen := x.gen }).raise 0x2119 fromController [(2, p), (4, x.gen.toNat)]
  else s

/-- A write of GL_PARCEL_CMD (R48, R49, R556). -/
def State.parcelCommand (s : State) (w : Word) : State :=
  let op := field w 0 4
  let p := field w 4 11
  if op = 0 then s
  else s.command parcelRegs (fun s =>
    let rights := BitVec.ofNat 4 (field w 32 4)
    if op = 1 then
      s.grantCommand p {
        tenant := field w 16 10, rights := rights, broad := field w 36 1 == 1,
        guarded := field w 37 1 == 1, tier := field w 38 2, stack := field w 40 4,
        lender := if field w 38 2 = 1 then BitVec.ofNat 14 (s.rf Reg.GL_PARCEL_ARG 0 14) else 0,
        lenderParcel := if field w 38 2 = 1 then s.rf Reg.GL_PARCEL_ARG 16 11 else 0 }
    else if op = 2 then s.releaseCommand p w
    else if op = 3 then s.setRightsCommand p rights w
    else s.parcelDone p 3)

/-! ### Coherence ports (R154 to R156, R182) -/

/-- The result of a port command with its LAST_ENTRY. -/
def State.cportDone (s : State) (n result : Nat) : State :=
  (s.setRf Reg.GL_CPORT_STATUS 8 10 n).done cportRegs result

/-- Lines homed here that record a port. -/
def State.linesOf (s : State) (p : Nat) : List Nat :=
  (s.atlas.filter (fun e => !isInsetKey e.1 && e.2.vector.getLsbD p)).map (·.1)

/-- Everything awaited from a holder counts as answered with PRIOR I and no data, which from the OWNER of a line recorded
OWNED is a lost-dirty answer (R182, R206, R557). -/
def State.answerFor (s : State) (inset : Bool) (p : Nat) : State :=
  let s : State := { s with txns := s.txns.map (fun e =>
    if isInsetKey e.1 = inset then
      let x := s.entry e.1
      (e.1, e.2.map (fun t =>
        let gone := t.probes.filter (fun q => q.port == p)
        if gone.isEmpty then t
        else { t with probes := t.probes.filter (fun q => q.port != p),
                      prior := if x.owner = p ∧ x.state ≠ .shared then some 0 else t.prior,
                      lostDirty := t.lostDirty || (x.state == .owned && x.owner == p && !(s.planOf e.1 t).discards) }))
    else e) }
  s.forEach (s.atlas.filter (fun e => isInsetKey e.1 == inset && e.2.awaited.any (fun a => a.port == p))) (fun s e =>
    s.setEntry e.1 { e.2 with awaited := e.2.awaited.filter (fun a => a.port != p) })

/-- LOSE of a coherence port begins its walk (R182); walk is the key the lines it touches are counted under. -/
def State.losePort (s : State) (n walk : Nat) : State :=
  let lines := s.linesOf n
  let s : State := { s with walked := mset s.walked walk lines.length }
  let s := (s.setCport n { s.cport n with lost := true }).answerFor false n
  s.forEach lines (fun s k => s.recall k .lose)

/-- A write of GL_CPORT_CMD (R155, R156, R182, Table 6-3). CLEAR and LOSE begin their walk and end by CPORT_WALK_DONE. -/
def State.cportCommand (s : State) (w : Word) : State :=
  let op := field w 0 4
  let n := field w 4 10
  let dev := BitVec.ofNat 14 (field w 16 14)
  let kind := field w 32 2
  if op = 0 then s
  else s.command cportRegs (fun s =>
    if 3 < op ∨ (op = 1 ∧ kind = 1) ∨ (op ≠ 3 ∧ n = 0) then s.cportDone n 3
    else if op = 1 then
      if (s.cport n).valid then s.cportDone n 1
      else if s.cports.any (fun e => decide (e.1 ≠ n ∧ e.1 ≠ 0) && (e.2.valid || e.2.lost) && e.2.device == dev) then s.cportDone n 2
      else (s.setCport n { device := dev, kind := kind, valid := true }).cportDone n 0
    else if !(s.cport n).valid then s.cportDone n 4
    else if op = 2 then
      let lines := s.linesOf n
      let s := s.setReg Reg.GL_CPORT_SWEEP 0
      let s : State := { s with walked := mset s.walked Reg.GL_CPORT_CMD lines.length }
      (s.keepBusy cportRegs w).forEach lines (fun s k => s.recall k .cport)
    else ((s.setReg Reg.GL_CPORT_SWEEP 0).keepBusy cportRegs w).losePort n Reg.GL_CPORT_CMD)

/-- Lines a walk has made LOST, counted once for each parcel and owner tag (R183). -/
def State.lostGroups (s : State) (p : Nat) : List ((Nat × BitVec 16) × Nat) :=
  let l := (s.atlas.filter (fun e => !isInsetKey e.1 && e.2.state == .lost && e.2.owner == p && e.2.walked)).map
    (fun e => (parcelOf e.1, e.2.ownerTag))
  l.eraseDups.map (fun g => (g, (l.filter (fun h => h == g)).length))

/-- No line of a port is left to its walk. -/
def State.walkOver (s : State) (n : Nat) : Bool :=
  !(s.txns.any (fun e => !isInsetKey e.1 && e.2.any (fun t => t.work == .recall .cport || t.work == .recall .lose)))
    && (s.linesOf n).isEmpty

/-- A walk goes on to the lines that record its port by now, some of them granted since it began. -/
def State.walkOn (s : State) (n op : Nat) : State :=
  s.forEach (s.linesOf n) (fun s k => s.recall k (if op = 3 then .lose else .cport))

/-- How far the walk that a command register runs has come: it walks the store sets in order, die by die, and stands at the first whose lines
it has still to change (R156, R189; notes assumption 67). -/
def State.sweepAt (s : State) (r : CmdRegs) (reg : Nat) (mine : Nat → Txn → Bool) : State :=
  let sets := (s.txns.filter (fun e => e.2.any (mine e.1))).map (fun e => s.setOf e.1)
  match s.busy r, sets.min? with
  | true, some m => s.raiseTo reg 0 24 m
  | _, _ => s

/-- The walks of CLEAR and LOSE carried on (R156). -/
def State.cportSweep (s : State) : State :=
  s.sweepAt cportRegs Reg.GL_CPORT_SWEEP (fun k t => !isInsetKey k && (t.work == .recall .cport || t.work == .recall .lose))

/-- A walk of CLEAR or LOSE ends: event 0x3101 for each parcel and owner tag, VALID clears, event 0x3102 (R156, R182, R183). -/
def State.endWalk (s : State) (n op walk : Nat) : State :=
  let s := s.forEach (s.lostGroups n) (fun s g =>
    s.raise 0x3101 fromController [(2, g.1.1), (2, g.1.2.toNat), (2, n), (4, g.2)])
  let s : State := { s with atlas := s.atlas.map (fun e =>
    if isInsetKey e.1 ∨ e.2.owner ≠ n then e else (e.1, { e.2 with walked := false })) }
  let s := s.setCport n { s.cport n with valid := false }
  (s.setReg Reg.GL_CPORT_SWEEP 8388608).raise 0x3102 fromController [(2, n), (1, op - 2), (4, mget 0 s.walked walk)]

/-- The LOSE of port 0 that the loss of the Thoit link started has ended (R301); training that waited for it may start. -/
def State.endThoitLose (s : State) : State :=
  if !s.thoit.loseRunning then s
  else if s.walkOver 0 then
    let s := s.endWalk 0 3 0;
    { s with thoit := { s.thoit with loseRunning := false } }
  else s.walkOn 0 3

/-- CPORT_WALK_DONE: the walk has ended on all four dies; with lines still recording the port it goes on. -/
def State.cportWalkEnd (s : State) : State :=
  let w := s.runningWord cportRegs
  let op := field w 0 4
  let n := field w 4 10
  let s :=
    if !s.busy cportRegs then s
    else if s.walkOver n then (s.endWalk n op Reg.GL_CPORT_CMD).cportDone n 0
    else s.walkOn n op
  s.endThoitLose

/-! ### LOST lines (R184) -/

/-- A write of GL_ATLAS_CMD: CLEAR_LOST begins its walk. -/
def State.atlasCommand (s : State) (w : Word) : State :=
  let op := field w 0 4
  let p := field w 4 11
  if op = 0 then s
  else s.command atlasRegs (fun s =>
    if op ≠ 1 then s.done atlasRegs 2
    else if s.rf (Reg.GL_PARCEL_LOSTDIRTY (p / 64)) (p % 64) 1 = 0 then s.done atlasRegs 1
    else s.keepBusy atlasRegs w)

/-- CLEAR_LOST_DONE: the walk has ended; the parcel's LOST entries are free and its bit is clear. -/
def State.clearLostEnd (s : State) : State :=
  let p := field (s.runningWord atlasRegs) 4 11
  if s.busy atlasRegs then
    let s := s.forEach ((s.trackedOf p).filter (fun e => e.2.state == .lost)) (fun s e => s.setEntry e.1 {})
    (s.setRf (Reg.GL_PARCEL_LOSTDIRTY (p / 64)) (p % 64) 1 0).done atlasRegs 0
  else s

/-! ### Routes (R280 to R282, R413) -/

/-- The result of a routing command with its LAST_DEVICE. -/
def State.routeDone (s : State) (d result : Nat) : State :=
  (s.setRf Reg.GL_ROUTE_STATUS 8 14 d).done routeRegs result

/-- The entry a SET or CLEAR leaves. -/
def routeOf (w : Word) : Route :=
  if field w 0 4 = 1 then
    { ports := [field w 18 6, field w 24 6, field w 30 6, field w 36 6], count := field w 42 3 }
  else {}

/-- A SET that Table 10-4 answers BAD_ARG. -/
def routeBad (w : Word) : Bool :=
  let c := field w 42 3
  c == 0 || decide (4 < c) || ((routeOf w).ports.take c).any (fun p => decide (47 < p))

/-- Parcels with backing at a device are lost (R413). -/
def State.loseAt (s : State) (d : BitVec 14) : State :=
  let ps := ((s.relocs.filter (fun e => (e.2.place == 1 || e.2.place == 3) && e.2.device == d)).map (fun e => e.1 / 32)).eraseDups
  s.forEach ps (fun s p => s.loseParcel p)

/-- A write of GL_ROUTE_CMD. MARK_LOST takes effect at once; SET and CLEAR wait for the frames held for the destination. -/
def State.routeCommand (s : State) (w : Word) : State :=
  let op := field w 0 4
  let d := field w 4 14
  if op = 0 then s
  else s.command routeRegs (fun s =>
    if 3 < op ∨ s.isSelf (BitVec.ofNat 14 d) ∨ (op = 1 ∧ routeBad w) then s.routeDone d 1
    else if op = 2 then
      let s := (s.setRoute d { s.route d with lost := true }).loseAt (BitVec.ofNat 14 d)
      (s.raise 0x4122 fromController [(2, d)]).routeDone d 0
    else if s.heldFor d then s.keepBusy routeRegs w
    else (s.setRoute d (routeOf w)).routeDone d 0)

/-- ROUTE_DRAIN_DONE: no frame for the destination is held; the entry changes and the waiting frames go on. -/
def State.routeDrained (s : State) : State :=
  let w := s.runningWord routeRegs
  let d := field w 4 14
  if s.busy routeRegs && !s.heldFor d then ((s.setRoute d (routeOf w)).routeDone d 0).unblock else s

/-! ### Training ends without a link (R237, R254) -/

/-- The notice that a port's peer is lost, for the fabric manager's agent (R254): sent through the sluice to the device of
G:0x1040.02. -/
def State.peerLost (s : State) (p : Nat) : State :=
  let f : Frame := { typ := 0x83, vc := 5, src := s.selfId, dst := BitVec.ofNat 14 (s.gzv 0x1040 0x02),
                     aux := pack [(6, p), (2, 0), (14, s.portPeer p)] }
  if s.gzv 0x1040 0x02 = 0xFFFF then s else s.sourceFrame (dieOfPort p) f

/-- TRAINING_TIMEOUT: 100 ms without UP; after three in a row the port goes DOWN, and its lost peer is reported (R237,
R252, R254). -/
def State.trainingTimeout (s : State) (p : Nat) : State :=
  if s.alive && s.linkState p == stTraining then
    let x := s.port p
    if 2 ≤ x.fails then
      let s := (s.setPort p { wasUp := false }).clearLink p stDown
      if x.wasUp then (s.raise 0x4102 (dieOfPort p) [(1, p), (1, 0), (2, s.portPeer p)]).peerLost p else s
    else (s.setPort p { x with fails := x.fails + 1 }).startTraining p
  else s

end Sys2Proof.Machine
end

