-- ==== Sys2Proof/Machine/Inset.lean ====
section
/-!
DEFINITION. Insets (chapter 7): captured member requests on local entries, upstream requests and probes, releases, the member
table; and the remote-line cache as the inset's entry 0 or as an agent of its own (R178 to R181).
-/

namespace Sys2Proof.Machine

/-! ### Keys and configuration -/

/-- The key of a line of another home. -/
def remoteKey (home line : Nat) : Nat := (home + 1) * 2 ^ 39 + line

def keyHome (k : Nat) : Nat := k / 2 ^ 39 - 1

/-- UP codes (Table 7-3). -/
def upI : Nat := 0
def upS : Nat := 1
def upX : Nat := 2
def upO : Nat := 3

/-- A write of GL_INSET_CFG, or the three cases in which it is discarded (R189). Entry 0 follows ENABLE (R188). -/
def State.insetCfgWrite (s : State) (v : Word) : State :=
  let en := field v 0 1
  let lv := field v 1 2
  let was := s.rf Reg.GL_INSET_CFG 0 1
  let bad := (lv ≠ s.rf Reg.GL_INSET_CFG 1 2 ∧ was = 1) ∨ (en = 1 ∧ ¬(lv = 1 ∨ lv = 2))
    ∨ (was = 1 ∧ en = 0 ∧ s.members.any (fun e => decide (0 < e.1) && e.2.valid))
  if bad then s.bump Reg.GL_MEMBER_DROPS 32 32 1
  else
    let s := s.setReg Reg.GL_INSET_CFG (v &&& 7)
    s.setMember 0 { s.member 0 with valid := en == 1 }

/-! ### Upstream requests (R193, Table 7-4) -/

/-- A request sent upstream for a key's head transaction, in VC1 (R193, R246). -/
def State.sendUp (s : State) (k typ : Nat) (ctx : BitVec 16) (data : Line) : State :=
  let f : Frame := { typ := BitVec.ofNat 8 typ, vc := 1, ctx := ctx, dst := BitVec.ofNat 14 (keyHome k), addr := keyAddr k, data := data }
  (s.bump (Reg.BS_INSET_FORWARDED (k % 4)) 0 64 1).sendOwn (k % 4) f (.inset k)

/-- The upstream request a row needs, as far as it is known: none needed, or its type (R198, Table 7-4). prior is none
until the local owner has answered. With UP O and no local owner the head holds the dirty data, and Upgrades. -/
def upNeed (e : Entry) (typ p : Nat) (prior : Option Nat) (hasData : Bool) : Option Nat :=
  let own := e.state == .exclusive && e.owner == p
  if typ = 0x10 then
    match e.state with
    | .owned => none
    | .exclusive => if own then some 0x10 else match prior with
      | none => none
      | some _ => if hasData then none else some 0x10
    | _ => some 0x10
  else if typ = 0x11 then
    match e.state with
    | .owned => if e.up = upX then none else some 0x13
    | .exclusive => if own then some 0x11 else match prior with
      | none => none
      | some _ => if hasData then none else some 0x11
    | _ => if e.up = upO then some 0x13 else some 0x11
  else if typ = 0x13 then if e.up = upX then none else if e.up = upI then some 0x11 else some 0x13
  else none

/-- A GrantAck sent upstream, in the shape of the request whose grant it acknowledges (R258). -/
def State.sendGrantAck (s : State) (k : Nat) (seq : BitVec 24) (ctx : BitVec 16) : State :=
  s.sourceFrame (k % 4) { typ := 0x42, vc := 2, src := s.selfId, dst := BitVec.ofNat 14 (keyHome k), seq := seq, ctx := ctx,
                          addr := keyAddr k }

/-- The GrantAck that waits on a local one goes upstream, where there is one (R200). -/
def State.ackUp (s : State) (k : Nat) (up : Option (BitVec 24 × BitVec 16)) : State :=
  match up with
  | some (seq, ctx) => s.sendGrantAck k seq ctx
  | none => s

/-! ### Releases (R196) -/

/-- The members of an entry have been invalidated: WriteBack with dirty data, EvictClean, or nothing goes upstream. -/
def State.releaseUp (s : State) (k : Nat) (t : Txn) (data : Option Line) : State :=
  let e := s.entry k
  match data with
  | some l => (s.modHead k (fun _ => { t with phase := .up, data := some l })).sendUp k 0x14 e.ownerTag l
  | none =>
    if e.up = upS ∨ e.up = upX then (s.modHead k (fun _ => { t with phase := .up, data := none })).sendUp k 0x15 e.ownerTag 0
    else (s.setEntry k {}).popHead k

/-! ### A member's request (R197 to R200) -/

/-- The local grant once probes and the upstream request are done (R198). -/
def State.insetGrant (s : State) (k : Nat) (t : Txn) (f : Frame) (o : Origin) (p : Nat) : State :=
  let e := s.entry k
  let typ := rowType e f.typ.toNat p
  let dirty := t.prior == some 3 || t.prior == some 4
  let up := if t.up = 2 then (if t.upGrant = grS then upS else upX) else e.up
  let data := (t.upData.orElse (fun _ => t.data)).getD 0
  let top := if t.upGrant = grM then grM else grE
  let fresh := if up = upX then top else grS
  let (st, dataless) :=
    if typ = 0x13 then ((if e.state = .owned ∨ dirty then grM else grE), true)
    else if typ = 0x10 then
      match e.state with
      | .owned => (grS, false)
      | .shared => (grS, false)
      | .exclusive => if e.owner = p ∨ t.prior = some 0 then (fresh, false) else (grS, false)
      | _ => (fresh, false)
    else ((if dirty then grM else top), false)
  let e1 := if typ = 0x10 ∧ e.state = .exclusive ∧ e.owner ≠ p then
      (if t.prior = some 0 then { e with state := .invalid, vector := 0, owner := 0 }
       else if dirty then { e with state := .owned }
       else { e with state := .shared, owner := 0 })
    else e
  let s := (s.popHead k).setEntry k { e1 with up := up }
  let s := s.recordGrant k p f st dataless (if dataless then none else some data)
  let e2 := s.entry k
  let aw := e2.awaited.map (fun a => if a.port = p ∧ a.seqs = [f.seq.toNat] then { a with upAck := t.upAck } else a)
  let s := s.setEntry k { e2 with awaited := aw, up := up, ownerTag := if t.up = 2 then f.ctx else e2.ownerTag }
  let s := if t.up = 2 then s else s.bump (Reg.BS_INSET_LOCAL (k % 4)) 0 64 1
  let s := if (s.holder k p).lost then s.ackUp k t.upAck else s
  s.sendGrant f o st dataless data

/-- The head's request is refused upstream: the member is told, local probes stand, the entry is otherwise left as it was (R193). Dirty
data they took from the owner has no member left to hold it: the entry is released with it (notes assumption 67). -/
def State.insetRefused (s : State) (k : Nat) (t : Txn) (f : Frame) (o : Origin) : State :=
  let e := s.entry k
  let p := (s.requester k f o).getD 1024
  let typ := rowType e f.typ.toNat p
  let pl := s.planOf k t
  let dirty := pl.kind == .inv && pl.ports.contains e.owner && e.state != .shared && (t.prior == some 3 || t.prior == some 4)
  let e1 := if dirty then { e with state := .invalid, vector := 0, owner := 0 } else afterProbes e typ p (t.prior.getD 0)
  let s := s.setEntry k { e1 with up := e.up, ownerTag := e.ownerTag }
  let s := match t.upData with
    | some l => (match t.work with
      | .req _ _ tenant behind => s.finishReq k t f o tenant behind 0x52 stOk (l.setWidth 64) 0
      | .recall _ => s)
    | none => s.finishStatus k t t.upGrant
  if dirty then
    s.setTxns k ({ work := .recall .victim, phase := .probe, since := s.now, looked := true, prior := t.prior,
                   data := t.data } :: s.txnsOf k)
  else s

/-- A member's request with its local probes answered. -/
def State.insetPerform (s : State) (k : Nat) (t : Txn) (f : Frame) (o : Origin) : State :=
  let e := s.entry k
  let p := (s.requester k f o).getD 1024
  let typ := rowType e f.typ.toNat p
  if t.lostDirty then
    let s := if t.up = 2 then (s.setEntry k { e with up := if t.upGrant = grS then upS else upX }).ackUp k t.upAck else s
    (s.loseLine k false).finishStatus k t stFenced
  else if t.up = 3 then s.insetRefused k t f o
  else if typ = 0x14 then
    if (e.state = .exclusive ∨ e.state = .owned) ∧ e.owner = p then
      s.releaseUp k t (some f.data)
    else s.finishStatus k t stOk
  else if typ = 0x15 then
    if e.state = .owned ∧ e.owner = p then
      ((s.loseLine k false).ownerProtocol k p typ).finishStatus k t stOk
    else if (e.state = .shared ∨ e.state = .exclusive) ∧ e.vector.getLsbD p then
      let e1 := { e with vector := withoutBit e.vector p }
      if e1.vector = 0 then
        ((s.setEntry k { e1 with state := .invalid, owner := 0 }).finishStatus k t stOk).recallFirst k .victim
      else (s.setEntry k e1).finishStatus k t stOk
    else s.finishStatus k t stOk
  else if typ ≠ 0x13 ∧ e.state = .owned ∧ e.owner = p then
    ((s.loseLine k false).ownerProtocol k p typ).finishStatus k t stFenced
  else
    let prior := if e.state = .exclusive ∧ e.owner ≠ p then some (t.prior.getD 0) else none
    match (if t.up = 0 then upNeed e typ p prior t.data.isSome else none) with
    | some ut => (s.modHead k (fun _ => { t with up := 1, phase := .probe })).sendUp k ut f.ctx 0
    | none => s.insetGrant k t f o p

/-- An upstream probe of an entry is not answered yet: the entry's own requests wait for it (R203). -/
def State.probedUp (s : State) (k : Nat) : Bool := s.uprobes.any (fun u => u.key == k)

/-- A member's request at the head of an entry, past what holds it back: FENCED on a LOST entry, behind a release of the entry where its
tag differs (R197), or with its probes and its upstream request sent together (R198). none where it waits. -/
def State.insetBegin (s : State) (k : Nat) (t : Txn) (f : Frame) (o : Origin) : Option State :=
  let e := s.entry k
  let grants := f.typ = 0x10 ∨ f.typ = 0x11 ∨ f.typ = 0x13
  let p := (s.requester k f o).getD 1024
  if e.state = .lost then some (s.finishStatus k t stFenced)
  else if e.up ≠ upI ∧ e.ownerTag ≠ f.ctx then
    some ((s.bump (Reg.BS_INSET_RELEASES (k % 4)) 0 32 1).recallFirst k .victim)
  else
    let (s2, way) := if grants && e.up == upI then s.wayFree k else (s, true)
    if !way then (if s2.txns = s.txns then none else some s2)
    else
      let s := if grants ∧ e.state = .invalid then s.cacheIn k else s
      let pl := s.planOf k t
      let need := upNeed e (rowType e f.typ.toNat p) p none false
      if !pl.ports.isEmpty ∧ (!e.awaited.isEmpty ∨ (pl.kind ≠ ProbeKind.fetch ∧ s.now < e.holdEnd)) then none
      else if pl.ports.isEmpty ∧ need.isNone then some (s.insetPerform k t f o)
      else
        let s := (s.modHead k (fun t => { t with phase := .probe, up := if need.isSome then 1 else 0 }))
        let s := match need with
          | some ut => s.sendUp k ut f.ctx 0
          | none => s
        some (s.probeAll k pl.ports pl.kind)

/-- A recall at the head of an entry, past what holds it back: its probes are sent; the release of a LOST entry sends EvictClean (R196,
R207). none where it waits. -/
def State.insetRecall (s : State) (k : Nat) (t : Txn) (w : RecallWhy) : Option State :=
  let e := s.entry k
  if e.state = .lost then
    (if w = .release then some ((s.modHead k (fun t => { t with phase := .up })).sendUp k 0x15 e.ownerTag 0)
     else some (s.popHead k))
  else
    let pl := s.planOf k t
    if !pl.ports.isEmpty ∧ (!e.awaited.isEmpty ∨ s.now < e.holdEnd) then none
    else some ((s.modHead k (fun t => { t with phase := .probe })).probeAll k pl.ports .inv)

/-- A recall whose probes are answered: the entry is lost, or released with what they brought (R196, R199, R206). -/
def State.insetRecalled (s : State) (k : Nat) (t : Txn) (w : RecallWhy) : State :=
  let e := s.entry k
  if t.lostDirty then (s.loseLine k (w == .lose)).popHead k
  else if w = .lose then
    if e.state = .owned ∧ (s.holder k e.owner).lost then (s.loseLine k true).popHead k
    else if e.state = .invalid ∧ e.up ≠ upI then s.releaseUp k t none
    else s.popHead k
  else s.releaseUp k t t.data

/-- One step of the head of an inset entry's queue; none where it waits. A request of a granted member that its GrantAck still is awaited
from is granted again though an upstream probe waits for that GrantAck (R167). -/
def State.insetHead (s : State) (k : Nat) : Option State :=
  match s.txnsOf k with
  | [] => none
  | t :: _ =>
    match t.phase with
    | .start =>
      if !t.looked then some (s.lookHead k)
      else if s.probedUp k then (s.regrant k t).join
      else if !t.probes.isEmpty then none
      else
        let (s, go) := s.clearLostHolders k
        if !go then some s
        else match s.regrant k t with
        | some (some s2) => some s2
        | some none => none
        | none =>
          match t.work with
          | .req f o _ _ => s.insetBegin k t f o
          | .recall w => s.insetRecall k t w
    | .store => s.storeStep k
    | .probe =>
      if s.probedUp k || !t.probes.isEmpty || t.up == 1 then none
      else if s.toSweep k t then some (s.sweepLost k t)
      else match t.work with
      | .req f o _ _ => some (s.insetPerform k t f o)
      | .recall w => some (s.insetRecalled k t w)
    | _ => none

/-- An inset entry's transactions carried as far as they go. -/
def insetGo (k : Nat) : Nat → State → State
  | 0, s => s
  | fuel + 1, s => match s.insetHead k with
    | some s => insetGo k fuel s
    | none => s

def State.insetAdvance (s : State) (k : Nat) : State := insetGo k (8 * (s.txnsOf k).length + 8) s

/-- The upstream answer to an entry's request (R193, R196, R198, R200). A WriteBack that is refused leaves the entry with its member; a
refused request waits for its local probes before its member is told. -/
def State.insetResponse (s : State) (k : Nat) (r : Frame) : State :=
  match s.txnsOf k with
  | [] => s
  | t :: _ =>
    let status := relayStatus r.status.toNat
    match t.phase, t.work with
    | .up, .req f o _ _ =>
      let e := s.entry k
      let left : Entry := if status = stOk then {} else { e with vector := withBit 0 ((s.requester k f o).getD 1024) }
      ((s.setEntry k left).finishStatus k t status).insetAdvance k
    | .up, .recall _ => ((s.setEntry k {}).popHead k).insetAdvance k
    | .probe, .req _ _ _ _ =>
      if r.typ = 0x40 ∨ r.typ = 0x41 then
        (s.modHead k (fun t => { t with up := 2, upGrant := r.aux.toNat % 4, upAck := some (r.seq, r.ctx),
                                        upData := if r.typ = 0x40 then some r.data else none })).insetAdvance k
      else
        (s.modHead k (fun t => { t with up := 3, upGrant := status,
                                        upData := if r.typ = 0x52 then some (r.aux.setWidth 1024) else none })).insetAdvance k
    | _, _ => s

/-- A member's GrantAck; it releases the upstream one that waits on it (R200). -/
def State.insetAck (s : State) (k p seq : Nat) : Option State :=
  let up := ((s.entry k).awaited.find? (fun a => a.port == p && a.seqs.contains seq)).bind (·.upAck)
  match s.takeAck k p seq with
  | none => none
  | some s =>
    some (s.ackUp k up)

/-! ### Upstream probes (R201 to R203) -/

/-- A probe answer sent upstream. -/
def State.answerUp (s : State) (u : UProbe) (prior : Nat) (data : Option Line) : State :=
  let dirty := data.isSome && (prior == 3 || prior == 4)
  s.sourceFrame (u.key % 4)
    { typ := if data.isSome then 0x47 else 0x46, vc := 2, src := s.selfId, dst := u.f.src, addr := u.f.addr,
      aux := pack [(32, u.f.aux.toNat), (3, prior), (1, bitN dirty)], data := data.getD 0 }

/-- Members an upstream probe asks first, and how (Table 7-5). -/
def upProbePlan (e : Entry) (typ : Nat) : List Nat × ProbeKind :=
  if e.state = .lost then ([], .inv)
  else if typ = 0x43 then (e.holders, .inv)
  else if typ = 0x44 then
    if e.up = upX ∧ e.state = .exclusive then ([e.owner], .share)
    else if (e.up = upX ∨ e.up = upO) ∧ e.state = .owned then ([e.owner], .fetch)
    else if e.up = upX then (e.holders, .inv)
    else ([], .inv)
  else if (e.up = upX ∨ e.up = upO) ∧ (e.state = .exclusive ∨ e.state = .owned) then ([e.owner], .fetch)
  else ([], .inv)

/-- Probes sent downstream for an upstream probe; entry 0 answers at once, a lost member counts as PRIOR I, and a probe of
the same kind already outstanding serves both (R203). -/
def State.probeFor (s : State) (u : UProbe) (ports : List Nat) (kind : ProbeKind) : State × UProbe :=
  ports.foldl (fun (x : State × UProbe) p =>
    let (s, u) := x
    let owner := (s.entry u.key).state != .shared && (s.entry u.key).owner == p
    if (s.member p).lost then (s, u)
    else if p = 0 then
      let ((prior, data), y) := rlcAnswer (s.rlcAt u.key) kind
      (s.setRlc u.key y, { u with prior := if owner then some prior else u.prior, data := u.data.orElse (fun _ => data),
                                  dirty := u.dirty || prior == 3 || prior == 4 })
    else
      match (s.txnsOf u.key).head?.bind (fun t => t.probes.find? (fun q => q.port == p && q.kind == kind)) with
      | some q => (s, { u with probes := u.probes ++ [q] })
      | none =>
        let id := u.probes.foldl (fun a q => if q.port = p then max a (q.id + 1) else a) (s.nextProbeId p)
        (s.sendProbe u.key p id kind, { u with probes := u.probes ++ [{ port := p, id := id, kind := kind, since := s.now }] }))
    (s, u)

/-- The data an outstanding WriteBack keeps for probes (R160, R196). -/
def State.writeBackData (s : State) (k : Nat) : Option Line :=
  match (s.txnsOf k).head? with
  | some t => if t.phase = .up then t.data else none
  | none => none

/-- Dirty data the head's own probes have taken from the local owner, which holds no copy any more. -/
def State.headDirty (s : State) (k : Nat) : Option Line :=
  match (s.txnsOf k).head? with
  | some t =>
    let e := s.entry k
    let pl := s.planOf k t
    if t.phase = .probe ∧ pl.kind = .inv ∧ pl.ports.contains e.owner ∧ e.state ≠ .shared ∧ (t.prior = some 3 ∨ t.prior = some 4) then t.data
    else none
  | none => none

/-- The head still waits for its own probe to the local owner, whose answer the upstream probe's needs. -/
def State.headWaitsOwner (s : State) (k : Nat) : Bool :=
  let e := s.entry k
  e.state != .shared && (s.txnsOf k).head?.any (fun t => t.probes.any (fun q => q.port == e.owner))

/-- The entry that an upstream probe frees; one that a running LOSE made LOST is counted for event 0x3111 (R206). -/
def State.freeEntryUp (s : State) (k : Nat) : State :=
  let e := s.entry k
  let g := 65536 * e.owner + e.ownerTag.toNat
  let s : State := { s with lostFreed := if e.state = .lost && e.walked then mput 0 s.lostFreed g (mget 0 s.lostFreed g + 1) else s.lostFreed }
  s.setEntry k {}

/-- The head after an upstream probe changed its entry: data its probes took is gone with the probe where keep is false; without an
upstream request of its own it begins afresh, and finds the state the probe left (R203). -/
def State.restartHead (s : State) (k : Nat) (keep : Bool) : State :=
  s.modHead k (fun t =>
    if t.phase = .probe ∧ !keep then { t with data := none, prior := none, phase := if t.up = 0 then .start else .probe } else t)

/-- The local owner's dirty data is gone, or a member's answer says so (R202, R206, R557). -/
def State.probeLost (s : State) (u : UProbe) : Bool :=
  let e := s.entry u.key
  e.state == .lost || u.lost
    || (u.data.isNone && (e.state == .owned || (e.state == .exclusive && (s.member e.owner).lost)))

/-- The lost-dirty answer for the group: the entry becomes LOST where it is not, and is freed (R202, Table 7-5). -/
def State.finishLost (s : State) (u : UProbe) : State :=
  let k := u.key
  let e := s.entry k
  let prior := if e.up = upO then 3 else 4
  let s := if e.state = .lost then s else s.loseLine k (s.member e.owner).lost
  ((((s.freeEntryUp k).restartHead k false).bump (Reg.BS_INSET_LOSTANS (k % 4)) 0 64 1)).answerUp u prior none

/-- The answer for the group, and what the entry becomes (Table 7-5). took: the dirty data is the head's own, taken from the owner. -/
def State.finishUp (s : State) (u : UProbe) (took : Bool) : State :=
  let k := u.key
  let e := s.entry k
  let typ := u.f.typ.toNat
  let asUp := if e.up = upO then 3 else if e.up = upS then 1 else 0
  let free (s : State) : State := (s.freeEntryUp k).restartHead k false
  if typ = 0x43 then
    (free s).answerUp u (if e.up = upX then (if u.dirty then 4 else 2) else asUp) (if u.dirty then u.data else none)
  else if typ = 0x44 then
    if e.up = upI ∨ e.up = upS then s.answerUp u asUp none
    else if took then
      let p := (s.txnsOf k).head?.bind (fun t => match t.work with
        | .req f o _ _ => s.requester k f o
        | .recall _ => none)
      let kept := match p with
        | some p => if e.vector.getLsbD p ∧ e.owner ≠ p then withBit 0 p else 0
        | none => 0
      (s.setEntry k { e with state := if kept = 0 then .invalid else .shared, vector := kept, owner := 0, up := upO }).answerUp u
        (if e.up = upO then 3 else 4) u.data
    else if e.up = upX ∧ u.swept then (free s).answerUp u 0 none
    else if e.up = upX ∧ e.state = .exclusive then
      if u.dirty then ((s.setEntry k { e with state := .owned, up := upO }).restartHead k false).answerUp u 4 u.data
      else ((s.setEntry k { e with state := .shared, owner := 0, up := upS }).restartHead k false).answerUp u 2 u.data
    else if e.up = upX then (s.setEntry k { e with up := upO }).answerUp u 4 u.data
    else s.answerUp u 3 u.data
  else
    if e.up = upO then s.answerUp u 3 u.data
    else if e.up = upX ∧ (e.state = .exclusive ∨ e.state = .owned) then
      s.answerUp u (if u.dirty then 4 else if u.data.isSome then 2 else 0) u.data
    else s.answerUp u (if e.up = upX then 0 else asUp) none

/-- An upstream probe whose downstream probes are answered: a lost-dirty answer, after the copies left have been invalidated; the
probes of Table 7-5 that follow an owner's PRIOR I; the answer. none once it is answered. -/
def State.probeAnswered (s : State) (u : UProbe) : State × Option UProbe :=
  let k := u.key
  let e := s.entry k
  if s.headWaitsOwner k then (s, some u)
  else
    let took := if u.data.isSome then none else s.headDirty k
    let u : UProbe := match took with
      | some l => { u with data := some l, dirty := true }
      | none => u
    let sweep := e.state ≠ .lost ∧ !u.swept
      ∧ (s.probeLost u ∨ (u.f.typ = 0x44 ∧ e.up = upX ∧ e.state = .exclusive ∧ u.prior.getD 0 = 0 ∧ took.isNone))
    let end_ (s : State) (u : UProbe) : State := if s.probeLost u then s.finishLost u else s.finishUp u took.isSome
    if sweep then
      let (s, u) := s.probeFor { u with swept := true } (e.holders.filter (fun q => e.state != .owned || q != e.owner)) .inv
      if u.probes.isEmpty then (end_ s u, none) else (s, some u)
    else (end_ s u, none)

/-- One upstream probe carried as far as it goes; none once it is answered. -/
def State.uprobeStep (s : State) (u : UProbe) : State × Option UProbe :=
  let k := u.key
  let e := s.entry k
  match s.writeBackData k with
  | some l =>
    let prior := if e.up = upO then 3 else 4
    let s := s.answerUp u prior (some l)
    if u.f.typ = 0x43 then ((s.setEntry k { e with up := upI }).modHead k (fun t => { t with data := none }), none)
    else if u.f.typ = 0x44 then (s.setEntry k { e with up := upO }, none)
    else (s, none)
  | none =>
    if !u.started then
      if e.up = upI ∨ (e.state ≠ .lost ∧ (s.txnsOf k).head?.any (fun t => t.phase == .up)) then (s.answerUp u 0 none, none)
      else if !e.awaited.isEmpty ∨ s.now < e.holdEnd then (s, some u)
      else
        let (ports, kind) := upProbePlan e u.f.typ.toNat
        let inv := kind == .inv && !ports.isEmpty
        let (s, u) := s.probeFor { u with started := true, swept := inv || (u.f.typ == 0x44 && e.up == upX && kind == .inv) } ports kind
        if u.probes.isEmpty then s.probeAnswered u else (s, some u)
    else if !u.probes.isEmpty then (s, some u)
    else s.probeAnswered u

/-- Every upstream probe carried as far as it goes. -/
def State.uprobesGo (s : State) : State :=
  s.uprobes.foldl (fun s u =>
    match ({ s with uprobes := s.uprobes.erase u } : State).uprobeStep u with
    | (s, some u) => { s with uprobes := s.uprobes ++ [u] }
    | (s, none) => s) s

/-- UPSTREAM_PROBE_RX and PROBE_RX: a home's probe of a line this Golik's group or its remote-line cache holds. -/
def State.probeArrives (s : State) (f : Frame) : State :=
  let k := remoteKey f.src.toNat f.line
  let u : UProbe := { key := k, f := f }
  if s.insetOn then { s with uprobes := s.uprobes ++ [u] }
  else
    let kind := if f.typ = 0x43 then ProbeKind.inv else if f.typ = 0x44 then .share else .fetch
    let ((prior, data), x) := rlcAnswer (s.rlcAt k) kind
    (s.setRlc k x).answerUp u prior data

/-! ### Captured frames (R190) -/

/-- A member's probe answer, for the head transaction, an upstream probe, or both; none where it matches nothing. -/
def State.insetAnswer (s : State) (k p : Nat) (f : Frame) : Option State :=
  let id := f.aux.toNat % 2 ^ 32
  let prior := f.aux.toNat / 2 ^ 32 % 8
  let data := if f.typ = 0x47 then some f.data else none
  let hits (u : UProbe) : Bool := u.key == k && u.probes.any (fun q => q.port == p && q.id == id)
  let e := s.entry k
  let owner := e.state != .shared && e.owner == p
  let own := s.takeAnswer k p f
  if own.isNone && !s.uprobes.any hits then none
  else
    let s := own.getD s
    some { s with uprobes := s.uprobes.map (fun u =>
      if hits u then
        { u with probes := u.probes.filter (fun q => !(q.port == p && q.id == id)),
                 prior := if owner then some prior else u.prior,
                 data := if data.isSome then data else u.data,
                 dirty := u.dirty || (data.isSome && (prior == 3 || prior == 4)),
                 lost := u.lost || (data.isNone && (prior == 3 || prior == 4)) }
      else u) }

/-- A captured frame served on the local entry (R190, R198). -/
def State.capture (s : State) (port : Nat) (f : Frame) : State :=
  match s.memberOf f.src with
  | none => s
  | some p =>
    let k := remoteKey f.dst.toNat f.line
    let s := s.bump (Reg.BS_INSET_CAPTURED (k % 4)) 0 64 1
    if f.typ = 0x42 then
      match s.insetAck k p f.seq.toNat with
      | some s => s.insetAdvance k
      | none => s.unmatched port
    else if f.typ = 0x46 ∨ f.typ = 0x47 then
      match s.insetAnswer k p f with
      | some s => s.insetAdvance k
      | none => s.unmatched port
    else
      (s.setTxns k (s.txnsOf k ++ [{ work := .req f (.port port) 0 false, since := s.now, fenced := s.drainsTag f.ctx }])).insetAdvance k

/-! ### The member table (R188, R189, R206, R207) -/

/-- The result of a member command with its LAST_ENTRY. -/
def State.memberDone (s : State) (n result : Nat) : State :=
  (s.setRf Reg.GL_MEMBER_STATUS 8 10 n).done memberRegs result

/-- Inset entries that record a member. -/
def State.insetLinesOf (s : State) (p : Nat) : List Nat :=
  (s.atlas.filter (fun e => isInsetKey e.1 && e.2.vector.getLsbD p)).map (·.1)

/-- A write of GL_MEMBER_CMD (R189, R556). CLEAR, LOSE and FLUSH_LOST end by MEMBER_WALK_DONE. -/
def State.memberCommand (s : State) (w : Word) : State :=
  let op := field w 0 4
  let n := field w 4 10
  let dev := BitVec.ofNat 14 (field w 16 14)
  let kind := field w 32 1
  if op = 0 then s
  else s.command memberRegs (fun s =>
    if 4 < op ∨ (op ≠ 4 ∧ n = 0) ∨ (op = 1 ∧ kind = 1 ∧ s.rf Reg.GL_INSET_CFG 1 2 = 2) then s.memberDone n 3
    else if !s.insetOn then s.memberDone n 5
    else if op = 1 then
      if (s.member n).valid then s.memberDone n 1
      else if s.members.any (fun e => decide (e.1 ≠ n ∧ e.1 ≠ 0) && (e.2.valid || e.2.lost) && e.2.device == dev) then
        s.memberDone n 2
      else (s.setMember n { device := dev, kind := kind, valid := true }).memberDone n 0
    else if op ≠ 4 ∧ !(s.member n).valid then s.memberDone n 4
    else
      let tag := BitVec.ofNat 16 (field w 48 16)
      let lines := if op = 4 then
          (s.atlas.filter (fun e => isInsetKey e.1 && e.2.state == .lost && e.2.ownerTag == tag)).map (·.1)
        else s.insetLinesOf n
      let s := s.setReg Reg.GL_MEMBER_SWEEP 0
      let s : State := { s with walked := mset s.walked Reg.GL_MEMBER_CMD lines.length }
      let s := s.keepBusy memberRegs w
      if op = 2 then s.forEach lines (fun s k => s.recall k .cport)
      else if op = 4 then s.forEach lines (fun s k => s.recall k .release)
      else
        let acks : List (Nat × Option (BitVec 24 × BitVec 16)) := (s.atlas.filter (fun e => isInsetKey e.1)).flatMap (fun e =>
          (e.2.awaited.filter (fun a => a.port == n)).map (fun a => (e.1, a.upAck)))
        let s := (s.setMember n { s.member n with lost := true }).answerFor true n
        let s := s.forEach acks (fun s a => s.ackUp a.1 a.2)
        let s : State := { s with uprobes := s.uprobes.map (fun u => { u with probes := u.probes.filter (fun q => q.port != n) }) }
        s.forEach lines (fun s k => s.recall k .lose))

/-- Lines a running CLEAR, LOSE or FLUSH_LOST has still to change: those that record its member by now, some of them granted since it
began, or LOST entries of its tag. -/
def State.memberLines (s : State) (op n : Nat) (tag : BitVec 16) : List Nat :=
  if op = 4 then (s.atlas.filter (fun e => isInsetKey e.1 && e.2.state == .lost && e.2.ownerTag == tag)).map (·.1)
  else s.insetLinesOf n

/-- The recall a member walk makes of each line. -/
def memberWhy (op : Nat) : RecallWhy := if op = 2 then .cport else if op = 3 then .lose else .release

/-- The lines a LOSE of a member has made LOST, with their number for each OWNER_TAG; those an upstream probe has freed since among them
(R206). -/
def State.memberLost (s : State) (n : Nat) : List (Nat × Nat) :=
  let l := (s.atlas.filter (fun e => isInsetKey e.1 && e.2.state == .lost && e.2.owner == n && e.2.walked)).map
    (fun e => e.2.ownerTag.toNat)
  let freed := (s.lostFreed.filter (fun e => e.1 / 65536 == n)).map (fun e => (e.1 % 65536, e.2))
  (l ++ freed.map (·.1)).eraseDups.map (fun g => (g, (l.filter (fun h => h == g)).length + mget 0 freed g))

/-- MEMBER_WALK_DONE: the walk has ended on all four dies; with lines left to change it goes on. -/
def State.memberWalkEnd (s : State) : State :=
  let w := s.runningWord memberRegs
  let op := field w 0 4
  let n := field w 4 10
  let left := s.txns.any (fun e => isInsetKey e.1 && e.2.any (fun t => t.work == .recall (memberWhy op)))
  let lines := s.memberLines op n (BitVec.ofNat 16 (field w 48 16))
  if !s.busy memberRegs || left then s
  else if !lines.isEmpty then s.forEach lines (fun s k => s.recall k (memberWhy op))
  else
    let s := s.forEach (s.memberLost n) (fun s g => s.raise 0x3111 fromController [(2, n), (2, g.1), (4, g.2)])
    let s : State := { s with
      atlas := s.atlas.map (fun e => if isInsetKey e.1 then (e.1, { e.2 with walked := false }) else e),
      lostFreed := [] }
    let s := if op = 4 then s else s.setMember n { s.member n with valid := false }
    let s := (s.setReg Reg.GL_MEMBER_SWEEP 8388608).raise 0x3110 fromController
      [(2, if op = 4 then 0xFFFF else n), (1, op - 2), (4, mget 0 s.walked Reg.GL_MEMBER_CMD)]
    s.memberDone n 0

/-- The walks of the member table carried on (R189). -/
def State.memberSweep (s : State) : State :=
  s.sweepAt memberRegs Reg.GL_MEMBER_SWEEP (fun k t =>
    isInsetKey k && t.work == .recall (memberWhy (field (s.runningWord memberRegs) 0 4)))

/-! ### The remote-line cache (R178 to R181) -/

/-- A request of the cache for a line, as the inset's entry 0 or straight to the home. -/
def State.rlcRequest (s : State) (k typ : Nat) (ctx : BitVec 16) (data : Line) : State :=
  let f : Frame := { typ := BitVec.ofNat 8 typ, vc := 0, ctx := ctx, src := s.selfId, dst := BitVec.ofNat 14 (keyHome k),
                     addr := keyAddr k, data := data }
  let s := s.setRlc k { s.rlcAt k with fill := typ }
  if s.insetOn then
    (s.setTxns k (s.txnsOf k ++ [{ work := .req f (.eng (.rlc (k % 4) k)) 0 false, since := s.now, fenced := s.drainsTag f.ctx }])).insetAdvance k
  else s.sendOwn (k % 4) f (.eng (.rlc (k % 4) k))

/-- Ways of the cache's set (R178). -/
def State.rlcMates (s : State) (k : Nat) : List (Nat × Rlc) :=
  let l := (s.die (k % 4)).rlc
  if l.length < 16 then []
  else l.filter (fun e => Config.rlcSet (keyHome e.1) (e.1 % 2 ^ 39) % 8192 == Config.rlcSet (keyHome k) (k % 2 ^ 39) % 8192)

/-- A cached line leaves: WriteBack from M or O, EvictClean from E or S (R180). -/
def State.rlcEvict (s : State) (k : Nat) : State :=
  let x := s.rlcAt k
  if x.fill ≠ 0 then s.setRlc k { x with drop := true }
  else
    match x.state with
    | .invalid | .lost => s.setRlc k {}
    | _ =>
      if x.dirty then (s.bump (Reg.BS_RLC_WRITEBACKS (k % 4)) 0 64 1).rlcRequest k 0x14 x.tag x.data
      else (s.setRlc k { x with state := .invalid }).rlcRequest k 0x15 x.tag 0

/-- A request of the cache is answered: a grant is installed and acknowledged, a return ends the line (R157, R167, R180). -/
def State.rlcFill (s : State) (k : Nat) (typ : Nat) (status : BitVec 8) (aux : Nat) (seq : BitVec 24) (data : Line) : State :=
  let x := s.rlcAt k
  let grant := typ = 0x40 ∨ typ = 0x41
  if grant then
    let st := aux % 4
    let y : Rlc := { x with state := if st = grS then .shared else .exclusive, dirty := st == grM, fill := 0,
                            data := if typ = 0x40 then data else x.data }
    let s := s.setRlc k y
    let s := if s.insetOn then (match s.insetAck k 0 seq.toNat with
        | some s => s.insetAdvance k
        | none => s)
      else s.sendGrantAck k seq y.tag
    if y.drop then (s.setRlc k { y with drop := false }).rlcEvict k else s
  else if typ = 0x52 then
    s.setRlc k { x with fill := 0, state := .invalid, moved := some (BitVec.ofNat 14 aux, aux / 2 ^ 14 % 2 ^ 46 / 128) }
  else if x.fill = 0x14 ∨ x.fill = 0x15 then s.setRlc k {}
  else if status = 0 then s
  else s.setRlc k { x with fill := 0, err := some status }

end Sys2Proof.Machine
end

