-- ==== Sys2Proof/Machine/Engine.lean ====
section
/-!
DEFINITION. Requests of the issuers inside the Golik (R210, R215): jet tasks and queue pairs, to lines homed here and to other
homes; their answers, RETRY, and the order R214 keeps. Every access goes through the home's transactions, its reads and writes
of a line here through the line's channel (R112), and its answer is taken when the command that waits for it runs again.
-/

namespace Sys2Proof.Machine

/-- Why an engine's operation stops short of its end: it waits, or it fails with a fault kind of Table 3-11, a status and
the addresses of the access. -/
inductive Stop where
  | wait
  | fail (kind status va gpa : Nat)
deriving DecidableEq, Repr

/-- An operation of an engine: it changes the state, and answers a value or stops. -/
abbrev EngM := ExceptT Stop (StateM State)

/-- What an engine's operation answers on a state. -/
def EngM.on {α : Type} (m : EngM α) (s : State) : Except Stop α × State := m s

/-- A global physical address (R35 to R37): version, device, device-local offset. -/
def gpaVer (g : Nat) : Nat := g / 2 ^ 60 % 16
def gpaDev (g : Nat) : BitVec 14 := BitVec.ofNat 14 (g / 2 ^ 46)
def gpaOff (g : Nat) : BitVec 46 := BitVec.ofNat 46 g

/-- Two requests are of one engine (R210). -/
def sameEngine : Purpose → Purpose → Bool
  | .eng (.jet j r), .eng (.jet j' r') => j == j' && r == r'
  | .eng (.qp t q _), .eng (.qp t' q' _) => t == t' && q == q'
  | a, b => a == b

/-- An own request goes out: to a line homed here straight to the check; to this Golik's register window, and a custody frame to
itself, by way of the internal input. -/
def State.dispatchOwn (s : State) (die : Nat) (f : Frame) (why : Purpose) : State :=
  if f.dst = s.selfId then
    if (f.ver == 1 && inRegisters f) || f.typ == 0x60 || f.typ == 0x62 then
      { s with sluice := { s.sluice with deliver := s.sluice.deliver ++ [(48 + die, f)] } }
    else match why with
    | .eng e => (s.homeRequest f (.eng e)).1
    | _ => s
  else s.sourceFrame die f

/-- Requests of the same engine to the same line that were sent before (or after) one. -/
def OutReq.sameLine (a b : OutReq) : Bool :=
  sameEngine a.purpose b.purpose && a.f.dst == b.f.dst && a.f.line == b.f.line

/-- One request sent again, keeping its number (R256, R261). -/
def State.resendOne (s : State) (r : OutReq) : State :=
  let s : State := { s with out := s.out.map (fun x => if x = r then { x with sentAt := s.now, retryAt := none, held := none } else x) }
  s.dispatchOwn r.die r.f r.purpose

/-- A request sent again with every later one of its engine to its line, in their order (R214). -/
def State.resendOwn (s : State) (r : OutReq) : State :=
  let later := (s.out.dropWhile (fun x => x != r)).drop 1
  let s := s.resendOne r
  s.forEach (later.filter r.sameLine) (fun s x => s.resendOne x)

/-- What an issuer asked: the request before any REDIRECT (R423). -/
def OutReq.asked (r : OutReq) : Frame := r.orig.getD r.f

/-- An answer as the issuer sees it: to what it asked. -/
def OutReq.seen (r : OutReq) (f : Frame) : Frame :=
  match r.orig with
  | some o => { f with src := o.dst, addr := o.addr, seq := o.seq }
  | none => f

/-- The wait before a request answered RETRY is sent again (Table 9-8). -/
def State.retryDelay (s : State) : Nat := s.gzv 0x4030 0x03

/-- A final answer handed to the issuer, unless an earlier request of its engine to its line is still unanswered; answers
that waited on it follow. -/
def settleEng (e : Eng) (r : OutReq) (f : Frame) : Nat → State → State
  | 0, s => s
  | fuel + 1, s =>
    let earlier := s.out.takeWhile (fun x => x != r)
    if earlier.any r.sameLine then
      { s with out := s.out.map (fun x => if x = r then { x with held := some f } else x) }
    else
      let s : State := { s with out := s.out.erase r, ans := s.ans ++ [{ eng := e, f := r.seen f, va := r.va, settled := true }] }
      match s.out.find? r.sameLine with
      | some r2 =>
        match r2.held, r2.purpose with
        | some f2, .eng e2 => settleEng e2 r2 f2 fuel s
        | _, _ => s
      | none => s

/-- A request answered REDIRECT is sent to the line's present home under a new number of its unordered series (R423). -/
def State.redirect (s : State) (r : OutReq) (aux : Nat) : State :=
  let dst : BitVec 14 := BitVec.ofNat 14 aux
  let (n, s) := s.nextSeq dst.toNat r.f.ord
  let f := { r.f with dst := dst, addr := BitVec.ofNat 46 (aux / 2 ^ 14), seq := n, aux := 0 }
  let x : OutReq := { r with f := f, sentAt := s.now, tries := 0, retryAt := none, orig := some r.asked }
  ({ s with out := s.out.map (fun y => if y = r then x else y) }).dispatchOwn r.die f r.purpose

/-- An answer to an engine's request: RETRY is waited out and the request sent again, anything else is final (R86,
R261). -/
def State.engAnswer (s : State) (r : OutReq) (f : Frame) : State :=
  match r.purpose with
  | .eng (.rlc _ k) =>
    if f.status.toNat = stRetry ∧ f.typ = 0x50 then
      { s with out := s.out.map (fun x => if x = r then { x with retryAt := some (s.now + s.retryDelay), tries := 0 } else x) }
    else ({ s with out := s.out.erase r }).rlcFill k f.typ.toNat f.status f.aux.toNat f.seq f.data
  | .eng e =>
    if f.status.toNat = stRetry ∧ f.typ = 0x50 then
      { s with out := s.out.map (fun x => if x = r then { x with retryAt := some (s.now + s.retryDelay), tries := 0 } else x) }
    else if f.typ = 0x52 then s.redirect r f.aux.toNat
    else settleEng e r f (s.out.length + 1) s
  | _ => s

/-- The first answer not yet matched to its request. -/
def settleOne (s : State) : Option State :=
  match s.ans.find? (fun a => !a.settled) with
  | none => none
  | some a =>
    let s : State := { s with ans := s.ans.erase a }
    match a.eng with
    | .rlc _ k => some (s.rlcFill k a.f.typ.toNat a.f.status a.f.aux.toNat a.f.seq a.f.data)
    | _ =>
      match s.out.find? (fun r => r.purpose == .eng a.eng && r.f.dst == a.f.src && r.f.ord == a.f.ord && r.f.seq == a.f.seq) with
      | some r => some (s.engAnswer r a.f)
      | none => some s

def settleGo : Nat → State → State
  | 0, s => s
  | fuel + 1, s => match settleOne s with
    | some s => settleGo fuel s
    | none => s

/-- An issuer that has ended while requests of its own were outstanding: their answers go to no one. -/
def Eng.gone : Eng → Bool
  | .jet _ r => decide (17 ≤ r)
  | .qp _ _ i => decide (262144 ≤ i)
  | _ => false

/-- Every answer of this home to an issuer inside matched to its request. -/
def State.settleAns (s : State) : State :=
  let s := settleGo (s.ans.length + 1) s
  if s.ans.any (fun a => a.eng.gone) then { s with ans := s.ans.filter (fun a => !a.eng.gone) } else s

/-- The requests an issuer leaves outstanding as it ends are completed for no one (R109, R321). -/
def State.orphan (s : State) (e e' : Eng) : State :=
  if s.out.any (fun r => r.purpose == .eng e) then
    { s with out := s.out.map (fun r => if r.purpose = .eng e then { r with purpose := .eng e' } else r) }
  else s

/-- A request of an engine numbered, kept and sent (R223, R256). -/
def State.engSend (s : State) (die : Nat) (e : Eng) (f : Frame) (va : Nat) : State :=
  let d := if f.ord then f.dst.toNat % 4 else die
  let (n, s) := s.nextSeq f.dst.toNat f.ord
  let f := { f with seq := n, src := s.selfId }
  let s : State := { s with out := s.out ++ [{ f := f, die := d, purpose := .eng e, va := va, sentAt := s.now }] }
  (s.dispatchOwn d f (.eng e)).settleAns

/-- The engine has a request without its final answer. -/
def State.engBusy (s : State) (e : Eng) : Bool := s.out.any (fun r => r.purpose == .eng e)

/-- Translations kept for one access of an engine alone are used up; one that a leg pins stays till the leg's end (R71, R73). -/
def State.dropOnce (s : State) (e : Eng) : State :=
  if s.dies.any (fun d => d.2.xlate.any (fun x => x.once == some e)) then
    { s with dies := s.dies.map (fun d => (d.1, { d.2 with xlate := d.2.xlate.filter (fun x => x.once != some e || !x.pins.isEmpty) })) }
  else s

/-- The kept answers of an engine dropped, and translations kept for its access alone: its operation has ended (R71). -/
def State.dropAns (s : State) (e : Eng) : State :=
  ({ s with ans := s.ans.filter (fun a => a.eng != e) } : State).dropOnce e

/-- The frame of an engine's request to a global physical address. -/
def engFrame (typ : Nat) (tag : BitVec 16) (gpa : Nat) : Frame :=
  { typ := BitVec.ofNat 8 typ, ver := BitVec.ofNat 4 (gpaVer gpa), ctx := tag, dst := gpaDev gpa,
    addr := BitVec.ofNat 46 ((gpaOff gpa).toNat / 128 * 128) }

/-- The answer an engine keeps for a line of a home, of a read. -/
def State.readAnswer (s : State) (e : Eng) (f : Frame) : Option EngAns :=
  s.ans.find? (fun a => a.settled && a.eng == e && a.f.src == f.dst && a.f.line == f.line && (a.f.typ == 0x51 || (a.f.typ == 0x50 && a.f.status != 0)))

/-- A read of a line by a frame of the engine's. -/
def engReadAs (e : Eng) (die : Nat) (f : Frame) (va gpa : Nat) : EngM Line := fun s =>
  let take (s : State) : Except Stop Line × State :=
    match s.readAnswer e f with
    | some a =>
      if a.f.typ = 0x51 then (.ok a.f.data, s) else (.error (.fail 0x05 a.f.status.toNat va gpa), s)
    | none => (.error .wait, s)
  match s.readAnswer e f with
  | some _ => take s
  | none =>
    if s.out.any (fun r => r.purpose == .eng e && r.f.typ == 0x12 && r.asked.dst == f.dst && r.asked.line == f.line) then (.error .wait, s)
    else take (s.engSend die e f va)

/-- ReadOnce of the line at a global physical address. -/
def engRead (e : Eng) (die : Nat) (tag : BitVec 16) (va gpa : Nat) : EngM Line := engReadAs e die (engFrame 0x12 tag gpa) va gpa

/-- An atomic of the engine is outstanding to the line: nothing further is issued to it (R214). -/
def State.atomicOut (s : State) (e : Eng) (f : Frame) (any : Bool) : Bool :=
  s.out.any (fun r => sameEngine r.purpose (.eng e) && r.f.dst == f.dst && r.f.line == f.line && (any || r.f.typ == 0x1C))

/-- A write or an atomic of an engine issued; it waits where R214 makes it wait. -/
def engIssue (e : Eng) (die : Nat) (f : Frame) (va : Nat) : EngM Unit := fun s =>
  if s.atomicOut e f (f.typ == 0x1C) then (.error .wait, s) else (.ok (), s.engSend die e f va)

/-- The state of the model as an engine's operation sees it. -/
def engGet : EngM State := fun s => (.ok s, s)

/-- A change of the state that is not an access. -/
def engDo (f : State → State) : EngM Unit := fun s => (.ok (), f s)

/-- The operation fails. -/
def engFail {α : Type} (kind status va gpa : Nat) : EngM α := fun s => (.error (.fail kind status va gpa), s)

/-- The operation waits for something outside. -/
def engWait {α : Type} : EngM α := fun s => (.error .wait, s)

/-- A list of operations in order. -/
def engMap {α β : Type} (f : α → EngM β) : List α → EngM (List β)
  | [] => pure []
  | a :: as => do
    let b ← f a
    let bs ← engMap f as
    pure (b :: bs)

/-- As engMap, for what the operations do alone. -/
def engEach {α : Type} (f : α → EngM Unit) : List α → EngM Unit
  | [] => pure ()
  | a :: as => do
    f a
    engEach f as

/-- Every read tried though an earlier one waits, so that all of them are under way together. -/
def engAll {α β : Type} (f : α → EngM β) : List α → EngM (List β)
  | [] => pure []
  | a :: as => fun s =>
    match f a s with
    | (.error .wait, s) =>
      match engAll f as s with
      | (.error (.fail k st va g), s) => (.error (.fail k st va g), s)
      | (_, s) => (.error .wait, s)
    | (.error x, s) => (.error x, s)
    | (.ok b, s) =>
      match engAll f as s with
      | (.ok bs, s) => (.ok (b :: bs), s)
      | (.error x, s) => (.error x, s)

end Sys2Proof.Machine
end

