-- ==== Sys2Proof/Machine/Qp.lean ====
section
/-!
DEFINITION. Queue pairs (chapter 12): states and causes, doorbells, fetching and starting descriptors, completions in ring order,
failures; and what a descriptor's end releases: task records, pins, leases, its place at a table or an index.
-/

namespace Sys2Proof.Machine

/-! ### Fields of a queue pair -/

/-- States (Table 12-2). -/
def qpDisabled : Nat := 0
def qpRunning : Nat := 1
def qpStopping : Nat := 2
def qpError : Nat := 3
def qpFenced : Nat := 4

def State.qpState (s : State) (t q : Nat) : Nat := s.rf (Reg.TN_QP_CTRL t q) 1 3
def State.setQpState (s : State) (t q x : Nat) : State := s.setRf (Reg.TN_QP_CTRL t q) 1 3 x
def State.qpCtx (s : State) (t q : Nat) : BitVec 16 := BitVec.ofNat 16 (s.rf (Reg.TN_QP_CFG t q) 0 16)
def State.sqSize (s : State) (t q : Nat) : Nat := 2 ^ s.rf (Reg.TN_QP_CFG t q) 16 5
def State.cqSize (s : State) (t q : Nat) : Nat := 2 ^ s.rf (Reg.TN_QP_CFG t q) 24 5
def State.qpDepth (s : State) (t q : Nat) : Nat := s.rf (Reg.TN_QP_CFG t q) 32 4


/-- Descriptors started and not completed. -/
def Qp.inflight (x : Qp) : Nat := (x.descs.filter (fun d => d.phase != .barred)).length

/-- INFLIGHT brought up to date. -/
def State.syncQp (s : State) (t q : Nat) : State := s.setRf (Reg.TN_QP_CTRL t q) 8 4 (s.qp t q).inflight

/-- A descriptor in flight, by its index. -/
def State.desc (s : State) (t q i : Nat) : Option Desc := (s.qp t q).descs.find? (fun d => d.index == i)

/-- A descriptor in flight changed. -/
def State.modDesc (s : State) (t q i : Nat) (f : Desc → Desc) : State :=
  s.setQp t q { s.qp t q with descs := (s.qp t q).descs.map (fun d => if d.index = i then f d else d) }

/-- The engine of a descriptor. -/
def qpEng (t q i : Nat) : Eng := .qp t q i

/-! ### Task records given up (R352, R355, R363) -/

/-- The pins of a leg in its die's translation cache taken off; a marked entry without pins goes, as does one that is not installed (R71,
R73, R81). -/
def State.unpinSheets (s : State) (d k : Nat) : State :=
  let x := s.die d
  let l := x.xlate.map (fun e => { e with pins := e.pins.filter (· != k) })
  s.setDie d { x with xlate := (x.xlate.zip l).filterMap (fun e =>
    if e.2.pins.isEmpty && (e.2.drop || (e.2.once.isSome && !e.1.pins.isEmpty)) then none else some e.2) }

/-- One engine pin of a piece taken off on all four dies; a sweep under way for it ends (R176). -/
def State.unpinPiece (s : State) (piece : Nat) : State :=
  s.forEach (List.range 4) (fun s d =>
    let x := s.die d
    if x.sweeps.contains piece then s.setDie d { x with sweeps := x.sweeps.erase piece }
    else s.setDie d { x with pins := mput 0 x.pins piece (mget 0 x.pins piece - 1) })

/-- A task's pins and leases are released (R73, R352). -/
def State.releaseLeg (s : State) (j r : Nat) : State :=
  let t := s.task j r
  let d := dieOfJet j
  let s := if t.pinned.isEmpty then s else
    let s := s.unpinSheets d (32 * j + r)
    s.forEach t.pinned (fun s p => s.unpinPiece p)
  s.setTask j r { s.task j r with pinned := [], leased := false, ord := 0 }

/-- Records of a jet in use. -/
def State.records (s : State) (j : Nat) : List (Nat × Task) :=
  (s.tasks.filter (fun e => e.1 / 32 == j && e.2.state != .free)).map (fun e => (e.1 % 32, e.2))

/-- Tasks READY on a jet, in the order they became ready, the lower record first on a tie; built-in tasks run with their
descriptors (R357). -/
def State.readyTasks (s : State) (j : Nat) : List (Nat × Task) :=
  (s.records j).filter (fun e => e.2.state == .ready && e.2.system == 0)

/-- JT_STATE of a jet brought up to date; a jet with no task RUNNING or READY sleeps (R357, R479). -/
def State.syncJet (s : State) (j : Nat) : State :=
  let run := (s.jet j).running
  let l := s.records j
  let ready := (l.filter (fun e => e.2.state == .ready)).length
  let off := Reg.JT_STATE j
  let en := s.rf off 0 1
  let s := s.setRf off 3 1 (bitN (en == 1 && run.isNone && decide (ready = 0)))
  (((s.setRf off 4 5 (run.getD 0)).setRf off 9 1 (bitN run.isSome)).setRf off 10 5 l.length).setRf off 15 5 ready

/-- An issuer no longer waits on any translation; a request not yet sent that no one waits on goes (R75, R85). -/
def State.dropWaiter (s : State) (e : Eng) : State :=
  s.forEach (List.range 4) (fun s d =>
    let x := s.die d
    let l := x.xreqs.map (fun r => { r with waiters := r.waiters.filter (fun w => w.eng != e) })
    s.setDie d { x with xreqs := l.filter (fun r => r.sent || !r.waiters.isEmpty) })

/-- A task record becomes FREE. -/
def State.freeRecord (s : State) (j r : Nat) : State :=
  let exact := (s.task j r).leg.exact
  let s := ((s.releaseLeg j r).setTask j r {}).orphan (.jet j r) (.jet j 31)
  let away (b : EBound) : EBound := if b.jet = j ∧ b.record = r then { b with record := 31 } else b
  let s : State := if exact then
      { s with chans := s.chans.map (fun e =>
          let b := e.2.bound.map (fun b => (b.1, away b.2))
          let f := e.2.flight.map (fun f => { f with e := f.e.map away })
          (e.1, { e.2 with bound := b, flight := f })) }
    else s
  let s := if (s.jet j).running = some r then s.setJet j { s.jet j with running := none } else s
  (((s.dropWaiter (.jet j r)).dropAns (.jet j r))).syncJet j

/-! ### Tables and indexes: who runs and who waits (R384, R401) -/

/-- Waiting operations of a table that can start now do. -/
def Table.promote : Nat → Table → Table
  | 0, x => x
  | fuel + 1, x =>
    match x.waiting with
    | [] => x
    | (op, hold) :: rest =>
      if hold then
        if x.running.isEmpty ∧ x.state ≠ 2 then
          { x with running := [op], waiting := rest, state := if x.state = 1 then 2 else x.state }
        else x
      else if x.state = 2 then x
      else Table.promote fuel { x with running := x.running ++ [op], waiting := rest }

/-- An operation registers at its table's control die (R367). -/
def Table.register (x : Table) (op : OpRef) (hold : Bool) : Table :=
  let x := { x with waiting := x.waiting ++ [(op, hold)] }
  x.promote x.waiting.length

/-- An operation of a table ends; a table held for it is ACTIVE again, and waiting operations start. -/
def Table.finish (x : Table) (op : OpRef) : Table :=
  let x := { x with state := if x.state = 2 ∧ x.running = [op] then 1 else x.state, running := x.running.erase op,
                    waiting := x.waiting.filter (fun w => w.1 != op) }
  x.promote x.waiting.length

/-- Waiting operations of an index that can start now do: searches pass mutations that wait, nothing passes a holding
operation (R401). -/
def Index.promoteGo : List (OpRef × Nat) → Index → Bool → Index
  | [], x, _ => x
  | (op, k) :: rest, x, mutAhead =>
    let idle := x.searches.isEmpty && x.mutation.isNone && x.holding.isNone
    if k = 2 then
      if idle && x.waiting.isEmpty then { x with holding := some op, state := if x.state = 1 then 2 else x.state, waiting := rest }
      else { x with waiting := x.waiting ++ (op, k) :: rest }
    else if x.holding.isSome then { x with waiting := x.waiting ++ (op, k) :: rest }
    else if k = 0 then
      Index.promoteGo rest { x with searches := x.searches ++ [(op, (x.epoch, x.annexCount, x.nextNode))] } mutAhead
    else if x.mutation.isNone && !mutAhead then Index.promoteGo rest { x with mutation := some op } false
    else Index.promoteGo rest { x with waiting := x.waiting ++ [(op, k)] } true

def Index.promote (x : Index) : Index := Index.promoteGo x.waiting { x with waiting := [] } false

/-- An operation registers at its index's control die. -/
def Index.register (x : Index) (op : OpRef) (k : Nat) : Index := Index.promote { x with waiting := x.waiting ++ [(op, k)] }

/-- An operation of an index ends; a merge, however it ended, is under way no longer (R405). -/
def Index.finish (x : Index) (op : OpRef) : Index :=
  let x := if x.holding = some op then { x with merging := false, wrote := false, mergeEnd := none } else x
  let x := { x with state := if x.state = 2 ∧ x.holding = some op then 1 else x.state,
                    holding := if x.holding = some op then none else x.holding,
                    mutation := if x.mutation = some op then none else x.mutation,
                    searches := x.searches.filter (fun e => e.1 != op),
                    waiting := x.waiting.filter (fun e => e.1 != op) }
  x.promote

def State.setTable (s : State) (h : Nat) (x : Table) : State := { s with tables := mput {} s.tables h x }
def State.setIndex (s : State) (h : Nat) (x : Index) : State := { s with indexes := mput {} s.indexes h x }

/-- A descriptor that starts registers its operation (R367, R390). -/
def State.registerOp (s : State) (t q : Nat) (d : Desc) : State :=
  let op : OpRef := ⟨t, q, d.index⟩
  match tableKind d.body, indexKind d.body with
  | .none, .none => s
  | .none, k =>
    let h := bf d.body 73 64
    match mfind s.indexes h with
    | some x => s.setIndex h (x.register op (match k with | .plain => 0 | .mutation => 1 | _ => 2))
    | none => s
  | k, _ =>
    let h := bf d.body 75 64
    match mfind s.tables h with
    | some x => s.setTable h (x.register op (k == .holding))
    | none => s

/-- A descriptor's operation leaves its table and index. -/
def State.unregisterOp (s : State) (t q i : Nat) : State :=
  let op : OpRef := ⟨t, q, i⟩
  let s := s.forEach (s.tables.filter (fun e => e.2.running.contains op || e.2.waiting.any (fun w => w.1 == op))) (fun s e =>
    s.setTable e.1 (e.2.finish op))
  s.forEach (s.indexes.filter (fun e => e.2.holding == some op || e.2.mutation == some op
      || e.2.searches.any (fun w => w.1 == op) || e.2.waiting.any (fun w => w.1 == op))) (fun s e =>
    s.setIndex e.1 (e.2.finish op))

/-! ### A descriptor's end -/

/-- Task records a descriptor has: its own task, a built-in task, batch tasks. -/
def State.tasksOf (s : State) (t q i : Nat) : List Nat :=
  (s.tasks.filter (fun e => e.2.state != .free && e.2.tenant == t && e.2.qp == q && e.2.desc == i)).map (·.1)

/-- A table or index that a descriptor's failure leaves FAILED: a commit once a batch task has started (R382), a mutation or
merge once it has written (R407). -/
def State.failOp (s : State) (t q i : Nat) : State :=
  let op : OpRef := ⟨t, q, i⟩
  let s := s.forEach (s.tables.filter (fun e => (e.2.commit.map (fun c => c.op == op && decide (0 < c.started))).getD false)) (fun s e =>
    (s.setTable e.1 { e.2 with state := 3, commit := none }).raise 0x6111 fromController
      [(2, e.2.tenant), (2, e.1), (8, e.2.epoch), (4, (e.2.commit.map (·.started)).getD 0)])
  let s := s.forEach (s.tables.filter (fun e => (e.2.commit.map (fun c => c.op == op)).getD false)) (fun s e =>
    s.setTable e.1 { e.2 with commit := none })
  let wrote := match s.desc t q i with
    | some d => decide (d.phase = .writing) || decide (0 < d.stage)
    | none => false
  s.forEach (s.indexes.filter (fun e => (e.2.mutation == some op && wrote)
      || (e.2.holding == some op && (e.2.wrote || (wrote && e.2.merging))))) (fun s e =>
    (s.setIndex e.1 { e.2 with state := 3, merging := false, wrote := false }).raise 0x6120 fromController
      [(2, e.2.tenant), (2, e.1), (1, ((s.desc t q i).map (fun d => opOf d.body)).getD 0), (8, e.2.epoch)])

/-- Everything a descriptor holds is given up. -/
def State.clearDesc (s : State) (t q i : Nat) : State :=
  let s := s.forEach (s.tasksOf t q i) (fun s k => s.freeRecord (k / 32) (k % 32))
  let s := (((s.unregisterOp t q i).dropAns (.qp t q i)).dropWaiter (.qp t q i)).orphan (.qp t q i) (.qp t q 262144)
  let x := s.qp t q
  (s.setQp t q { x with descs := x.descs.filter (fun d => d.index != i), casc := merase x.casc i }).syncQp t q

/-- Event 0x6021. -/
def State.qpEvent (s : State) (t q : Nat) : State :=
  let off := Reg.TN_QP_CTRL t q
  s.raise 0x6021 (dieOfQp t q) [(2, t), (1, q), (1, s.rf off 4 4), (2, s.rf off 16 16), (1, s.rf off 32 8)]

/-- CAUSE, ERR_INDEX and ERR_STATUS set. -/
def State.setCauseOf (s : State) (t q cause index status : Nat) : State :=
  let off := Reg.TN_QP_CTRL t q
  ((s.setRf off 4 4 cause).setRf off 16 16 index).setRf off 32 8 status

/-- A cause of Table 12-6 puts a RUNNING or STOPPING queue pair in ERROR (Table 12-2). -/
def State.qpError (s : State) (t q cause index status : Nat) : State :=
  if s.qpState t q = qpRunning ∨ s.qpState t q = qpStopping then
    (((s.setCauseOf t q cause index status).setQpState t q Machine.qpError).qpEvent t q)
  else s

/-- The descriptors behind one that failed are abandoned (R321). -/
def State.abandonAfter (s : State) (t q i : Nat) : State :=
  let later := ((s.qp t q).descs.dropWhile (fun d => d.index != i)).drop 1
  s.forEach later (fun s d => (s.failOp t q d.index).clearDesc t q d.index)

/-- STOPPING ends in DISABLED, and ERROR and FENCED do once ENABLE has been written 0, when nothing is in flight (Table 12-2). -/
def State.qpSettle (s : State) (t q : Nat) : State :=
  let off := Reg.TN_QP_CTRL t q
  let st := s.qpState t q
  let fencedNow := (s.ctxOf (s.qpCtx t q)).any (fun e => e.2.fenced)
  if s.rf off 0 1 = 0 ∧ (s.qp t q).descs.isEmpty
      ∧ (st = qpStopping ∨ st = Machine.qpError ∨ (st = qpFenced ∧ !fencedNow)) then
    (s.setReg off 0).setQp t q {}
  else s

/-- The end of a descriptor's built-in task counted in JT_ENDS: 0 NORMAL, 32 FAULT (R370). -/
def State.countBuiltIn (s : State) (t q i lo : Nat) : State :=
  s.forEach ((s.tasksOf t q i).filter (fun k => (s.task (k / 32) (k % 32)).system == 1)) (fun s k =>
    s.bump (Reg.JT_ENDS (k / 32)) lo 32 1)

/-- A descriptor fails with a fault record of its own (R321, R87); outside a fence the queue pair stops and what started
after it is abandoned. jet names the jet of a task that failed. -/
def State.descFail (s : State) (t q i kind status va gpa : Nat) (jet : Option Nat) : State :=
  match s.desc t q i with
  | none => s
  | some _ =>
    let r : FaultRec := { tenant := t, kind := kind, status := status, ctx := s.qpCtx t q, jet := jet.getD 0,
                          mover := jet.isNone, qp := if jet.isNone then q else 0, va := va, gpa := gpa }
    let fenced := s.qpState t q = qpFenced
    let s := s.countBuiltIn t q i 32
    let s := s.failOp t q i
    let s := if fenced then s else s.abandonAfter t q i
    let s := (s.clearDesc t q i).writeFault r
    (if fenced then s else s.qpError t q 5 i status).qpSettle t q

/-! ### Completions (R318) -/

/-- The index by which the write of a descriptor's completion is told from the descriptor's own requests. -/
def cplIndex (i : Nat) : Nat := 65536 + i

/-- The four words of a completion (R319). -/
def cplWords (d : Desc) (phase stamp : Nat) : List Word :=
  [pack [(16, d.index), (1, phase), (15, 0), (32, bf d.body 63 32)], d.result, d.extra, BitVec.ofNat 64 stamp]

/-- The completion of a descriptor written at TAIL (R318): a masked WriteLine of four words with ORD set, or a GMWRITE. -/
def State.writeCompletion (s : State) (t q : Nat) (d : Desc) : State :=
  let off := Reg.TN_QP_CQ_TAIL t q
  let tail := s.rf off 0 16
  let at_ := (s.reg (Reg.TN_QP_CQ_BASE t q)).toNat + 32 * tail
  let k := at_ % 128 / 8
  let gauge := bf d.body 9 9 = 1
  let f : Frame := { typ := if gauge then 0x1B else 0x19, ctx := s.qpCtx t q, ord := true, dst := s.selfId,
                     gauge := if gauge then BitVec.ofNat 8 (bf d.body 23 16) else 0,
                     addr := BitVec.ofNat 46 (at_ / 128 * 128),
                     data := lineOfWords (cplWords d (s.rf off 16 1) s.edges) <<< (64 * k),
                     mask := maskOfWords (BitVec.ofNat 16 (15 * 2 ^ k)) }
  let next := (tail + 1) % s.cqSize t q
  let s := s.setRf off 0 16 next
  let s := if next = 0 then s.setRf off 16 1 (1 - s.rf off 16 1) else s
  (s.bump (Reg.TN_CNT_DESC t) 0 64 1).engSend (dieOfQp t q) (.qp t q (cplIndex d.index)) f 0

/-- Room in the completion ring. -/
def State.cqRoom (s : State) (t q : Nat) : Bool :=
  (s.rf (Reg.TN_QP_CQ_TAIL t q) 0 16 + 1) % s.cqSize t q != s.rf (Reg.TN_QP_CQ_HEAD t q) 0 16

/-- Completions owed are written in ring order while there is room; a descriptor behind a barrier starts when it is first
(R318). -/
def cplGo (t q : Nat) : Nat → State → State
  | 0, s => s
  | fuel + 1, s =>
    match (s.qp t q).descs with
    | [] => s.setRf (Reg.TN_QP_CTRL t q) 12 1 0
    | d :: _ =>
      match d.phase with
      | .owed =>
        if s.qpState t q = qpFenced then s
        else if s.cqRoom t q then
          cplGo t q fuel (((s.setRf (Reg.TN_QP_CTRL t q) 12 1 0).writeCompletion t q d).clearDesc t q d.index)
        else s.setRf (Reg.TN_QP_CTRL t q) 12 1 1
      | .barred =>
        if s.qpState t q = qpRunning then
          ((s.modDesc t q d.index (fun d => { d with phase := .fetched })).registerOp t q d).syncQp t q
        else s.clearDesc t q d.index
      | _ => s.setRf (Reg.TN_QP_CTRL t q) 12 1 0

def State.qpFlush (s : State) (t q : Nat) : State :=
  (cplGo t q ((s.qp t q).descs.length + 1) s).qpSettle t q

/-- A descriptor has succeeded: its completion is owed and written in its turn; under a fence no completion is written, and it
fails (R324). -/
def State.descDone (s : State) (t q i : Nat) (result extra : Word) : State :=
  let s := (((s.countBuiltIn t q i 0).unregisterOp t q i).dropAns (.qp t q i)).dropWaiter (.qp t q i)
  let s := s.forEach (s.tasksOf t q i) (fun s k => s.freeRecord (k / 32) (k % 32))
  let phase : DPhase := if s.qpState t q = qpFenced then .fenced else .owed
  (s.modDesc t q i (fun d => { d with phase := phase, result := result, extra := extra })).qpFlush t q

/-- A refused completion write (R321): the queue pair stops; what started after the descriptor, which is all that is still in
flight, is abandoned. -/
def State.ringRefused (s : State) (t q i status : Nat) : State :=
  let s := if s.qpState t q = qpFenced then s else
    s.forEach (s.qp t q).descs (fun s d => (s.failOp t q d.index).clearDesc t q d.index)
  (s.qpError t q 4 i status).qpSettle t q

/-- Answers to completion writes taken. -/
def State.ringAnswers (s : State) : State :=
  let l := s.ans.filter (fun a => a.settled && (match a.eng with | .qp _ _ i => decide (65536 ≤ i) && decide (i < 131072) | _ => false))
  let s : State := { s with ans := s.ans.filter (fun a => !l.contains a) }
  s.forEach l (fun s a =>
    match a.eng with
    | .qp t q i => if a.f.status = 0 then s else s.ringRefused t q (i - 65536) a.f.status.toNat
    | _ => s)

/-! ### Register writes of a queue pair (R316, R317) -/

/-- A write of TN_QP_SQ_BASE, TN_QP_CQ_BASE or TN_QP_CFG: only in DISABLED. -/
def State.qpConfigWrite (s : State) (t off : Nat) (q : Nat) (v rw : Word) : State :=
  if s.qpState t q = qpDisabled then s.setReg off (v &&& rw) else s.bump (Reg.TN_CNT_DROPS t) 0 32 1

/-- ENABLE written 1 may enter RUNNING (R316). -/
def State.qpConfigGood (s : State) (t q : Nat) : Bool :=
  let cfg := Reg.TN_QP_CFG t q
  let so := s.rf cfg 16 5
  let co := s.rf cfg 24 5
  let sq := (s.reg (Reg.TN_QP_SQ_BASE t q)).toNat
  let cq := (s.reg (Reg.TN_QP_CQ_BASE t q)).toNat
  (s.ctxOf (s.qpCtx t q)).any (fun e => e.2.tenant == t && !e.2.fenced)
    && within 4 so 16 && within 4 co 16 && within 1 (s.qpDepth t q) 8
    && sq % (64 * 2 ^ so) == 0 && cq % (32 * 2 ^ co) == 0
    && decide (sq + 64 * 2 ^ so ≤ 2 ^ 41) && decide (cq + 32 * 2 ^ co ≤ 2 ^ 41)

/-- A write of TN_QP_CTRL (R316, Table 12-2). -/
def State.qpCtrlWrite (s : State) (t q : Nat) (enable : Bool) : State :=
  let off := Reg.TN_QP_CTRL t q
  let st := s.qpState t q
  if enable then
    if st = qpDisabled then
      if s.qpConfigGood t q then
        let s := ((s.setReg (Reg.TN_QP_SQ_TAIL t q) 0).setReg (Reg.TN_QP_SQ_HEAD t q) 0).setReg (Reg.TN_QP_CQ_HEAD t q) 0
        let s := s.setReg (Reg.TN_QP_CQ_TAIL t q) (pack [(16, 0), (1, 1)])
        (s.setReg off (pack [(1, 1), (3, qpRunning)])).setQp t q {}
      else (s.setReg off (pack [(1, 0), (3, qpDisabled), (4, 1)])).qpEvent t q
    else s
  else
    let s := s.setRf off 0 1 0
    if st = qpRunning then (s.setQpState t q qpStopping).qpFlush t q else s.qpSettle t q

/-- A write of TN_QP_SQ_TAIL (R317). -/
def State.doorbell (s : State) (t q tail : Nat) : State :=
  let s := s.setReg (Reg.TN_QP_SQ_TAIL t q) (BitVec.ofNat 64 (tail % 65536))
  if s.qpState t q = qpRunning ∧ s.sqSize t q ≤ tail % 65536 then s.qpError t q 2 (tail % 65536) 0 else s

/-- A write of TN_QP_CQ_HEAD: completions that waited for room follow (R318). -/
def State.cqHeadWrite (s : State) (t q head : Nat) : State :=
  (s.setReg (Reg.TN_QP_CQ_HEAD t q) (BitVec.ofNat 64 (head % 65536))).qpFlush t q

/-! ### Fetching and starting (R317, R318, R320) -/

/-- A descriptor of the queue pair waits on a translation: the queue pair issues nothing further (R83). -/
def State.qpParked (s : State) (t q : Nat) : Option Nat :=
  let l := (s.die (dieOfQp t q)).xreqs.flatMap (fun r => r.waiters.filterMap (fun w => match w.eng with
    | .qp t' q' i => if t' = t ∧ q' = q then some i else none
    | _ => none))
  l.head?

/-- The engine of a descriptor fetch. -/
def fetchEng (t q head : Nat) : Eng := .qp t q (131072 + head)

/-- The next descriptor can be fetched. -/
def State.canFetch (s : State) (t q : Nat) : Bool :=
  let x := s.qp t q
  s.qpState t q == qpRunning
    && s.rf (Reg.TN_QP_SQ_HEAD t q) 0 16 != s.rf (Reg.TN_QP_SQ_TAIL t q) 0 16
    && decide (x.inflight < s.qpDepth t q) && !x.descs.any (fun d => d.phase == .barred) && (s.qpParked t q).isNone

/-- A fetched descriptor starts, waits for its barrier, or is found malformed. HOLD_OFFER starts as if BARRIER were set
(R432). -/
def State.startDesc (s : State) (t q i : Nat) (b : DescBits) : State :=
  let head := s.rf (Reg.TN_QP_SQ_HEAD t q) 0 16
  let s := s.setReg (Reg.TN_QP_SQ_HEAD t q) (BitVec.ofNat 64 ((head + 1) % s.sqSize t q))
  if s.descBad b (s.qpCtx t q) then s.qpError t q 3 i 0
  else
    let x := s.qp t q
    let bar := (bf b 8 8 = 1 ∨ opOf b = 0x34) ∧ x.descs ≠ []
    let d : Desc := { index := i, body := b, phase := if bar then .barred else .fetched }
    let s := s.setQp t q { x with descs := x.descs ++ [d], fetched := x.fetched + 1 }
    (if bar then s else s.registerOp t q d).syncQp t q

/-- DESC_FETCH_RETURN: the descriptor at HEAD is read under CTX and starts; a refused fetch stops the queue pair. -/
def State.descFetch (s : State) (t q : Nat) : State :=
  if s.canFetch t q then
    let head := s.rf (Reg.TN_QP_SQ_HEAD t q) 0 16
    let at_ := (s.reg (Reg.TN_QP_SQ_BASE t q)).toNat + 64 * head
    let gpa := 2 ^ 60 + s.selfId.toNat * 2 ^ 46 + at_
    match (engRead (fetchEng t q head) (dieOfQp t q) (s.qpCtx t q) 0 gpa).on s with
    | (.ok l, s) => (s.dropAns (fetchEng t q head)).startDesc t q head ((l >>> (8 * (at_ % 128))).setWidth 512)
    | (.error (.fail _ st _ _), s) => (s.dropAns (fetchEng t q head)).qpError t q 4 head st
    | (.error .wait, s) => s
  else s

/-! ### Running an operation's row -/

/-- The descriptor an operation's row runs: the first one started with the operation and not yet done issuing. Another
descriptor of the queue pair that waits on a translation holds it back (R83). -/
def State.nextDesc (s : State) (t q op : Nat) : Option Desc :=
  match (s.qp t q).descs.find? (fun d => opOf d.body == op && (d.phase == .fetched || d.phase == .working)) with
  | none => none
  | some d => match s.qpParked t q with
    | none => some d
    | some i => if i = d.index then some d else none

/-- What an operation answers: the descriptor waits, fails, or goes on with what it answered. -/
def State.runDesc {α : Type} (s : State) (t q : Nat) (d : Desc) (jet : Option Nat) (m : EngM α) (ok : State → α → State) : State :=
  let s := s.modDesc t q d.index (fun d => { d with phase := .working })
  match m.on s with
  | (.ok a, s) => ok s a
  | (.error .wait, s) => s
  | (.error (.fail k st va gpa), s) => s.descFail t q d.index k st va gpa jet

/-- Every access issued: the descriptor's writes complete (R318). -/
def State.descWriting (s : State) (t q i : Nat) (result extra : Word) : State :=
  s.modDesc t q i (fun d => { d with phase := .writing, result := result, extra := extra })

/-- The first answer of an engine that refuses. -/
def State.refusedAns (s : State) (e : Eng) : Option EngAns :=
  s.ans.find? (fun a => a.settled && a.eng == e && a.f.status != 0)

/-- The global physical address an answer is of. -/
def ansGpa (f : Frame) : Nat := 2 ^ 60 + f.src.toNat * 2 ^ 46 + f.addr.toNat

/-- The jet of a descriptor's built-in task. -/
def State.jetOf (s : State) (t q i : Nat) : Option Nat := (s.tasksOf t q i).head?.map (· / 32)

/-- A fenced tag's descriptors fail once their requests have completed (R324). -/
def State.fencedFail (s : State) (t q : Nat) : State :=
  s.forEach ((s.qp t q).descs.filter (fun d => d.phase == .fenced && !s.engBusy (.qp t q d.index))) (fun s d =>
    let jet := s.jetOf t q d.index
    s.descFail t q d.index (if jet.isSome then 0x06 else 0x05) stFenced 0 0 jet)

end Sys2Proof.Machine
end

