-- ==== Sys2Proof/Machine/Task.lean ====
section
/-!
DEFINITION. Task records (R355 to R359, R361): placing a task, its states, parking, waking, its normal end and its end by fault.
-/

namespace Sys2Proof.Machine

/-! ### Enabled jets and placing a task (R354, R355, R370) -/

def State.jetEnabled (s : State) (j : Nat) : Bool := s.rf (Reg.JT_STATE j) 0 1 == 1

/-- The enabled jet of a die with the fewest records in use, the lowest number on a tie. -/
def State.anyJet (s : State) (d : Nat) : Option Nat :=
  (((List.range 26).map (26 * d + ·)).filter s.jetEnabled).foldl (fun (a : Option Nat) j =>
    match a with
    | none => some j
    | some k => if (s.records j).length < (s.records k).length then some j else some k) none

/-- A free record of a jet. -/
def State.freeSlot (s : State) (j : Nat) : Option Nat :=
  (List.range 17).find? (fun r => (s.task j r).state == .free)

/-- A task placed in a record (R355): READY with cause QUEUED. -/
def State.placeTask (s : State) (j r : Nat) (t : Task) : State :=
  (s.setTask j r { t with state := .ready, cause := 5, readyAt := s.edges }).syncJet j

/-- The jet and record of a descriptor's built-in task: placed on the queue pair's die as a TASK with ANY set would be, where
it has none yet (R370). -/
def builtIn (t q i : Nat) : EngM Nat := fun s =>
  match (s.tasksOf t q i).filter (fun k => (s.task (k / 32) (k % 32)).system == 1) with
  | k :: _ => (.ok (k / 32), s)
  | [] =>
    match s.anyJet (dieOfQp t q) with
    | none => (.error (.fail 0x14 stTargetLost 0 0), s)
    | some j => match s.freeSlot j with
      | none => (.error .wait, s)
      | some r => (.ok j, s.placeTask j r { tenant := t, ctx := s.qpCtx t q, qp := q, desc := i, pages := 64, system := 1 })

/-! ### Parking and waking (R356 to R360) -/

/-- A task becomes READY. -/
def State.wake (s : State) (j r : Nat) : State :=
  let t := s.task j r
  if t.state = .parked then
    (s.setTask j r { t with state := .ready, readyAt := s.edges, cause := if t.cause = 5 then 5 else 4 }).syncJet j
  else s

/-- The running task parks with a cause of Table 13-12; PARKS counts those for XLATE, PIN_WAIT and LEASE_WAIT. -/
def State.park (s : State) (j r cause : Nat) : State :=
  let s := s.setTask j r { s.task j r with state := .parked, cause := cause }
  let s := s.setJet j { s.jet j with running := none }
  let s := s.bump (Reg.JT_SWITCHES j) 0 32 1
  (if cause = 3 then s else s.bump (Reg.JT_SWITCHES j) 32 32 1).syncJet j

/-- The running task is switched out at a leg's end. -/
def State.switchOut (s : State) (j r : Nat) : State :=
  let s := s.setTask j r { s.task j r with state := .ready, cause := 4, readyAt := s.edges }
  ((s.setJet j { s.jet j with running := none }).bump (Reg.JT_SWITCHES j) 0 32 1).syncJet j

/-- The longest switch: the Golik promises no time for one, so the time is a free value (R360). -/
def State.countSwitch (s : State) (j : Nat) : State :=
  let (v, s) := s.fresh
  s.raiseTo (Reg.JT_SWITCH_MAX j) 0 32 (v.toNat % 2 ^ 32)

/-! ### Pages of the bowl and registers (R333, R335) -/

/-- X register n: X0 reads zero. -/
def JRegs.getX (g : JRegs) (n : Nat) : Word := if n = 0 then 0 else mget 0 g.x n
def JRegs.setX (g : JRegs) (n : Nat) (v : Word) : JRegs := if n = 0 then g else { g with x := mput 0 g.x n v }
def JRegs.getV (g : JRegs) (n : Nat) : BitVec 2048 := mget 0 g.v n
def JRegs.setV (g : JRegs) (n : Nat) (v : BitVec 2048) : JRegs := { g with v := mput 0 g.v n v }
/-- Mask register n: VM0 reads all ones. -/
def JRegs.getVm (g : JRegs) (n : Nat) : BitVec 512 := if n = 0 then BitVec.allOnes 512 else mget 0 g.vm n
def JRegs.setVm (g : JRegs) (n : Nat) (v : BitVec 512) : JRegs := if n = 0 then g else { g with vm := mput 0 g.vm n v }
def JRegs.getMs (g : JRegs) (n : Nat) : BitVec 128 := mget 0 g.ms n
def JRegs.setMs (g : JRegs) (n : Nat) (v : BitVec 128) : JRegs := { g with ms := mput 0 g.ms n v }
def JRegs.getAc (g : JRegs) (n : Nat) : Acc := mget {} g.ac n
def JRegs.setAc (g : JRegs) (n : Nat) (v : Acc) : JRegs := { g with ac := mput {} g.ac n v }
def JRegs.getPq (g : JRegs) (n : Nat) : BitVec 32 := mget 0 g.pq n

/-- n bytes of the bowl from address a. -/
def JRegs.bowlBytes (g : JRegs) (a n : Nat) : List Byte := (List.range n).map (fun i => mget 0 g.bowl (a + i))

/-- Bytes written to the bowl; their pages are dirty (R360). -/
def JRegs.setBowl (g : JRegs) (a : Nat) (l : List Byte) : JRegs :=
  let cells := ((List.range l.length).map (a + ·)).zip l
  let g := { g with bowl := cells.foldl (fun m c => mput 0 m c.1 c.2) g.bowl }
  if l.isEmpty then g
  else { g with dirty := (List.range 64).foldl (fun d p =>
    if a / 65536 ≤ p ∧ p ≤ (a + l.length - 1) / 65536 then withBit d p else d) g.dirty }

/-! ### A task's end (R356, R87) -/

/-- The commit or merge a batch or merge task belongs to is told of its end (R382, R406). -/
def State.batchEnds (s : State) (t q i : Nat) (fault : Option (Nat × Nat × Nat × Nat)) : State :=
  let op : OpRef := ⟨t, q, i⟩
  let s : State := { s with tables := s.tables.map (fun e =>
    match e.2.commit with
    | some c =>
      if c.op = op then (e.1, { e.2 with commit := some { c with running := c.running - 1, failed := c.failed.orElse (fun _ => fault) } })
      else e
    | none => e) };
  { s with indexes := s.indexes.map (fun e =>
    if e.2.merging ∧ e.2.holding = some op then (e.1, { e.2 with mergeEnd := some fault }) else e) }

/-- A task ends by fault: its record is written; a TASK descriptor or a built-in task's descriptor fails with it (R356,
R370, R382). -/
def State.endFault (s : State) (j r kind status va gpa : Nat) : State :=
  let t := s.task j r
  if t.state = .free then s
  else
  let s := s.bump (Reg.JT_ENDS j) 32 32 1
  if t.system = 2 then
    let s := s.writeFault { tenant := t.tenant, kind := kind, status := status, ctx := t.ctx, jet := j, va := va, gpa := gpa }
    (s.freeRecord j r).batchEnds t.tenant t.qp t.desc (some (kind, status, va, gpa))
  else
    let s := s.freeRecord j r
    if (s.desc t.tenant t.qp t.desc).isSome then s.descFail t.tenant t.qp t.desc kind status va gpa (some j)
    else s.writeFault { tenant := t.tenant, kind := kind, status := status, ctx := t.ctx, jet := j, va := va, gpa := gpa }

/-- A task ends normally: the completion carries X1 and X2 (R356). -/
def State.endNormal (s : State) (j r : Nat) : State :=
  let t := s.task j r
  let s := (s.bump (Reg.JT_ENDS j) 0 32 1).freeRecord j r
  if t.system = 2 then s.batchEnds t.tenant t.qp t.desc none
  else s.descDone t.tenant t.qp t.desc (t.regs.getX 1) (t.regs.getX 2)

/-- The tag of a task is checked as in steps 4 and 5 of Table 3-4 (R325, R358). -/
def State.tagRefused (s : State) (tag : BitVec 16) : Option Nat :=
  if s.isMgmt tag then some stContext
  else match s.ctxOf tag with
  | none => some stContext
  | some (_, c) => if c.fenced then some stFenced else none

/-- TASK_SWITCH_IN: the task that became READY first is switched in; its tag is checked before anything else (R357, R358). -/
def State.switchIn (s : State) (j : Nat) : State :=
  if s.jetEnabled j && (s.jet j).running.isNone then
    match (s.readyTasks j).foldl (fun (a : Option (Nat × Task)) e =>
      match a with
      | none => some e
      | some b => if e.2.readyAt < b.2.readyAt then some e else some b) none with
    | none => s
    | some (r, t) =>
      let s := s.setTask j r { t with state := .running }
      let s := ((s.setJet j { s.jet j with running := some r, switchedAt := s.now }).countSwitch j).syncJet j
      match s.tagRefused t.ctx with
      | some st => s.endFault j r 0x06 st 0 0
      | none => s
  else s

/-- GWAIT_TIMEOUT: the task becomes ready; X takes the COUNT read as it wakes (R359). -/
def State.gaugeWake (s : State) (j r : Nat) : State :=
  let t := s.task j r
  let count := s.reg (Reg.TN_GAUGE_COUNT t.tenant t.gauge)
  (s.setTask j r { t with regs := t.regs.setX t.gx count }).wake j r

def State.gwaitTimeout (s : State) (j r : Nat) : State :=
  let t := s.task j r
  if t.state = .parked ∧ t.cause = 3 then (s.atLeast (s.timeOfEdge t.deadline)).gaugeWake j r else s

/-- Every task parked at a gauge whose COUNT has reached its threshold becomes ready (R228). -/
def State.gaugesGo (s : State) : State :=
  s.forEach (s.tasks.filter (fun e => e.2.state == .parked && e.2.cause == 3
      && decide (e.2.threshold.toNat ≤ (s.reg (Reg.TN_GAUGE_COUNT e.2.tenant e.2.gauge)).toNat))) (fun s e =>
    s.gaugeWake (e.1 / 32) (e.1 % 32))

/-! ### Failed jets and spares (R364, R27) -/

/-- The cause JETS is reported when a die has lost a third jet. -/
def State.jetLost (s : State) (d : Nat) : Bool :=
  decide (2 < ((List.range 26).filter (fun i => s.rf (Reg.JT_STATE (26 * d + i)) 2 1 == 1)).length)

/-- A spare of a jet's die. -/
def State.spareOf (s : State) (d : Nat) : Option Nat :=
  ((List.range 26).map (26 * d + ·)).find? (fun j => s.rf (Reg.JT_STATE j) 1 1 == 1 && s.rf (Reg.JT_STATE j) 2 1 == 0)

/-- JET_FAILED: the running task ends, and without a spare every waiting one (R364). -/
def State.jetFails (s : State) (j : Nat) : State :=
  if s.jetEnabled j then
    let run := (s.jet j).running
    let spare := s.spareOf (dieOfJet j)
    let waiting := ((s.records j).map (·.1)).filter (fun r => run != some r)
    let s := (s.setRf (Reg.JT_STATE j) 0 1 0).setRf (Reg.JT_STATE j) 2 1 1
    let s := match run with
      | some r => s.endFault j r 0x15 stTargetLost 0 0
      | none => s
    let s := if spare.isNone then s.forEach waiting (fun s r => if (s.task j r).state = .free then s else s.endFault j r 0x15 stTargetLost 0 0)
             else s
    let ended := (if run.isSome then 1 else 0) + (if spare.isNone then waiting.length else 0)
    let pay := [(1, j), (4, ended), (4, if spare.isNone then 0 else waiting.length)]
    let s := s.syncJet j
    if s.jetLost (dieOfJet j) then s.raiseCause 0x5201 (dieOfJet j) pay .jets else s.raise 0x5201 (dieOfJet j) pay
  else s

/-- JET_SPARE_ENABLED: a spare of the failed jet's die takes its waiting tasks (R364). -/
def State.spareEnabled (s : State) (failed spare : Nat) : State :=
  if s.rf (Reg.JT_STATE failed) 2 1 = 1 ∧ dieOfJet failed = dieOfJet spare ∧ s.rf (Reg.JT_STATE spare) 1 1 = 1
      ∧ s.rf (Reg.JT_STATE spare) 2 1 = 0 then
    let s := (s.setRf (Reg.JT_STATE spare) 0 1 1).setRf (Reg.JT_STATE spare) 1 1 0
    let s := s.forEach (s.records failed) (fun s e =>
      let me := Eng.jet failed e.1
      let you := Eng.jet spare e.1
      let s := (s.setTask spare e.1 e.2).setTask failed e.1 {}
      let s := s.forEach (List.range 4) (fun s d =>
        let x := s.die d
        s.setDie d { x with
          xreqs := x.xreqs.map (fun r => { r with waiters := r.waiters.map (fun w => if w.eng = me then { w with eng := you } else w) }),
          xlate := x.xlate.map (fun y => { y with pins := y.pins.map (fun k => if k = 32 * failed + e.1 then 32 * spare + e.1 else k),
                                                  once := if y.once = some me then some you else y.once }) });
      { s with out := s.out.map (fun r => if r.purpose = .eng me then { r with purpose := .eng you } else r),
               ans := s.ans.map (fun a => if a.eng = me then { a with eng := you } else a) })
    ((s.syncJet failed).syncJet spare).raise 0x5202 (dieOfJet spare) [(1, failed), (1, spare)]
  else s

end Sys2Proof.Machine
end

