-- ==== Sys2Proof/Machine/Xlate.lean ====
section
/-!
DEFINITION. Translation (chapter 3): the translation caches, requests to the companion and their answers, timeouts,
invalidation; translated accesses of tasks and movers.
-/

namespace Sys2Proof.Machine

/-! ### Lookup (R70 to R72) -/

/-- Access kinds of a translation (Table 3-6). -/
def accRead : Nat := 0
def accWrite : Nat := 1
def accAtomic : Nat := 2
def accExec : Nat := 3

/-- The die of an issuer. -/
def Eng.die : Eng → Nat
  | .jet j _ => dieOfJet j
  | .qp t q _ => dieOfQp t q
  | .move p k => (p + k) % 4
  | .rlc d _ => d

/-- An entry serves an access: its tag, its sheet and the permission; an entry to be dropped serves its leg alone (R71,
R72, R81). -/
def XEntry.serves (x : XEntry) (tag : BitVec 16) (va access : Nat) (e : Eng) : Bool :=
  x.tag == tag && decide (x.sheet = va / 2 ^ x.size) && x.perm.getLsbD access && !x.drop
    && (match x.once with | none => true | some o => o == e)

/-- The global physical address an entry gives. -/
def XEntry.gpa (x : XEntry) (va : Nat) : Nat := x.base + va % 2 ^ x.size

/-- The lookup of a die's translation cache; a hit becomes the most recently used. -/
def State.xlookup (s : State) (d : Nat) (tag : BitVec 16) (va access : Nat) (e : Eng) : Option Nat × State :=
  let x := s.die d
  match x.xlate.find? (fun y => y.serves tag va access e) with
  | some y =>
    let rest := x.xlate.erase y
    (some (y.gpa va), s.setDie d { x with xlate := y :: rest })
  | none => (none, s)

/-- Entries of the die's cache in the set of a sheet. -/
def State.xmates (s : State) (d : Nat) (tag : BitVec 16) (sheet : Nat) : List XEntry :=
  let l := (s.die d).xlate.filter (fun e => e.once.isNone)
  if l.length < 8 then []
  else l.filter (fun e => Config.xlateSet e.tag.toNat e.sheet % 1024 == Config.xlateSet tag.toNat sheet % 1024)

/-- A translation installed: in a free way, or in place of the least recently used unpinned one; into a set whose ways are
all pinned it is not, and serves the accesses that wait for it alone (R71). -/
def State.xinstall (s : State) (d : Nat) (y : XEntry) (waiters : List Eng) : State :=
  let x := s.die d
  let same := x.xlate.filter (fun e => e.tag == y.tag && e.sheet == y.sheet && e.size == y.size && !e.drop && e.once.isNone)
  let keep := x.xlate.filter (fun e => !same.contains e)
  let pins := same.flatMap XEntry.pins
  let s := s.setDie d { x with xlate := keep }
  let mates := s.xmates d y.tag y.sheet
  if mates.length < 8 then s.setDie d { s.die d with xlate := { y with pins := pins } :: keep }
  else match (mates.filter (fun e => e.pins.isEmpty)).getLast? with
    | some v => s.setDie d { s.die d with xlate := { y with pins := pins } :: keep.erase v }
    | none => s.setDie d { s.die d with xlate := waiters.map (fun e => { y with once := some e }) ++ keep }

/-! ### Requests (R75, R76, R79) -/

/-- Requests outstanding on a die. -/
def State.xsent (s : State) (d : Nat) : Nat := ((s.die d).xreqs.filter (·.sent)).length

/-- A REQ_ID not outstanding on the device, from the die's counter on. -/
def freeIdGo (s : State) (d : Nat) : Nat → Nat → Nat
  | 0, n => n
  | fuel + 1, n =>
    let id := (4 * n + d) % 65536
    if (List.range 4).any (fun k => (s.die k).xreqs.any (fun r => r.sent && r.id == id)) then freeIdGo s d fuel (n + 1) else n

/-- A request goes to the companion (Table 3-6). -/
def State.xsend (s : State) (d : Nat) (r : XReq) : State :=
  let n := freeIdGo s d 1025 (s.die d).xnext
  let id := (4 * n + d) % 65536
  let r := { r with id := id, sent := true, sentAt := s.now }
  let x := s.die d
  let s := s.setDie d { x with xnext := n + 1, xreqs := x.xreqs ++ [r] }
  let w := [pack [(16, id), (16, r.tag.toNat), (2, r.access), (2, d), (7, r.jet), (1, bitN r.mover)],
            BitVec.ofNat 64 (r.va / 128 * 128), BitVec.ofNat 64 r.stamp, 0]
  s.toCompanion 2 { typ := 0xA0, aux := 1, data := lineOfWords w }

/-- Misses that wait for a request slot are sent in their order while the die has one (R75). -/
def xsendGo (d : Nat) : Nat → State → State
  | 0, s => s
  | fuel + 1, s =>
    if 256 ≤ s.xsent d then s
    else match (s.die d).xreqs.find? (fun r => !r.sent) with
      | none => s
      | some r => xsendGo d fuel ((s.setDie d { s.die d with xreqs := (s.die d).xreqs.erase r }).xsend d r)

def State.xsendWaiting (s : State) (d : Nat) : State := xsendGo d ((s.die d).xreqs.length) s

/-- The jet an issuer runs on; none for a mover. -/
def State.jetOfEng (s : State) : Eng → Option Nat
  | .jet j _ => some j
  | .qp t q i => s.jetOf t q i
  | _ => none

/-- A miss: it waits on the outstanding request of its tag and 32 MiB span, or becomes one (R75). -/
def State.xmiss (s : State) (d : Nat) (tag : BitVec 16) (va access : Nat) (e : Eng) : State :=
  let x := s.die d
  let w : XWaiter := { eng := e, access := access, va := va }
  match x.xreqs.find? (fun r => r.tag == tag && r.span == va / 2 ^ 25) with
  | some r =>
    if r.waiters.contains w then s
    else s.setDie d { x with xreqs := x.xreqs.map (fun y => if y = r then { y with waiters := y.waiters ++ [w] } else y) }
  | none =>
    let jet := s.jetOfEng e
    let r : XReq := { id := 0, die := d, tag := tag, span := va / 2 ^ 25, access := access, va := va, sentAt := s.now,
                      jet := jet.getD 0, mover := jet.isNone, stamp := s.edges, sent := false, waiters := [w] }
    (s.setDie d { x with xreqs := x.xreqs ++ [r] }).xsendWaiting d

/-- Translation of one access (R70 to R72, R75). -/
def translate (e : Eng) (tag : BitVec 16) (access va : Nat) : EngM Nat := fun s =>
  if 2 ^ 57 ≤ va then (.error (.fail 0x04 stNoParcel va 0), s)
  else match s.xlookup e.die tag va access e with
  | (some g, s) => (.ok g, s)
  | (none, s) => (.error .wait, s.xmiss e.die tag va access e)

/-! ### Answers (R77, R78) -/

/-- A waiting task or descriptor ends with a fault kind of Table 3-11. -/
def State.xfail (s : State) (w : XWaiter) (kind status : Nat) : State :=
  match w.eng with
  | .jet j r => s.endFault j r kind status w.va 0
  | .qp t q i => s.descFail t q i kind status w.va 0 (s.jetOf t q i)
  | _ => s

/-- A waiting task becomes ready; a descriptor resumes with its own command. -/
def State.xwake (s : State) (w : XWaiter) : State :=
  match w.eng with
  | .jet j r => if (s.task j r).cause = 1 then s.wake j r else s
  | _ => s

/-- A MAPPED answer is malformed (R78). -/
def xansBad (size : Nat) (base va : Nat) : Bool :=
  gpaVer base != 1 || base % 2 ^ size != 0 || decide (2 ^ 57 ≤ va)

/-- XANS. -/
def State.xanswer (s : State) (id : Nat) (result : Nat) (big : Bool) (perm : BitVec 4) (base : Nat) : State :=
  match (List.range 4).findSome? (fun d => (s.die d).xreqs.find? (fun r => r.sent && r.id == id)) with
  | none => s.bump Reg.GL_THOIT_COUNTS 0 16 1
  | some r =>
    let d := r.die
    let size := if big then 30 else 25
    let s := s.setDie d { s.die d with xreqs := (s.die d).xreqs.erase r }
    let s :=
      if result ≠ 0 ∨ xansBad size base r.va then s.forEach r.waiters (fun s w => s.xfail w 0x01 stNoParcel)
      else
        let y : XEntry := { die := d, tag := r.tag, sheet := r.va / 2 ^ size, size := size, base := base, perm := perm }
        let s := if perm.getLsbD r.access then s.xinstall d y (r.waiters.map (·.eng)) else s
        s.forEach r.waiters (fun s w => if perm.getLsbD w.access then s.xwake w else s.xfail w 0x02 stNoParcel)
    s.xsendWaiting d

/-- XLATE_TIMEOUT: the request is issued once more under a new REQ_ID, then its waiters end (R79). -/
def State.xtimeout (s : State) (id : Nat) : State :=
  match (List.range 4).findSome? (fun d => (s.die d).xreqs.find? (fun r => r.sent && r.id == id)) with
  | none => s
  | some r =>
    let d := r.die
    let s := s.atLeast (r.sentAt + 1000 * s.gzv 0x2030 0x01)
    let s := s.setDie d { s.die d with xreqs := (s.die d).xreqs.erase r }
    if r.reissued then (s.forEach r.waiters (fun s w => s.xfail w 0x03 stPending)).xsendWaiting d
    else s.xsend d { r with reissued := true }

/-! ### Invalidation (R80 to R82) -/

/-- An entry or a request of a span of virtual addresses matches a command word. -/
def State.xinvHits (s : State) (w : Word) (tag : BitVec 16) (lo hi : Nat) : Bool :=
  match field w 0 2 with
  | 1 => true
  | 2 => field w 16 16 == tag.toNat
  | 3 =>
    let a := (s.reg Reg.GL_XINV_VA).toNat / 2 ^ 25 * 2 ^ 25
    let n := max 1 (s.rf Reg.GL_XINV_LEN 0 32)
    field w 16 16 == tag.toNat && decide (lo < a + n * 2 ^ 25) && decide (a < hi)
  | _ => false

/-- Requests that match are stale: each is issued again under a new REQ_ID with its timeout afresh (R82). -/
def State.xstale (s : State) (d : Nat) (hit : XReq → Bool) : State :=
  let l := (s.die d).xreqs.filter (fun r => r.sent && hit r)
  s.forEach l (fun s r =>
    (s.setDie d { s.die d with xreqs := (s.die d).xreqs.erase r }).xsend d { r with reissued := false })

/-- The accesses under way that used an entry a command word matches (R81). -/
def State.invalOf (s : State) (w : Word) : Inval :=
  let hit (tag : BitVec 16) (va : Nat) : Bool := s.xinvHits w tag va (va + 1)
  { sent := (s.out.filter (fun r => match r.purpose with
      | .eng (.rlc _ _) => false
      | .eng _ => hit r.f.ctx r.va
      | _ => false)).map (fun r => (r.f.dst, r.f.ord, r.f.seq)),
    cached := s.tasks.flatMap (fun e => e.2.waits.filterMap (fun x => match x with
      | .rlcLoad k va _ => if hit e.2.ctx va then some (e.1, k) else none
      | .rlcStore k va _ _ _ => if hit e.2.ctx va then some (e.1, k) else none
      | .queued f va _ => if hit e.2.ctx va then some (e.1, (f.dst.toNat + 1) * 2 ^ 39 + f.line) else none
      | .own .. => none)) }

/-- One of those accesses has still to pass its home check: it is unanswered at another home, or waits here after RETRY, or waits for
the remote-line cache (R81). -/
def State.invalWaits (s : State) : Bool :=
  s.out.any (fun r => s.inval.sent.contains (r.f.dst, r.f.ord, r.f.seq) && (!s.isSelf r.f.dst || r.retryAt.isSome))
    || s.tasks.any (fun e => e.2.waits.any (fun x => match x with
      | .rlcLoad k _ _ | .rlcStore k _ _ _ _ => s.inval.cached.contains (e.1, k)
      | .queued f _ _ => s.inval.cached.contains (e.1, (f.dst.toNat + 1) * 2 ^ 39 + f.line)
      | .own .. => false))

/-- A write of GL_XINV_CMD: what matches is dropped, or marked where it is pinned; the command ends by XINV_DONE (R81). A request's
sheet size is not known before its answer: a RANGE matches it where it touches the 1 GiB around its address, so that no answer given before
is used after (R82; the spec does not say when it matches, notes assumption 67). -/
def State.xinvCommand (s : State) (w : Word) : State :=
  if field w 0 2 = 0 then s
  else s.command xinvRegs (fun s =>
    let s0 := s
    let s := s.dropXlate (fun e => s0.xinvHits w e.tag (e.sheet * 2 ^ e.size) ((e.sheet + 1) * 2 ^ e.size))
    let s := s.forEach (List.range 4) (fun s d =>
      s.xstale d (fun r => s0.xinvHits w r.tag (r.va / 2 ^ 30 * 2 ^ 30) ((r.va / 2 ^ 30 + 1) * 2 ^ 30)))
    ({ s with inval := s0.invalOf w } : State).keepBusy xinvRegs w)

/-- DONE_COUNT advances; this status register has no RESULT (Table 3-8). -/
def State.xinvDone (s : State) : State :=
  if s.busy xinvRegs && !(List.range 4).any (fun d => (s.die d).xlate.any (·.drop)) && !s.invalWaits then
    let v := withField (withField (s.reg Reg.GL_XINV_STATUS) 0 1 0) 32 32 (s.rf Reg.GL_XINV_STATUS 32 32 + 1)
    { s.setReg Reg.GL_XINV_STATUS v with running := merase s.running Reg.GL_XINV_CMD, inval := {} }
  else s

/-- A fenced tag's requests are retired: their answers are discarded (R85, R324). -/
def State.xretire (s : State) (tag : BitVec 16) : State :=
  s.forEach (List.range 4) (fun s d =>
    (s.setDie d { s.die d with xreqs := (s.die d).xreqs.filter (fun r => r.tag != tag) }).xsendWaiting d)

/-! ### Translated accesses of descriptors -/

/-- The line at a virtual address, by ReadOnce (R319). -/
def readVa (e : Eng) (tag : BitVec 16) (va : Nat) : EngM Line := do
  let g ← translate e tag accRead va
  engRead e e.die tag va g

/-- A write of one line at a virtual address. f gives type, flags, data and byte-enables. -/
def writeVa (e : Eng) (tag : BitVec 16) (va : Nat) (f : Frame) : EngM Unit := do
  let g ← translate e tag accWrite va
  let h := engFrame 0 tag g
  engIssue e e.die { f with ver := h.ver, ctx := tag, dst := h.dst, addr := h.addr } va

/-- Virtual addresses of the lines that n bytes from va touch. -/
def linesOfVa (va n : Nat) : List Nat :=
  if n = 0 then [] else (List.range ((va + n - 1) / 128 - va / 128 + 1)).map (fun i => (va / 128 + i) * 128)

/-- n bytes at a virtual address. -/
def readBytes (e : Eng) (tag : BitVec 16) (va n : Nat) : EngM (List Byte) := do
  let ls ← engAll (readVa e tag) (linesOfVa va n)
  pure (((ls.flatMap (fun l => lineBytes l 0 128)).drop (va % 128)).take n)

/-- Every write of a range translated before any is issued. -/
def translateAll (e : Eng) (tag : BitVec 16) (access : Nat) (l : List Nat) : EngM Unit := do
  let _ ← engAll (translate e tag access) l
  pure ()

end Sys2Proof.Machine
end

