-- ==== Sys2Proof/Machine/Mover.lean ====
section
/-!
DEFINITION. Mover descriptors (R319): NOP, COPY and FILL; and the placing of TASK descriptors (R354, R355).
-/

namespace Sys2Proof.Machine

/-- NOP completes with RESULT zero. -/
def State.descNop (s : State) (t q : Nat) : State :=
  match s.nextDesc t q 0x01 with
  | some d => s.descDone t q d.index 0 0
  | none => s

/-- The write of the bytes of a line that a range from dst covers: ordered, gauge-tagged where asked (R319, R217). -/
def moverFrame (dst len va : Nat) (bytes : List Byte) (gauge : Option Nat) : Frame :=
  let lo := max dst va
  let hi := min (dst + len) (va + 128)
  let mine := (bytes.drop (lo - dst)).take (hi - lo)
  let full := hi - lo == 128
  let mask : Mask := if full then BitVec.allOnes 128 else (BitVec.ofNat 128 (2 ^ (hi - lo) - 1)) <<< (lo - va)
  { typ := match gauge with
      | none => if full then 0x18 else 0x19
      | some _ => if full then 0x1A else 0x1B,
    ord := true, gauge := match gauge with | none => 0 | some g => BitVec.ofNat 8 g,
    data := lineOfBytes mine <<< (8 * (lo - va)), mask := mask }

/-- Every write of a range, the last line as a seal store once every other has gone to the same home, or has completed
where they go to several (R319, R221). stage 1: all but the last have been issued. -/
def moverWrites (e : Eng) (tag : BitVec 16) (d : Desc) (t q dst len : Nat) (bytes : List Byte) : EngM Unit := do
  let gauge := if bf d.body 232 232 = 1 then some (bf d.body 231 224) else none
  let sealed := bf d.body 233 233 = 1
  let lines := linesOfVa dst len
  let last := lines.getLast?.getD 0
  let others := if sealed then lines.dropLast else lines
  if d.stage = 0 then
    engEach (fun va => writeVa e tag va (moverFrame dst len va bytes gauge)) others
    engDo (fun s => s.modDesc t q d.index (fun d => { d with stage := 1 }))
  if sealed then
    let g ← translate e tag accWrite last
    let s ← engGet
    if s.out.any (fun r => r.purpose == .eng e && r.f.dst != gpaDev g) then engWait
    else writeVa e tag last { moverFrame dst len last bytes gauge with isSeal := true }

/-- The bytes of a FILL. -/
def fillBytes (pattern : Nat) (n : Nat) : List Byte := (List.replicate (n / 8) (bytesOfNat 8 pattern)).flatten

/-- COPY: the source is read, every destination sheet translated, then the writes go out. -/
def copyOp (t q : Nat) (d : Desc) (tag : BitVec 16) : EngM Unit := do
  let e := qpEng t q d.index
  let dst := bf d.body 191 128
  let len := bf d.body 223 192
  let bytes ← readBytes e tag (bf d.body 127 64) len
  translateAll e tag accWrite (linesOfVa dst len)
  moverWrites e tag d t q dst len bytes

def State.copy (s : State) (t q : Nat) : State :=
  match s.nextDesc t q 0x02 with
  | none => s
  | some d =>
    s.runDesc t q d none (copyOp t q d (s.qpCtx t q)) (fun s _ => s.descWriting t q d.index (BitVec.ofNat 64 (bf d.body 223 192)) 0)

/-- FILL: PATTERN repeated over the destination. -/
def fillOp (t q : Nat) (d : Desc) (tag : BitVec 16) : EngM Unit := do
  let e := qpEng t q d.index
  let dst := bf d.body 191 128
  let len := bf d.body 223 192
  translateAll e tag accWrite (linesOfVa dst len)
  moverWrites e tag d t q dst len (fillBytes (bf d.body 127 64) len)

def State.fill (s : State) (t q : Nat) : State :=
  match s.nextDesc t q 0x03 with
  | none => s
  | some d =>
    s.runDesc t q d none (fillOp t q d (s.qpCtx t q)) (fun s _ => s.descWriting t q d.index (BitVec.ofNat 64 (bf d.body 223 192)) 0)

/-- TASK: the task takes a record of its jet; it waits while all 17 are in use, and fails where the jet is not enabled. -/
def State.taskDesc (s : State) (t q : Nat) : State :=
  match (s.qp t q).descs.find? (fun d => opOf d.body == 0x08 && d.phase == .fetched) with
  | none => s
  | some d =>
    if (s.qpParked t q).isSome then s
    else
      let b := d.body
      let any := bf b 391 391 = 1
      let named := bf b 390 384
      let jet := if any then s.anyJet (dieOfQp t q) else if s.jetEnabled named then some named else none
      match jet with
      | none => s.descFail t q d.index 0x14 stTargetLost 0 0 (some (if any then 26 * dieOfQp t q else named))
      | some j =>
        match s.freeSlot j with
        | none => s
        | some r =>
          let g : JRegs := {}
          let g := (((g.setX 1 (BitVec.ofNat 64 (bf b 191 128))).setX 2 (BitVec.ofNat 64 (bf b 255 192))).setX 3
            (BitVec.ofNat 64 (bf b 319 256))).setX 4 (BitVec.ofNat 64 (bf b 383 320))
          let s := s.modDesc t q d.index (fun d => { d with phase := .working })
          s.placeTask j r { tenant := t, ctx := s.qpCtx t q, qp := q, desc := d.index, pages := bf b 398 392,
                            legVa := bf b 127 64, regs := g }

end Sys2Proof.Machine
end

