-- ==== Sys2Proof/Machine/Float.lean ====
section
/-!
DEFINITION. The number formats of the jets (R337 to R339): exact values, rounding to nearest with ties to even, conversions, and
the integers. Values are kept exact (sign, magnitude, power of two) between decoding and rounding.
-/

namespace Sys2Proof.Machine

/-- A value: NaN, an infinity, or (-1)^neg * m * 2^e. signalling marks a signalling NaN of IEEE 754. -/
inductive FV where
  | nan (signalling : Bool)
  | inf (neg : Bool)
  | num (neg : Bool) (m : Nat) (e : Int)
deriving DecidableEq, Repr

/-- What an operation flags: FPFLAGS of Table 13-1, INVALID in bit 0, OVERFLOW in bit 1, SATURATE in bit 2 (notes assumption
20). -/
abbrev Flags := BitVec 3

def flInvalid : Flags := 1
def flOverflow : Flags := 2
def flSaturate : Flags := 4

/-- A floating-point format: exponent and fraction bits, bias, and what its top exponent code holds: 0 infinities and NaN
(IEEE 754), 1 NaN alone at the all-ones code (E4M3), 2 neither. -/
structure FFmt where
  ebits : Nat
  mbits : Nat
  bias : Nat
  top : Nat
deriving DecidableEq, Repr

def fp32 : FFmt := ⟨8, 23, 127, 0⟩
def bf16 : FFmt := ⟨8, 7, 127, 0⟩
def fp16 : FFmt := ⟨5, 10, 15, 0⟩
def e4m3 : FFmt := ⟨4, 3, 7, 1⟩
def e5m2 : FFmt := ⟨5, 2, 15, 0⟩
def e3m2 : FFmt := ⟨3, 2, 3, 2⟩
def e2m3 : FFmt := ⟨2, 3, 1, 2⟩
def e2m1 : FFmt := ⟨2, 1, 1, 2⟩

/-- The element format of a code of Table 13-2, where it is a floating-point one. -/
def floatOf : Nat → Option FFmt
  | 0x0 => some fp32 | 0x1 => some bf16 | 0x2 => some fp16 | 0x3 => some e4m3 | 0x4 => some e5m2
  | 0x7 => some e4m3 | 0x8 => some e5m2 | 0x9 => some e3m2 | 0xA => some e2m3 | 0xB => some e2m1
  | _ => none

/-- Bits of an element in a register. -/
def elemBits (fmt : Nat) : Nat :=
  if fmt = 0 ∨ fmt = 6 then 32 else if fmt = 1 ∨ fmt = 2 then 16 else if fmt = 0xB then 4 else 8

/-- Lanes of a vector register. -/
def lanesOf (fmt : Nat) : Nat := 2048 / elemBits fmt

/-- A Microscaling format (R339). -/
def isMx (fmt : Nat) : Bool := decide (7 ≤ fmt) && decide (fmt ≤ 0xB)

/-! ### Decoding and rounding -/

/-- The value of an encoding. -/
def FFmt.decode (f : FFmt) (b : Nat) : FV :=
  let neg := b / 2 ^ (f.ebits + f.mbits) % 2 == 1
  let e := b / 2 ^ f.mbits % 2 ^ f.ebits
  let m := b % 2 ^ f.mbits
  let last := 2 ^ f.ebits - 1
  if f.top = 0 ∧ e = last then
    if m = 0 then .inf neg else .nan (m / 2 ^ (f.mbits - 1) == 0)
  else if f.top = 1 ∧ e = last ∧ m = 2 ^ f.mbits - 1 then .nan false
  else if e = 0 then .num neg m (1 - (f.bias : Int) - f.mbits)
  else .num neg (2 ^ f.mbits + m) ((e : Int) - f.bias - f.mbits)

/-- The encoding of the default quiet NaN. -/
def FFmt.nan (f : FFmt) : Nat :=
  if f.top = 0 then (2 ^ f.ebits - 1) * 2 ^ f.mbits + 2 ^ (f.mbits - 1)
  else if f.top = 1 then 2 ^ (f.ebits + f.mbits) - 1
  else 0

/-- The magnitude code of the largest finite value. -/
def FFmt.maxCode (f : FFmt) : Nat :=
  if f.top = 0 then (2 ^ f.ebits - 1) * 2 ^ f.mbits - 1
  else if f.top = 1 then 2 ^ (f.ebits + f.mbits) - 2
  else 2 ^ (f.ebits + f.mbits) - 1

def FFmt.sign (f : FFmt) (neg : Bool) : Nat := if neg then 2 ^ (f.ebits + f.mbits) else 0

/-- m * 2^d rounded to an integer, ties to even. -/
def roundShift (m : Nat) (d : Int) : Nat :=
  if 0 ≤ d then m * 2 ^ d.toNat
  else
    let k := (-d).toNat
    let q := m / 2 ^ k
    let r := m % 2 ^ k
    let half := 2 ^ (k - 1)
    if half < r ∨ (r = half ∧ q % 2 = 1) then q + 1 else q

/-- The same of a signed value. -/
def roundInt (neg : Bool) (m : Nat) (d : Int) : Int :=
  let n := roundShift m d
  if neg then -(n : Int) else n

/-- The magnitude code of a value rounded in a format with an unbounded exponent range, which orders as the value does. -/
def FFmt.magnitude (f : FFmt) (m : Nat) (e : Int) : Nat :=
  if m = 0 then 0
  else
    let lead : Int := e + Nat.log2 m
    let least : Int := 1 - (f.bias : Int)
    let ex := if lead < least then least else lead
    let q := roundShift m (e - (ex - f.mbits))
    -- q below 2^mbits is a subnormal; q of 2^(mbits+1) carries into the exponent
    (ex - least).toNat * 2 ^ f.mbits + q

/-- A value rounded to a format (R338). saturate: beyond the largest finite value the format's largest finite value results
and SATURATE is set, else an infinity and OVERFLOW. -/
def FFmt.round (f : FFmt) (saturate : Bool) : FV → Nat × Flags
  | .nan s => if f.top = 2 then (0, flInvalid) else (f.nan, if s then flInvalid else 0)
  | .inf neg =>
    if f.top = 0 then (f.sign neg + (2 ^ f.ebits - 1) * 2 ^ f.mbits, 0) else (f.sign neg + f.maxCode, flSaturate)
  | .num neg m e =>
    let c := f.magnitude m e
    if c ≤ f.maxCode then (f.sign neg + c, 0)
    else if saturate then (f.sign neg + f.maxCode, flSaturate)
    else (f.sign neg + (2 ^ f.ebits - 1) * 2 ^ f.mbits, flOverflow)

/-! ### Exact arithmetic -/

/-- The signed magnitude at power of two e0, at or below the value's own. -/
def scaledTo (neg : Bool) (m : Nat) (e e0 : Int) : Int :=
  let n : Int := (m * 2 ^ (e - e0).toNat : Nat)
  if neg then -n else n

/-- The exact sum; a zero sum is negative only where both are. -/
def FV.add : FV → FV → FV × Flags
  | .nan s, .nan t => (.nan false, if s || t then flInvalid else 0)
  | .nan s, _ => (.nan false, if s then flInvalid else 0)
  | _, .nan s => (.nan false, if s then flInvalid else 0)
  | .inf a, .inf b => if a = b then (.inf a, 0) else (.nan false, flInvalid)
  | .inf a, _ => (.inf a, 0)
  | _, .inf b => (.inf b, 0)
  | .num a m e, .num b n g =>
    let e0 := min e g
    let x := scaledTo a m e e0 + scaledTo b n g e0
    if x = 0 then (.num (a && b) 0 e0, 0) else (.num (decide (x < 0)) x.natAbs e0, 0)

/-- The exact product. -/
def FV.mul : FV → FV → FV × Flags
  | .nan s, .nan t => (.nan false, if s || t then flInvalid else 0)
  | .nan s, _ => (.nan false, if s then flInvalid else 0)
  | _, .nan s => (.nan false, if s then flInvalid else 0)
  | .inf a, .inf b => (.inf (a != b), 0)
  | .inf a, .num b m _ => if m = 0 then (.nan false, flInvalid) else (.inf (a != b), 0)
  | .num a m _, .inf b => if m = 0 then (.nan false, flInvalid) else (.inf (a != b), 0)
  | .num a m e, .num b n g => (.num (a != b) (m * n) (e + g), 0)

/-- The integer square root, by bits from 2^k down. -/
def sqrtGo (n : Nat) : Nat → Nat → Nat
  | 0, a => a
  | k + 1, a => let b := a + 2 ^ k; sqrtGo n k (if b * b ≤ n then b else a)

def natSqrt (n : Nat) : Nat := sqrtGo n (Nat.log2 n / 2 + 1) 0

/-- The square root, exact or with a sticky bit far below any format's last place. -/
def FV.sqrt : FV → FV × Flags
  | .nan s => (.nan false, if s then flInvalid else 0)
  | .inf neg => if neg then (.nan false, flInvalid) else (.inf false, 0)
  | .num neg m e =>
    if m = 0 then (.num neg 0 e, 0)
    else if neg then (.nan false, flInvalid)
    else
      let k : Nat := 128 + (e % 2).toNat
      let x := m * 2 ^ k
      let r := natSqrt x
      (.num false (2 * r + (if r * r = x then 0 else 1)) ((e - k) / 2 - 1), 0)

/-- The quotient, exact or with a sticky bit far below any format's last place; a division by zero is infinite. -/
def FV.div : FV → FV → FV × Flags
  | .nan s, .nan t => (.nan false, if s || t then flInvalid else 0)
  | .nan s, _ => (.nan false, if s then flInvalid else 0)
  | _, .nan s => (.nan false, if s then flInvalid else 0)
  | .inf _, .inf _ => (.nan false, flInvalid)
  | .inf a, .num b _ _ => (.inf (a != b), 0)
  | .num a _ _, .inf b => (.num (a != b) 0 0, 0)
  | .num a m e, .num b n g =>
    if n = 0 then (if m = 0 then (.nan false, flInvalid) else (.inf (a != b), 0))
    else
      let k := 128 + Nat.log2 n
      let q := m * 2 ^ k / n
      (.num (a != b) (2 * q + (if m * 2 ^ k % n = 0 then 0 else 1)) (e - g - k - 1), 0)

/-- The negated value. -/
def FV.neg : FV → FV
  | .nan s => .nan s
  | .inf a => .inf (!a)
  | .num a m e => .num (!a) m e

/-- The value times 2^k. -/
def FV.scale (k : Int) : FV → FV
  | .num a m e => .num a m (e + k)
  | x => x

def FV.isNan : FV → Bool
  | .nan _ => true
  | _ => false

def FV.isSignalling : FV → Bool
  | .nan s => s
  | _ => false

/-- Numeric order of two values that are no NaN. -/
def FV.cmp : FV → FV → Ordering
  | .inf a, .inf b => if a = b then .eq else if a then .lt else .gt
  | .inf a, _ => if a then .lt else .gt
  | _, .inf b => if b then .gt else .lt
  | .num a m e, .num b n g => compare (scaledTo a m e (min e g)) (scaledTo b n g (min e g))
  | _, _ => .eq

/-! ### Integers -/

/-- The value of a two's complement element. -/
def intOf (bits x : Nat) : Int := if x < 2 ^ (bits - 1) then (x : Int) else (x : Int) - 2 ^ bits

/-- An integer saturated to a width (R338). -/
def satInt (bits : Nat) (n : Int) : Nat × Flags :=
  let hi : Int := 2 ^ (bits - 1) - 1
  let lo : Int := -(2 ^ (bits - 1))
  if hi < n then (hi.toNat, flSaturate)
  else if n < lo then (2 ^ (bits - 1), flSaturate)
  else ((n % 2 ^ bits).toNat, 0)

/-- An integer as an exact value. -/
def FV.ofInt (n : Int) : FV := .num (decide (n < 0)) n.natAbs 0

/-- The exact value of an element of any format. -/
def valueOf (fmt x : Nat) : FV :=
  match floatOf fmt with
  | some f => f.decode x
  | none => FV.ofInt (intOf (elemBits fmt) x)

/-- A conversion to an 8-, 6- or 4-bit format saturates; so does one to an integer (R338). -/
def saturates (fmt : Nat) : Bool := decide (elemBits fmt < 16) || fmt == 6

/-- A value rounded into a format. -/
def roundTo (fmt : Nat) (v : FV) : Nat × Flags :=
  match floatOf fmt with
  | some f => f.round (saturates fmt) v
  | none =>
    let bits := elemBits fmt
    match v with
    | .nan _ => (0, flInvalid)
    | .inf neg => if neg then (2 ^ (bits - 1), flSaturate) else (2 ^ (bits - 1) - 1, flSaturate)
    | .num neg m e => satInt bits (roundInt neg m e)

/-- A result rounded into a format, with the flags of the operation. -/
def rounded (fmt : Nat) (v : FV × Flags) : Nat × Flags :=
  let (x, fl) := roundTo fmt v.1
  (x, fl ||| v.2)

/-! ### The exact accumulator (R342 to R344) -/

/-- The integer an addend becomes; none where it is skipped. -/
def addend (scale : Int) : FV → Option (Int × Bool)
  | .num neg m e =>
    let n := roundInt neg m (e - scale)
    if (2 : Int) ^ 127 ≤ n then some (2 ^ 127 - 1, true)
    else if n ≤ -(2 : Int) ^ 127 then some (-(2 ^ 127 - 1), true)
    else some (n, false)
  | _ => none

/-- The register value of W: clamped to 128 bits. -/
def clamp128 (w : Int) : Int × Bool :=
  if (2 : Int) ^ 127 - 1 < w then (2 ^ 127 - 1, true)
  else if w < -(2 : Int) ^ 127 then (-(2 ^ 127), true)
  else (w, false)

/-- W as 192 bits hold it. -/
def wrap192 (w : Int) : Int :=
  let m := w % 2 ^ 192
  if m < 2 ^ 191 then m else m - 2 ^ 192

/-- The register value times 2^scale rounded to FP32 or BF16; beyond the largest finite value it is that value, and SAT (R344). -/
def accConvert (fmt : Nat) (w scale : Int) : Nat × Bool :=
  let (v, out) := clamp128 w
  let (x, fl) := match floatOf fmt with
    | some f => f.round true (.num (decide (v < 0)) v.natAbs scale)
    | none => (0, 0)
  (x, out || fl != 0)

end Sys2Proof.Machine
end

