-- ==== Sys2Proof/Machine/Bundle.lean ====
section
/-!
DEFINITION. Bundles of the jets (R345, Tables 13-4 and 13-5): the bits of a slot's instruction and back, and what makes a bundle
refused.
-/

namespace Sys2Proof.Machine

/-! ### The slots of a bundle -/

def memorySlot (b : BitVec 256) : BitVec 64 := b.setWidth 64
def scalarSlot (b : BitVec 256) : BitVec 64 := (b >>> 64).setWidth 64
def vectorSlot (b : BitVec 256) : BitVec 96 := (b >>> 128).setWidth 96
def controlSlot (b : BitVec 256) : BitVec 32 := (b >>> 224).setWidth 32

/-- OP of a slot: its low eight bits, 0x00 for NOP. -/
def slotOp {w : Nat} (v : BitVec w) : Nat := bitsN v 0 8

/-- A slot's fields put together, low end first. -/
def slotBits (w : Nat) (l : List (Nat × Nat)) : BitVec w := BitVec.ofNat w (packNat l)

/-- The bits of a memory-slot instruction. -/
def memoryBits (op : Nat) (m : MemSlot) : BitVec 64 :=
  slotBits 64 [(8, op), (5, m.a.toNat), (5, m.b.toNat), (5, m.c.toNat), (5, m.d.toNat), (4, m.f.toNat), (32, m.off.toNat)]

/-- The fields of a memory slot. -/
def memoryFields (v : BitVec 64) : MemSlot :=
  { a := BitVec.ofNat 5 (bitsN v 8 5), b := BitVec.ofNat 5 (bitsN v 13 5), c := BitVec.ofNat 5 (bitsN v 18 5),
    d := BitVec.ofNat 5 (bitsN v 23 5), f := BitVec.ofNat 4 (bitsN v 28 4), off := BitVec.ofNat 32 (bitsN v 32 32) }

/-- The bits of a scalar-slot instruction. -/
def scalarBits (op : Nat) (f : ScalarSlot) : BitVec 64 :=
  slotBits 64 [(8, op), (5, f.d.toNat), (5, f.a.toNat), (5, f.b.toNat), (1, bitN f.i), (8, f.rsv.toNat), (32, f.imm.toNat)]

/-- The fields of a scalar slot. -/
def scalarFields (v : BitVec 64) : ScalarSlot :=
  { d := BitVec.ofNat 5 (bitsN v 8 5), a := BitVec.ofNat 5 (bitsN v 13 5), b := BitVec.ofNat 5 (bitsN v 18 5),
    i := bitsN v 23 1 == 1, rsv := BitVec.ofNat 8 (bitsN v 24 8), imm := BitVec.ofNat 32 (bitsN v 32 32) }

/-- The bits of a vector-slot instruction. -/
def vectorBits (op : Nat) (f : VectorSlot) : BitVec 96 :=
  slotBits 96 [(8, op), (4, f.fmt.toNat), (5, f.vd.toNat), (5, f.va.toNat), (5, f.vb.toNat), (5, f.vc.toNat),
    (3, f.mask.toNat), (6, f.acc.toNat), (23, f.rsv.toNat), (32, f.imm.toNat)]

/-- The fields of a vector slot. -/
def vectorFields (v : BitVec 96) : VectorSlot :=
  { fmt := BitVec.ofNat 4 (bitsN v 8 4), vd := BitVec.ofNat 5 (bitsN v 12 5), va := BitVec.ofNat 5 (bitsN v 17 5),
    vb := BitVec.ofNat 5 (bitsN v 22 5), vc := BitVec.ofNat 5 (bitsN v 27 5), mask := BitVec.ofNat 3 (bitsN v 32 3),
    acc := BitVec.ofNat 6 (bitsN v 35 6), rsv := BitVec.ofNat 23 (bitsN v 41 23), imm := BitVec.ofNat 32 (bitsN v 64 32) }

/-- The bits of a control-slot instruction. -/
def controlBits (op : Nat) (f : ControlSlot) : BitVec 32 :=
  slotBits 32 [(8, op), (5, f.x.toNat), (11, f.target.toNat), (8, f.per.toNat)]

/-- The fields of a control slot. -/
def controlFields (v : BitVec 32) : ControlSlot :=
  { x := BitVec.ofNat 5 (bitsN v 8 5), target := BitVec.ofNat 11 (bitsN v 13 11), per := BitVec.ofNat 8 (bitsN v 24 8) }

/-! ### Opcodes (Tables 13-6 to 13-9) -/

/-- Memory operations an exact leg may hold, those an open leg may, and both. -/
def memExact : List Nat := [0x01, 0x02]
def memOpen : List Nat := [0x08, 0x09, 0x0A, 0x0B, 0x0C, 0x10, 0x11, 0x12]
def memBoth : List Nat := [0x20, 0x21, 0x22, 0x23, 0x24, 0x25, 0x26]

/-- Line operations: those of the memory slot that address memory (R346). -/
def lineOp (op : Nat) : Bool := memExact.contains op || memOpen.contains op

/-- The memory slot is refused: a reserved opcode, one its leg's kind may not hold, a FETCHG of more than 32 lines a row. -/
def memorySlotBad (exact : Bool) (v : BitVec 64) : Bool :=
  let op := slotOp v
  op != 0 && (!(memBoth.contains op || (if exact then memExact.contains op else memOpen.contains op))
    || (op == 0x11 && decide (5 < (memoryFields v).f.toNat)))

/-- The scalar slot is refused: a reserved opcode, a reserved field not zero. -/
def scalarSlotBad (v : BitVec 64) : Bool :=
  let op := slotOp v
  op != 0 && (decide (0x16 < op) || op == 0x0F || (scalarFields v).rsv != 0)

/-- The operations that read operands in FMT, whose MX scales VC then names (R339, notes assumption 21). -/
def readsFmt (op : Nat) : Bool := decide (op ≤ 0x0E) || op == 0x19 || op == 0x1A

/-- Formats an operation does not take (Table 13-8, R340, R343, R344, notes assumption 21). -/
def fmtBad (op fmt : Nat) : Bool :=
  decide (0xC ≤ fmt)
    || (decide (1 ≤ op ∧ op ≤ 3) && !([0, 1, 2, 5, 6].contains fmt))
    || (op == 0x07 && (fmt == 0 || fmt == 6))
    || ((op == 0x19 || op == 0x1A) && !([0, 1, 2, 5].contains fmt))
    || (op == 0x1B && !(fmt == 0 || fmt == 1))

/-- The vector slot is refused: a reserved opcode or format, a reserved field not zero, an illegal IMM or VC (R339, R341,
R345, Table 13-14). -/
def vectorSlotBad (v : BitVec 96) : Bool :=
  let op := slotOp v
  let f := vectorFields v
  let fmt := f.fmt.toNat
  let vc := f.vc.toNat
  let imm := f.imm.toNat
  op != 0 &&
   ((decide (0x11 < op) && !(decide (0x18 ≤ op) && decide (op ≤ 0x1B))) || f.rsv != 0 || fmtBad op fmt
    || (readsFmt op && isMx fmt && (vc % 2 != 0 || decide (6 < vc)))
    || (op == 0x08 && (decide (0xC ≤ imm % 16) || (isMx (imm % 16) && decide (7 < vc))))
    || (op == 0x0B && decide (3 < imm / 8 % 8))
    || (op == 0x0E && imm % 4 == 3)
    || (op == 0x10 && (imm % 32 == 0 || decide (16 < imm % 32)))
    || (op == 0x11 && decide (7 < vc))
    || (op == 0x18 && decide (63 < f.acc.toNat + imm % 64)))

/-- The control slot is refused: a reserved opcode or NEXT, one its leg's kind may not hold. -/
def controlSlotBad (exact : Bool) (v : BitVec 32) : Bool :=
  let op := slotOp v
  op != 0 && (!([0x01, 0x02, 0x03, 0x04, 0x08, 0x09, 0x0A].contains op) || (exact && (op == 0x09 || op == 0x0A))
    || (op == 0x08 && bitsN v 25 2 == 3))

/-- A bundle is refused with LEG_FORM (R345, R349). -/
def bundleBad (exact : Bool) (b : BitVec 256) : Bool :=
  memorySlotBad exact (memorySlot b) || scalarSlotBad (scalarSlot b) || vectorSlotBad (vectorSlot b)
    || controlSlotBad exact (controlSlot b)

/-- Vector registers a bundle reads or writes. -/
def bundleVregs (b : BitVec 256) : List Nat :=
  let m := memoryFields (memorySlot b)
  let mo := slotOp (memorySlot b)
  let c := scalarFields (scalarSlot b)
  let co := slotOp (scalarSlot b)
  let v := vectorFields (vectorSlot b)
  let vo := slotOp (vectorSlot b)
  (if [0x01, 0x02, 0x08, 0x09, 0x0A, 0x0B, 0x0C, 0x20, 0x21, 0x22, 0x23].contains mo then [m.b.toNat] else [])
    ++ (if [0x11, 0x22, 0x23].contains mo then [m.d.toNat] else [])
    ++ (if co = 0x12 then [c.a.toNat] else if co = 0x13 then [c.d.toNat] else [])
    ++ (if [1, 2, 3, 4, 5, 6, 8, 9, 0xA, 0xC, 0xD, 0xE, 0xF, 0x10, 0x1B].contains vo then [v.vd.toNat] else [])
    ++ (if vo = 0 ∨ vo = 0x0F ∨ vo = 0x18 ∨ vo = 0x1B then [] else [v.va.toNat])
    ++ (if [1, 2, 3, 4, 5, 6, 7, 0xB, 0xC, 0xD].contains vo then [v.vb.toNat] else [])
    ++ (if vo = 0x04 ∨ vo = 0x07 then [v.vc.toNat] else [])

end Sys2Proof.Machine
end

