-- ==== Sys2Proof/Machine/Vector.lean ====
section
/-!
DEFINITION. What a vector-slot instruction computes (Table 13-8, R338 to R344): the results of each lane, the flags, the masks, the
accumulators. Where the spec states no value, the lane takes the free value it is given (notes assumption 22).
-/

namespace Sys2Proof.Machine

/-! ### Lanes -/

/-- The lanes of a vector register, each of the given bits. -/
def lanes (bits : Nat) (v : BitVec 2048) : List Nat :=
  let x := v.toNat
  (List.range (2048 / bits)).map (fun i => x / 2 ^ (bits * i) % 2 ^ bits)

/-- A number of elements put together, the first lowest. -/
def joinLanes (bits : Nat) : List Nat → Nat
  | [] => 0
  | x :: rest => x + 2 ^ bits * joinLanes bits rest

/-- A vector register of lanes. -/
def ofLanes (bits : Nat) (l : List Nat) : BitVec 2048 := BitVec.ofNat 2048 (joinLanes bits l)

/-- Lane i of the operation's mask is set. -/
def laneActive (f : VectorSlot) (g : JRegs) (i : Nat) : Bool := (g.getVm f.mask.toNat).getLsbD i

/-- The bits of the active lanes. -/
def activeBits (f : VectorSlot) (g : JRegs) (bits : Nat) : BitVec 2048 :=
  ofLanes bits ((List.range (2048 / bits)).map (fun i => if laneActive f g i then 2 ^ bits - 1 else 0))

/-- The scale of a block of 32 elements (R339). -/
def scaleAt (ms : BitVec 128) (block : Nat) : Nat := bitsN ms (8 * block) 8

/-- The value of an element, with its block's scale where the format is an MX one; a NaN scale makes it NaN. -/
def elementValue (fmt : Nat) (ms : BitVec 128) (i x : Nat) : FV × Flags :=
  if isMx fmt then
    let e := scaleAt ms (i / 32)
    if e = 255 then (.nan false, flInvalid) else ((valueOf fmt x).scale ((e : Int) - 127), 0)
  else (valueOf fmt x, 0)

/-- What an instruction leaves: its results with the latency of each, and its flags. -/
structure VRes where
  dests : List (JDest × Nat) := []
  flags : Flags := 0

/-- Results of lanes with their flags, those of inactive lanes left out. -/
def laneFlags (f : VectorSlot) (g : JRegs) (l : List (Nat × Flags)) : Flags :=
  ((List.range l.length).zip l).foldl (fun a e => if laneActive f g e.1 then a ||| e.2.2 else a) 0

/-- A vector register written in its active lanes. -/
def vdResult (f : VectorSlot) (g : JRegs) (bits lat : Nat) (l : List (Nat × Flags)) : VRes :=
  { dests := [(.v f.vd.toNat (ofLanes bits (l.map (·.1))) (activeBits f g bits), lat)], flags := laneFlags f g l }

/-! ### Lane operations -/

/-- Operations lane by lane of two or three registers. -/
def mapLanes (fmt : Nat) (a b : BitVec 2048) (h : Nat → Nat → Nat → Nat × Flags) : List (Nat × Flags) :=
  let bits := elemBits fmt
  ((List.range (lanesOf fmt)).zip ((lanes bits a).zip (lanes bits b))).map (fun e => h e.1 e.2.1 e.2.2)

/-- The smaller or larger of two elements; free where one is NaN or both are zeros of unlike sign. -/
def pickLane (fmt : Nat) (least : Bool) (free x y : Nat) : Nat × Flags :=
  let u := valueOf fmt x
  let v := valueOf fmt y
  if u.isNan || v.isNan then (free % 2 ^ elemBits fmt, if u.isSignalling || v.isSignalling then flInvalid else 0)
  else match u.cmp v with
    | .eq => (if x = y ∨ free % 2 = 0 then x else y, 0)
    | .lt => (if least then x else y, 0)
    | .gt => (if least then y else x, 0)

/-- A comparison of VCMP (Table 13-8). -/
def compareLane (k : Nat) (u v : FV) : Bool × Flags :=
  let un := u.isNan || v.isNan
  let sig := u.isSignalling || v.isSignalling
  let o := u.cmp v
  match k with
  | 0 => (!un && o == .eq, if sig then flInvalid else 0)
  | 1 => (!un && o == .lt, if un then flInvalid else 0)
  | 2 => (!un && o != .gt, if un then flInvalid else 0)
  | _ => (un || o != .eq, if sig then flInvalid else 0)

/-! ### Reduction -/

/-- One level of the pairwise tree: neighbours combined. -/
def pairUp (h : Nat → Nat → Nat × Flags) : List (Option Nat × Flags) → List (Option Nat × Flags)
  | x :: y :: rest =>
    (match x.1, y.1 with
      | some a, some b => let r := h a b; (some r.1, x.2 ||| y.2 ||| r.2)
      | some a, none => (some a, x.2 ||| y.2)
      | none, o => (o, x.2 ||| y.2)) :: pairUp h rest
  | l => l

/-- The tree over 2^k lanes. -/
def treeGo (h : Nat → Nat → Nat × Flags) : Nat → List (Option Nat × Flags) → List (Option Nat × Flags)
  | 0, l => l
  | k + 1, l => treeGo h k (pairUp h l)

/-- VRED's lane 0: the sum, largest or smallest of the active lanes; free where no lane is active, and of a largest or
smallest where a lane is NaN. -/
def reduceLanes (fmt kind : Nat) (free : Nat) (act : Nat → Bool) (l : List Nat) : Nat × Flags :=
  let items := ((List.range l.length).zip l).map (fun e => (if act e.1 then some e.2 else none, (0 : Flags)))
  let h (x y : Nat) : Nat × Flags :=
    if kind = 0 then rounded fmt ((valueOf fmt x).add (valueOf fmt y)) else pickLane fmt (kind == 2) free x y
  match treeGo h 9 items with
  | (some r, fl) :: _ =>
    if kind ≠ 0 ∧ items.any (fun e => match e.1 with | some x => (valueOf fmt x).isNan | none => false)
    then (free % 2 ^ elemBits fmt, fl) else (r, fl)
  | _ => (if kind = 0 then 0 else free % 2 ^ elemBits fmt, 0)

/-! ### Dot products (R340) -/

/-- Elements summed into one lane. -/
def dotGroup (fmt : Nat) : Nat := lanesOf fmt / 64

/-- The exact sum of products of a group. -/
def dotSum (fmt : Nat) (msA msB : BitVec 128) : Nat → List (Nat × Nat) → FV × Flags
  | _, [] => (.num false 0 0, 0)
  | i, (x, y) :: rest =>
    let u := elementValue fmt msA i x
    let v := elementValue fmt msB i y
    let p := u.1.mul v.1
    let t := dotSum fmt msA msB (i + 1) rest
    match rest with
    | [] => (p.1, u.2 ||| v.2 ||| p.2)
    | _ => let r := p.1.add t.1; (r.1, u.2 ||| v.2 ||| p.2 ||| t.2 ||| r.2)

/-! ### Conversion (R338, R339) -/

/-- Power of two of a value's leading bit; none of a zero or a value that is not finite. -/
def leadOf : FV → Option Int
  | .num _ m e => if m = 0 then none else some (e + Nat.log2 m)
  | _ => none

/-- The scale of a block of an MX format (OCP Microscaling): the power of two of the largest magnitude less that of the
format's largest value; free where no element is finite and not zero, or one is no finite number. -/
def blockScale (fmt free : Nat) (l : List FV) : Nat :=
  let bad := l.any (fun v => match v with | .num _ _ _ => false | _ => true)
  let top := l.foldl (fun (a : Option Int) v => match a, leadOf v with
    | some x, some y => some (max x y)
    | none, y => y
    | x, none => x) none
  let emax : Int := match floatOf fmt with
    | some f => (leadOf (f.decode f.maxCode)).getD 0
    | none => 0
  match top with
  | some t => if bad then free % 255 else
      let e := t - emax + 127
      if e < 0 then 0 else if 254 < e then 254 else e.toNat
  | none => free % 255

/-- VCVT: lanes of the target that have a source lane are converted, others are free; into an MX format each block takes its
scale. -/
def convert (f : VectorSlot) (g : JRegs) (free : BitVec 2048) : VRes :=
  let src := f.fmt.toNat
  let dst := f.imm.toNat % 16
  let k := f.vc.toNat
  let bits := elemBits dst
  let n := lanesOf src
  let vals := ((List.range n).zip (lanes (elemBits src) (g.getV f.va.toNat))).map (fun e => elementValue src (g.getMs k) e.1 e.2)
  let fr := lanes bits free
  if isMx dst then
    let blocks := lanesOf dst / 32
    let scales := (List.range blocks).map (fun b =>
      if 32 * b < n then blockScale dst (bitsN free (8 * b) 8) (((vals.drop (32 * b)).take 32).map (·.1))
      else bitsN free (8 * b) 8)
    let out := ((List.range (lanesOf dst)).zip fr).map (fun e =>
      match vals[e.1]? with
      | some v =>
        let r := roundTo dst (v.1.scale (127 - ((scales.getD (e.1 / 32) 0 : Nat) : Int)))
        (r.1, r.2 ||| v.2)
      | none => (e.2, (0 : Flags)))
    let r := vdResult f g bits 3 out
    let old := g.getMs k
    let bytes := scales ++ (List.range (16 - blocks)).map (fun i => bitsN old (8 * (blocks + i)) 8)
    { r with dests := (.ms k (BitVec.ofNat 128 (joinLanes 8 bytes)), 3) :: r.dests }
  else
    let out := ((List.range (lanesOf dst)).zip fr).map (fun e =>
      match vals[e.1]? with
      | some v =>
        let r := roundTo dst v.1
        (r.1, r.2 ||| v.2)
      | none => (e.2, (0 : Flags)))
    vdResult f g bits 3 out

/-! ### PQSUM (R341) -/

/-- The sum of a vector's table entries, in ascending m, rounded at each step. -/
def pqGo (acc : Nat) (fl : Flags) : List Nat → Nat × Flags
  | [] => (acc, fl)
  | x :: rest =>
    let r := rounded 0 ((valueOf 0 acc).add (valueOf 0 x))
    pqGo r.1 (fl ||| r.2) rest

/-- Lanes of PQSUM: sixteen sums, then zeros. -/
def pqSums (g : JRegs) (codes : List Nat) (m : Nat) : List (Nat × Flags) :=
  (List.range 64).map (fun v =>
    if v < 16 then
      match (List.range m).map (fun i => (g.getPq (256 * i + codes.getD (16 * v + i) 0)).toNat) with
      | [] => (0, 0)
      | x :: rest =>
        let first := roundTo 0 (valueOf 0 x)
        pqGo first.1 first.2 rest
    else (0, 0))

/-! ### Accumulators (R342 to R344) -/

/-- A value added to an accumulator. -/
def Acc.addValue (a : Acc) (v : FV) : Acc :=
  match addend a.scale v with
  | some (n, sat) => { a with w := wrap192 (a.w + n), sat := a.sat || sat }
  | none => { a with nonfinite := true }

/-! ### The instructions -/

/-- A lane operation on VA and VB. -/
def arith (f : VectorSlot) (g : JRegs) (h : FV → FV → FV × Flags) : VRes :=
  let fmt := f.fmt.toNat
  vdResult f g (elemBits fmt) 4 (mapLanes fmt (g.getV f.va.toNat) (g.getV f.vb.toNat)
    (fun _ x y => rounded fmt (h (valueOf fmt x) (valueOf fmt y))))

/-- VADD, VSUB, VMUL. -/
def vecAdd (f : VectorSlot) (g : JRegs) : VRes := arith f g FV.add
def vecSub (f : VectorSlot) (g : JRegs) : VRes := arith f g (fun x y => x.add y.neg)
def vecMul (f : VectorSlot) (g : JRegs) : VRes := arith f g FV.mul

/-- VFMA: one rounding; of MX operands the spec states no result. -/
def vecFma (f : VectorSlot) (g : JRegs) (free : BitVec 2048) : VRes :=
  let fmt := f.fmt.toNat
  let bits := elemBits fmt
  if isMx fmt then vdResult f g bits 4 ((lanes bits free).map (fun x => (x, 0)))
  else
    let c := lanes bits (g.getV f.vc.toNat)
    vdResult f g bits 4 (mapLanes fmt (g.getV f.va.toNat) (g.getV f.vb.toNat) (fun i x y =>
      let p := (valueOf fmt x).mul (valueOf fmt y)
      let t := p.1.add (valueOf fmt (c.getD i 0))
      rounded fmt (t.1, p.2 ||| t.2)))

/-- VMIN, VMAX; of MX operands the spec states no result. -/
def vecPick (least : Bool) (f : VectorSlot) (g : JRegs) (free : BitVec 2048) : VRes :=
  let fmt := f.fmt.toNat
  let bits := elemBits fmt
  let fr := lanes bits free
  if isMx fmt then vdResult f g bits 4 (fr.map (fun x => (x, 0)))
  else vdResult f g bits 4 (mapLanes fmt (g.getV f.va.toNat) (g.getV f.vb.toNat) (fun i x y =>
    pickLane fmt least (fr.getD i 0) x y))

/-- VDOT: each group's exact sum rounded once as it is added to its lane of VC. -/
def vecDot (f : VectorSlot) (g : JRegs) : VRes :=
  let fmt := f.fmt.toNat
  let k := f.vc.toNat
  let n := dotGroup fmt
  let pairs := (lanes (elemBits fmt) (g.getV f.va.toNat)).zip (lanes (elemBits fmt) (g.getV f.vb.toNat))
  let acc := if fmt = 5 then 6 else 0
  let out := ((List.range 64).zip (lanes 32 (g.getV k))).map (fun e =>
    let t := dotSum fmt (g.getMs k) (g.getMs (k + 1)) (n * e.1) ((pairs.drop (n * e.1)).take n)
    let r := (valueOf acc e.2).add t.1
    rounded acc (r.1, r.2 ||| t.2))
  { dests := [(.v k (ofLanes 32 (out.map (·.1))) (activeBits f g 32), 6)], flags := laneFlags f g out }

/-- VUNPK6: a 6-bit value to each byte. -/
def vecUnpack (f : VectorSlot) (g : JRegs) : VRes :=
  let x := (g.getV f.va.toNat).toNat
  vdResult f g 8 3 ((List.range 256).map (fun i => (x / 2 ^ (6 * i) % 64, 0)))

/-- VPACK6: the low six bits of each byte, packed; what the register holds above bit 1535 is not stated. -/
def vecPack (f : VectorSlot) (g : JRegs) (free : BitVec 2048) : VRes :=
  let l := (lanes 8 (g.getV f.va.toNat)).map (· % 64)
  let top := free.toNat / 2 ^ 1536 * 2 ^ 1536
  let mask := joinLanes 6 ((List.range 256).map (fun i => if laneActive f g i then 63 else 0)) + (2 ^ 512 - 1) * 2 ^ 1536
  { dests := [(.v f.vd.toNat (BitVec.ofNat 2048 (joinLanes 6 l + top)) (BitVec.ofNat 2048 mask), 3)] }

/-- VCMP: the mask register's bits above the lane count are not stated. -/
def vecCompare (f : VectorSlot) (g : JRegs) (free : BitVec 2048) : VRes :=
  let fmt := f.fmt.toNat
  let k := f.vc.toNat
  let imm := f.imm.toNat
  let n := lanesOf fmt
  let l := mapLanes fmt (g.getV f.va.toNat) (g.getV f.vb.toNat) (fun i x y =>
    let u := elementValue fmt (g.getMs k) i x
    let v := elementValue fmt (g.getMs (k + 1)) i y
    let r := compareLane (imm / 8 % 8) u.1 v.1
    (bitN r.1, r.2 ||| u.2 ||| v.2))
  let top := bitsN free 0 512 / 2 ^ n * 2 ^ n
  { dests := [(.vm (imm % 8) (BitVec.ofNat 512 (joinLanes 1 (l.map (·.1)) + top)), 2)], flags := laneFlags f g l }

/-- VSEL. -/
def vecSelect (f : VectorSlot) (g : JRegs) : VRes :=
  let fmt := f.fmt.toNat
  let bits := elemBits fmt
  let l := mapLanes fmt (g.getV f.va.toNat) (g.getV f.vb.toNat) (fun i x y => (if laneActive f g i then x else y, 0))
  { dests := [(.v f.vd.toNat (ofLanes bits (l.map (·.1))) (BitVec.allOnes 2048), 2)] }

/-- VPERM. -/
def vecPermute (f : VectorSlot) (g : JRegs) : VRes :=
  let bits := elemBits f.fmt.toNat
  let a := lanes bits (g.getV f.va.toNat)
  vdResult f g bits 2 ((lanes bits (g.getV f.vb.toNat)).map (fun i => (a.getD (i % a.length) 0, 0)))

/-- VRED; of MX operands the spec states no result. -/
def vecReduce (f : VectorSlot) (g : JRegs) (free : BitVec 2048) : VRes :=
  let fmt := f.fmt.toNat
  let bits := elemBits fmt
  let fr := bitsN free 0 bits
  let r := if isMx fmt then (fr, (0 : Flags))
    else reduceLanes fmt (f.imm.toNat % 4) fr (laneActive f g) (lanes bits (g.getV f.va.toNat))
  let v := vdResult f g bits 8 ((r.1, 0) :: List.replicate (lanesOf fmt - 1) (0, 0))
  { v with flags := r.2 }

/-- VBCAST. -/
def vecBroadcast (f : VectorSlot) (g : JRegs) : VRes :=
  let bits := elemBits f.fmt.toNat
  let x := (g.getX f.va.toNat).toNat % 2 ^ bits
  vdResult f g bits 2 (List.replicate (2048 / bits) (x, 0))

/-- PQSUM. -/
def vecPqsum (f : VectorSlot) (g : JRegs) : VRes :=
  vdResult f g 32 5 (pqSums g (lanes 8 (g.getV f.va.toNat)) (f.imm.toNat % 32))

/-- VMSMOV. -/
def vecMsmov (f : VectorSlot) (g : JRegs) : VRes :=
  { dests := [(.ms f.vc.toNat ((g.getV f.va.toNat).setWidth 128), 1)] }

/-- ACCINIT. -/
def accInit (f : VectorSlot) : VRes :=
  let sc : Int := (BitVec.ofNat 8 (f.imm.toNat / 256)).toInt
  { dests := (List.range (f.imm.toNat % 64 + 1)).map (fun i => (.ac (f.acc.toNat + i) { w := 0, scale := sc }, 1)) }

/-- ACCADD. -/
def accAdd (f : VectorSlot) (g : JRegs) : VRes :=
  let fmt := f.fmt.toNat
  let l := lanes (elemBits fmt) (g.getV f.va.toNat)
  { dests := ((List.range 64).filter (laneActive f g)).map (fun i => (.ac i ((g.getAc i).addValue (valueOf fmt (l.getD i 0))), 3)) }

/-- ACCSUM. -/
def accSum (f : VectorSlot) (g : JRegs) : VRes :=
  let fmt := f.fmt.toNat
  let l := lanes (elemBits fmt) (g.getV f.va.toNat)
  let a := ((List.range l.length).zip l).foldl (fun a e => if laneActive f g e.1 then Acc.addValue a (valueOf fmt e.2) else a)
    (g.getAc f.acc.toNat)
  { dests := [(.ac f.acc.toNat a, 8)] }

/-- ACCCVT: FP32 lanes, or BF16 in lanes 0 to 63; SAT is set where a conversion saturates. -/
def accCvt (f : VectorSlot) (g : JRegs) : VRes :=
  let fmt := f.fmt.toNat
  let bits := elemBits fmt
  let r := (List.range 64).map (fun i => accConvert fmt (g.getAc i).w (g.getAc i).scale)
  let mask := ofLanes bits ((List.range 64).map (fun i => if laneActive f g i then 2 ^ bits - 1 else 0))
  let sats := ((List.range 64).zip r).filter (fun e => e.2.2 && laneActive f g e.1)
  { dests := (.v f.vd.toNat (ofLanes bits (r.map (·.1))) mask, 4)
      :: sats.map (fun e => (.acSat e.1, 4)) }

end Sys2Proof.Machine
end

