-- ==== Sys2Proof/Machine/Emb.lean ====
section
/-!
DEFINITION. Embedding tables (chapter 14): opening and closing, gathers, scatter-adds into the update buffers, step commits with
their batch tasks, replica links and snapshots.
-/

namespace Sys2Proof.Machine

/-! ### Tables and their rows (R366 to R368, R372) -/

/-- ROW_LINES. -/
def Table.rowLines (x : Table) : Nat := linesFor (x.dim * elemBytes x.fmt)

/-- Lines of an update-buffer entry (R378). -/
def Table.entryLines (x : Table) : Nat := 1 + (x.dim + 3) / 4

/-- BUF_LINES. -/
def Table.bufLines (x : Table) : Nat := x.upd.length * x.entryLines

/-- The descriptor an embedding operation's row runs, with its handle and table: only one that has started at the control die
(R384). -/
def State.embDesc (s : State) (t q op : Nat) : Option (Desc × Nat × Table) :=
  (s.nextDesc t q op).bind (fun d =>
    let h := bf d.body 75 64
    let x := mget {} s.tables h
    if x.state = 0 ∨ x.state = 3 ∨ tableKind d.body = .none ∨ x.running.contains ⟨t, q, d.index⟩ then some (d, h, x) else none)

/-- An operation on a table that is FAILED, or has been closed while the operation waited, fails; TABLE_CLOSE takes a FAILED
one (R382, notes assumption 26). -/
def embAlive (x : Table) : EngM Unit :=
  if x.state = 0 ∨ x.state = 3 then engFail 0x05 stFenced x.tableVa 0 else pure ()

/-- A built-in task's operation run for a descriptor; a failure names the task's jet (R370). -/
def State.runBuiltIn {α : Type} (s : State) (t q : Nat) (d : Desc) (m : EngM α) (ok : State → α → State) : State :=
  let s := s.modDesc t q d.index (fun d => { d with phase := .working })
  match (do let _ ← builtIn t q d.index; m : EngM α).on s with
  | (.ok a, s) => ok s a
  | (.error .wait, s) => s
  | (.error (.fail k st va gpa), s) =>
    s.descFail t q d.index k st va gpa (some ((s.jetOf t q d.index).getD (26 * dieOfQp t q)))

/-- n little-endian numbers of w bytes. -/
def numbersOf (w : Nat) : Nat → List Byte → List Nat
  | 0, _ => []
  | n + 1, l => natOfBytes (l.take w) :: numbersOf w n (l.drop w)

/-- What an index names (R372): a row (for a replica its place in the row map), or the default row with the counter that
says why: 0 OUT_OF_RANGE, 1 ABSENT. -/
inductive RowRef where
  | row (n : Nat)
  | dflt (why : Nat)
deriving DecidableEq, Repr

/-- The place of a row number in a replica's row map. -/
def mapPlace (m : List Nat) (r : Nat) : Option Nat := m.findIdx? (· == r)

/-- Each index resolved. -/
def resolveRows (e : Eng) (x : Table) (idx : List Nat) : EngM (List RowRef) := do
  if x.replica then
    let bs ← readBytes e x.ctx x.mapVa (4 * x.rows)
    let m := numbersOf 4 x.rows bs
    pure (idx.map (fun r => match mapPlace m r with | some p => .row p | none => .dflt 1))
  else if x.sparse then
    let inR := (idx.filter (· < x.rows)).eraseDups
    let bits ← engAll (fun r => do
      let l ← readVa e x.ctx ((x.mapVa + r / 8) / 128 * 128)
      pure ((lineByte l ((x.mapVa + r / 8) % 128)).getLsbD (r % 8))) inR
    let present := ((inR.zip bits).filter (·.2)).map (·.1)
    pure (idx.map (fun r => if x.rows ≤ r then .dflt 0 else if present.contains r then .row r else .dflt 1))
  else pure (idx.map (fun r => if x.rows ≤ r then .dflt 0 else .row r))

/-- Where a row's lines lie; bank is the first row's address. -/
def Table.rowVa (x : Table) (bank : Nat) : RowRef → Nat
  | .row n => bank + 128 * x.rowLines * n
  | .dflt _ => x.defaultVa

/-- Two indices name one distinct row: the default row counts as one (R376). -/
def RowRef.same : RowRef → RowRef → Bool
  | .row a, .row b => a == b
  | .dflt _, .dflt _ => true
  | _, _ => false

/-- The rounds of R376 and R378: how many indices each takes, with its distinct rows. counts says which references bring a
distinct row. -/
def roundsGo (cap : Nat) (counts : RowRef → Bool) : List RowRef → Nat → List RowRef → List (Nat × List RowRef)
  | [], n, rows => if n = 0 then [] else [(n, rows)]
  | r :: rest, n, rows =>
    if !counts r || rows.any (RowRef.same r) then roundsGo cap counts rest (n + 1) rows
    else if rows.length < cap then roundsGo cap counts rest (n + 1) (rows ++ [r])
    else (n, rows) :: roundsGo cap counts rest 1 [r]

/-- The bags of R373: (first index, end). -/
def bagsGo (count : Nat) : Nat → List Nat → List (Nat × Nat)
  | e, a :: b :: rest =>
    let lo := max a e
    let hi := min b count
    let end_ := if lo < hi then hi else e
    (lo, max lo hi) :: bagsGo count end_ (b :: rest)
  | _, _ => []

/-- The elements of a row as exact values. -/
def rowValues (fmt dim : Nat) (bs : List Byte) : List FV := (numbersOf (elemBytes fmt) dim bs).map (valueOf fmt)

/-- Elements as FP32. -/
def rowFp32 (fmt dim : Nat) (bs : List Byte) : List Nat := (rowValues fmt dim bs).map (fun v => (roundTo 0 v).1)

/-- The FP32 value nearest 1/n (R374). -/
def recipFp32 (n : Nat) : Nat :=
  let k := 64 + Nat.log2 n
  let q := 2 ^ k / n
  (roundTo 0 (.num false (2 * q + (if 2 ^ k % n = 0 then 0 else 1)) (-((k : Int) + 1)))).1

def addFp32 (x y : Nat) : Nat := (rounded 0 ((valueOf 0 x).add (valueOf 0 y))).1
def mulFp32 (x y : Nat) : Nat := (rounded 0 ((valueOf 0 x).mul (valueOf 0 y))).1

/-- One output of a gather (R374): mode, the FP32 rows of its indices. free stands where VMAX of a NaN is not stated. -/
def poolRows (mode dim free : Nat) (rows : List (List Nat)) : List Nat :=
  let zero := List.replicate dim 0
  match mode with
  | 0 => rows.headD zero
  | 3 => match rows with
    | [] => zero
    | r :: rest => rest.foldl (fun a y => (a.zip y).map (fun p => (pickLane 0 false free p.1 p.2).1)) r
  | _ =>
    let sum := rows.foldl (fun a y => (a.zip y).map (fun p => addFp32 p.1 p.2)) zero
    if mode = 2 ∧ rows ≠ [] then
      let q := recipFp32 rows.length
      sum.map (fun x => mulFp32 x q)
    else sum

/-- Bytes of an output in OUT_FMT, filled to OL lines (R375). -/
def outputBytes (fmt dim : Nat) (l : List Nat) : List Byte :=
  let w := if fmt = 0 then 4 else 2
  let bs := l.flatMap (fun x => bytesOfNat w (roundTo fmt (valueOf 0 x)).1)
  bs ++ List.replicate (128 * outLines dim fmt - bs.length) 0

/-! ### TABLE_OPEN and TABLE_CLOSE (R371, R383) -/

/-- The table a TABLE_OPEN body describes. -/
def tableOf (b : DescBits) (ctx : BitVec 16) (t epoch : Nat) : Table :=
  { state := 1, replica := bf b 309 309 == 1, sparse := bf b 308 308 == 1, fmt := bf b 307 304,
    scale := (BitVec.ofNat 8 (bf b 319 312)).toInt, ctx := ctx, tenant := t, dim := bf b 300 288, rows := bf b 287 256,
    epoch := epoch, tableVa := bf b 127 64, defaultVa := bf b 191 128, mapVa := bf b 255 192, bank1Va := bf b 383 320,
    epochVa := bf b 447 384 }

/-- The lowest free handle. -/
def State.freeHandle (s : State) : Option Nat := (List.range 4096).find? (fun h => (mget {} s.tables h).state == 0)

def State.tableOpen (s : State) (t q : Nat) : State :=
  match s.nextDesc t q 0x10 with
  | none => s
  | some d =>
    let ctx := s.qpCtx t q
    let full : Word := BitVec.ofNat 64 (2 ^ 63)
    match s.freeHandle with
    | none => s.descDone t q d.index full 0
    | some h =>
      let m : EngM Nat :=
        if bf d.body 309 309 = 1 then do
          let bs ← readBytes (qpEng t q d.index) ctx (bf d.body 447 384) 8
          pure (natOfBytes bs)
        else pure 0
      s.runDesc t q d none m (fun s epoch =>
        (s.setTable h (tableOf d.body ctx t epoch)).descDone t q d.index (BitVec.ofNat 64 h) 0)

def State.tableClose (s : State) (t q : Nat) : State :=
  match s.embDesc t q 0x11 with
  | none => s
  | some (d, h, x) =>
    if x.state = 0 then s.descFail t q d.index 0x05 stFenced x.tableVa 0 none
    else
      let s := s.setTable h {}
      s.descDone t q d.index (BitVec.ofNat 64 x.upd.length) (BitVec.ofNat 64 x.epoch)

/-! ### GATHER (R372 to R376, R386) -/

/-- RESULT of a gather: rows read, defaulted indices, FULL. -/
def gatherResult (rowsRead defaulted : Nat) (full : Bool) : Word := pack [(32, rowsRead), (31, defaulted), (1, bitN full)]

/-- Indices defaulted for a reason. -/
def whyCount (refs : List RowRef) (why : Nat) : Nat := (refs.filter (· == .dflt why)).length

/-- Counters of indices in the tenant block. -/
def State.countRefs (s : State) (t n out absent : Nat) : State :=
  ((s.bump (Reg.TN_EMB_INDICES t) 0 64 n).bump (Reg.TN_EMB_DEFAULT t) 0 32 out).bump (Reg.TN_EMB_DEFAULT t) 32 32 absent
def State.countIndices (s : State) (t n : Nat) (refs : List RowRef) : State :=
  s.countRefs t n (whyCount refs 0) (whyCount refs 1)

/-- The gather's output lines, written with its gauge: every line translated, then sent. -/
def gatherWrites (e : Eng) (tag : BitVec 16) (b : DescBits) (dim : Nat) (outs : List (List Byte)) : EngM Unit := do
  let ol := outLines dim (bf b 83 80)
  let lines := ((List.range outs.length).zip outs).flatMap (fun o => (List.range ol).map (fun k =>
    (bf b 319 256 + bf b 415 384 * o.1 + 128 * k, (o.2.drop (128 * k)).take 128)))
  translateAll e tag accWrite (lines.map (·.1))
  engEach (fun l => writeVa e tag l.1
    { typ := 0x1A, ord := true, gauge := BitVec.ofNat 8 (bf b 91 84), data := lineOfBytes l.2 }) lines

/-- The indices and bags of a gather or scatter-add. -/
def readIndices (e : Eng) (tag : BitVec 16) (b : DescBits) (mode : Nat) : EngM (List Nat × List (Nat × Nat)) := do
  let n := bf b 351 320
  let w := if bf b 78 78 = 1 then 8 else 4
  let bs ← readBytes e tag (bf b 191 128) (w * n)
  if mode = 0 then pure (numbersOf w n bs, (List.range n).map (fun i => (i, i + 1)))
  else
    let k := bf b 383 352
    let os ← readBytes e tag (bf b 255 192) (4 * (k + 1))
    pure (numbersOf w n bs, bagsGo n 0 (numbersOf 4 (k + 1) os))

/-- Each distinct row of a round read once from a bank, and fanned out to the indices that name it, as FP32 (R376). -/
def gatherRows (e : Eng) (x : Table) (bank : Nat) (distinct refs : List RowRef) : EngM (List (List Nat)) := do
  let data ← engAll (fun r => readBytes e x.ctx (x.rowVa bank r) (x.dim * elemBytes x.fmt)) distinct
  let rows := distinct.zip (data.map (rowFp32 x.fmt x.dim))
  pure (refs.map (fun r => ((rows.find? (fun p => RowRef.same r p.1)).map (·.2)).getD []))

/-- Every output formed from the rows of the indices (R374). -/
def gatherOutputs (x : Table) (b : DescBits) (values : List (List Nat)) (bags : List (Nat × Nat)) : EngM (List (List Byte)) := do
  let s ← engGet
  let free := (Config.freeWord s.free).toNat
  pure (bags.map (fun g => outputBytes (bf b 83 80) x.dim (poolRows (bf b 77 76) x.dim free ((values.drop g.1).take (g.2 - g.1)))))

/-- CAP of R376, of R386 for a replica. -/
def gatherCap (x : Table) : Nat := min 12288 ((if x.replica then 1835008 else 2883584) / (128 * x.rowLines))

/-- What the rounds of a gather that are over have done (R376): indices, row reads, indices out of range and absent, and the rows
of the indices as FP32. -/
structure GatherDone where
  indices : Nat := 0
  read : Nat := 0
  out : Nat := 0
  absent : Nat := 0
  values : List (List Nat) := []
deriving DecidableEq, Repr

/-- One round more: its indices, distinct rows and the rows of its indices. -/
def GatherDone.next (x : GatherDone) (k : Nat) (rows refs : List RowRef) (values : List (List Nat)) : GatherDone :=
  { indices := x.indices + k, read := x.read + rows.length, out := x.out + whyCount refs 0, absent := x.absent + whyCount refs 1,
    values := x.values ++ values }

/-- As the descriptor keeps it between rounds. -/
def GatherDone.words (x : GatherDone) : List Word :=
  ([x.indices, x.read, x.out, x.absent] ++ x.values.flatten).map (BitVec.ofNat 64)

/-- A list cut into n parts of dim numbers. -/
def partsOf (dim : Nat) : Nat → List Nat → List (List Nat)
  | 0, _ => []
  | n + 1, l => l.take dim :: partsOf dim n (l.drop dim)

/-- What a descriptor keeps of its gather's rounds. -/
def gatherDone (x : Table) (acc : List Word) : GatherDone :=
  let l := acc.map (·.toNat)
  { indices := l.getD 0 0, read := l.getD 1 0, out := l.getD 2 0, absent := l.getD 3 0, values := partsOf x.dim (l.getD 0 0) (l.drop 4) }

/-- What a gather leaves for its completion: result, epoch; a replica's that would not fit writes nothing. -/
def gatherOp (t q : Nat) (d : Desc) (h : Nat) (x : Table) : EngM (Word × Nat × Bool) := do
  let e := qpEng t q d.index
  let b := d.body
  embAlive x
  let ol := outLines x.dim (bf b 83 80)
  let n := bf b 351 320
  let nout := if bf b 77 76 = 0 then n else bf b 383 352
  if x.replica then
    if 65536 < n ∨ 1048576 < nout * 128 * ol then return (gatherResult 0 0 true, x.epoch, false)
    if d.stage = 2 then
      -- validate: the epoch line is read once more (R386 steps 3 and 4)
      let bs ← readBytes e x.ctx x.epochVa 8
      let e0 := (d.acc.getD 0 0).toNat
      if natOfBytes bs ≠ e0 then
        engDo (fun s => (s.dropAns e).modDesc t q d.index (fun d => { d with stage := 0, acc := [] }))
        engWait
      else
        let words := d.acc.drop 4
        let bytes := words.flatMap (fun w => bytesOfNat 8 w.toNat)
        let outs := (List.range nout).map (fun o => (bytes.drop (128 * ol * o)).take (128 * ol))
        gatherWrites e x.ctx b x.dim outs
        engDo (fun s => s.countRefs t n (d.acc.getD 2 0).toNat (d.acc.getD 3 0).toNat)
        return (d.acc.getD 1 0, e0, true)
    else
      let bs ← readBytes e x.ctx x.epochVa 8
      let e0 := natOfBytes bs
      engDo (fun s => s.setTable h { mget {} s.tables h with epoch := e0 })
      let (idx, bags) ← readIndices e x.ctx b (bf b 77 76)
      let refs ← resolveRows e x idx
      match roundsGo (gatherCap x) (fun _ => true) refs 0 [] with
      | [(_, rows)] =>
        let values ← gatherRows e x (if e0 % 2 = 0 then x.tableVa else x.bank1Va) rows refs
        let outs ← gatherOutputs x b values bags
        let res := gatherResult rows.length (refs.filter (fun r => RowRef.same r (.dflt 0))).length false
        engDo (fun s => s.bump (Reg.TN_EMB_READS t) 0 64 rows.length)
        let words := (List.range (nout * 16 * ol)).map (fun i =>
          BitVec.ofNat 64 (natOfBytes ((outs.flatten.drop (8 * i)).take 8)))
        let head : List Word := [BitVec.ofNat 64 e0, res, BitVec.ofNat 64 (whyCount refs 0), BitVec.ofNat 64 (whyCount refs 1)]
        engDo (fun s => ({ s with free := s.free + 1 } : State).dropAns e |>.modDesc t q d.index
          (fun d => { d with stage := 2, acc := head ++ words }))
        engWait
      | _ => return (gatherResult 0 0 true, e0, false)
  else
    -- rounds done before this one: indices, rows read, indices out of range, indices absent, and the indices' rows
    let done := gatherDone x d.acc
    let (idx, bags) ← readIndices e x.ctx b (bf b 77 76)
    let refs ← resolveRows e x (idx.drop done.indices)
    match roundsGo (gatherCap x) (fun _ => true) refs 0 [] with
    | (k, rows) :: _ :: _ =>
      let values ← gatherRows e x x.tableVa rows (refs.take k)
      engDo (fun s => (s.dropAns e).modDesc t q d.index (fun d => { d with acc := (done.next k rows (refs.take k) values).words }))
      engWait
    | l =>
      let rows := (l.head?.map (·.2)).getD []
      let values ← gatherRows e x x.tableVa rows refs
      let outs ← gatherOutputs x b (done.values ++ values) bags
      let all := done.next refs.length rows refs values
      gatherWrites e x.ctx b x.dim outs
      engDo (fun s => ({ (s.countRefs t n all.out all.absent) with free := s.free + 1 } : State).bump (Reg.TN_EMB_READS t) 0 64 all.read)
      return (gatherResult all.read (all.out + all.absent) false, x.epoch, true)

def State.gather (s : State) (t q : Nat) : State :=
  match s.embDesc t q 0x12 with
  | none => s
  | some (d, h, x) => s.runBuiltIn t q d (gatherOp t q d h x) (fun s r =>
      if r.2.2 then s.descWriting t q d.index r.1 (BitVec.ofNat 64 r.2.1)
      else s.descDone t q d.index r.1 (BitVec.ofNat 64 r.2.1))

/-! ### SCATTER_ADD (R377 to R379) -/

/-- Lines of the update buffers in use on the device, and of a tenant's tables. -/
def State.bufUsed (s : State) (p : Table → Bool) : Nat :=
  (s.tables.filter (fun e => p e.2)).foldl (fun a e => a + e.2.bufLines) 0

/-- Lines of the 20 GiB region (R378). -/
def regionLines : Nat := 20 * 2 ^ 30 / 128

/-- A reservation of n entries of a table: the limit it breaks, 0 REGION, 1 QUOTA. -/
def State.reserveFails (s : State) (x : Table) (n : Nat) : Option Nat :=
  let quota := s.gzv (0x6400 + x.tenant) 0x20
  if regionLines < s.bufUsed (fun _ => true) + n * x.entryLines then some 0
  else if quota ≠ 0 ∧ quota * 8192 < s.bufUsed (fun y => y.tenant == x.tenant) + n * x.entryLines then some 1
  else none

/-- An index's addends: its gradient row's elements, times q for BAG_MEAN. -/
def addendsOf (gfmt dim : Nat) (mean : Option Nat) (bs : List Byte) : List FV :=
  match mean with
  | none => rowValues gfmt dim bs
  | some q => (rowFp32 gfmt dim bs).map (fun x => valueOf 0 (mulFp32 x q))

/-- A row's entry with addends added (R343, R378). -/
def addTo (x : Table) (row : Nat) (l : List FV) : Table :=
  let old := (mfind x.upd row).getD (List.replicate x.dim { scale := x.scale })
  let new := (old.zip l).map (fun p => p.1.addValue p.2)
  { x with upd := mset x.upd row new }

/-- The rounds of a scatter-add from one on: applied, dropped and added so far; the limit that refused a round. -/
def scatterGo (h : Nat) (item : Nat → Option (List FV)) :
    List (Nat × List RowRef) → List RowRef → Nat → Nat → Nat → State → State × (Nat × Nat × Nat × Bool)
  | [], _, i, dropped, added, s => (s, (i, dropped, added, false))
  | (n, rows) :: rest, refs, i, dropped, added, s =>
    let x := mget {} s.tables h
    let fresh := rows.filter (fun r => match r with | .row k => (mfind x.upd k).isNone | _ => false)
    match s.reserveFails x fresh.length with
    | some why =>
      (s.raise 0x6110 (h % 4) [(2, x.tenant), (2, h), (4, fresh.length), (1, why)], (i, dropped, added, true))
    | none =>
      let mine := refs.take n
      let x := fresh.foldl (fun x r => match r with
        | .row k => { x with upd := mset x.upd k (List.replicate x.dim { scale := x.scale }) }
        | _ => x) x
      let items := (List.range n).zip mine
      let x := items.foldl (fun x p => match p.2, item (i + p.1) with
        | .row k, some l => addTo x k l
        | _, _ => x) x
      let drops := (mine.filter (fun r => match r with | .dflt _ => true | _ => false)).length
      let adds := (items.filter (fun p => match p.2, item (i + p.1) with | .row _, some _ => true | _, _ => false)).length * x.dim
      scatterGo h item rest (refs.drop n) (i + n) (dropped + drops) (added + adds) (s.setTable h x)

def scatterOp (t q : Nat) (d : Desc) (h : Nat) (x : Table) : EngM (Word × Nat) := do
  let e := qpEng t q d.index
  let b := d.body
  embAlive x
  let mode := bf b 77 76
  let gfmt := bf b 83 80
  let (idx, bags) ← readIndices e x.ctx b mode
  let refs ← resolveRows e x idx
  let grads ← engAll (fun g => readBytes e x.ctx (bf b 319 256 + bf b 415 384 * g) (x.dim * elemBytes gfmt))
    (List.range (if mode = 0 then bf b 351 320 else bf b 383 352))
  let item (i : Nat) : Option (List FV) :=
    match ((List.range bags.length).zip bags).find? (fun g => decide (g.2.1 ≤ i) && decide (i < g.2.2)) with
    | none => none
    | some (k, lo, hi) =>
      some (addendsOf gfmt x.dim (if mode = 2 then some (recipFp32 (hi - lo)) else none) (grads.getD k []))
  let rounds := roundsGo 12288 (fun r => match r with | .row _ => true | _ => false) refs 0 []
  let s ← engGet
  let (s', (applied, dropped, added, full)) := scatterGo h item rounds refs 0 0 0 s
  engDo (fun _ => (s'.countIndices t applied (refs.take applied)).bump (Reg.TN_EMB_ADDS t) 0 64 added)
  pure (pack [(32, applied), (31, dropped), (1, bitN full)], x.epoch)

def State.scatterAdd (s : State) (t q : Nat) : State :=
  match s.embDesc t q 0x13 with
  | none => s
  | some (d, h, x) => s.runBuiltIn t q d (scatterOp t q d h x) (fun s r =>
      s.descDone t q d.index r.1 (BitVec.ofNat 64 r.2))

/-! ### Replica links and snapshots (R385, R387, R388) -/

/-- Lines of the listed rows of a home table, as stored: K row numbers, each row's bytes (notes assumption 27 for a row that
R372 would default). -/
def listedRows (e : Eng) (x : Table) (listVa k : Nat) : EngM (List (List Byte)) := do
  let bs ← readBytes e x.ctx listVa (4 * k)
  let refs ← resolveRows e x (numbersOf 4 k bs)
  engAll (fun r => readBytes e x.ctx (x.rowVa x.tableVa r) (128 * x.rowLines)) refs

/-- Lines to write: rows one after another from an address. -/
def rowLinesAt (x : Table) (va : Nat) (rows : List (List Byte)) : List (Nat × List Byte) :=
  ((List.range rows.length).zip rows).flatMap (fun o => (List.range x.rowLines).map (fun k =>
    (va + 128 * x.rowLines * o.1 + 128 * k, (o.2.drop (128 * k)).take 128)))

/-- The rows of a replica link written into the bank of an epoch. -/
def linkRows (e : Eng) (x : Table) (l : RLink) (epoch : Nat) : EngM Unit := do
  let rows ← listedRows e x l.mapVa l.k
  let lines := rowLinesAt x (if epoch % 2 = 0 then l.bank0 else l.bank1) rows
  translateAll e x.ctx accWrite (lines.map (·.1))
  translateAll e x.ctx accWrite [l.epochVa]
  engEach (fun w => writeVa e x.ctx w.1 { typ := 0x18, ord := true, data := lineOfBytes w.2 }) lines

/-- A virtual address lies in a link's banks or epoch line. -/
def RLink.holds (l : RLink) (rowLines va : Nat) : Bool :=
  let within (base n : Nat) : Bool := decide (base ≤ va) && decide (va < base + n)
  within l.bank0 (128 * rowLines * l.k) || within l.bank1 (128 * rowLines * l.k) || within l.epochVa 128

/-- The epoch line seal-stored once every row has been answered (R385): a seal takes no account of how its predecessors ended
(R221), and a link with a refused row keeps the epoch it was sealed with last (R387). -/
def linkSeal (e : Eng) (x : Table) (l : RLink) (epoch : Nat) : EngM Unit := do
  let s ← engGet
  if s.engBusy e then engWait
  else if s.ans.any (fun a => a.settled && a.eng == e && a.f.status != 0 && l.holds x.rowLines a.va) then pure ()
  else writeVa e x.ctx l.epochVa { typ := 0x18, ord := true, isSeal := true, data := lineOfBytes (bytesOfNat 8 epoch) }

/-- The listed rows of a snapshot written with its gauge. -/
def snapRows (e : Eng) (x : Table) (n : Snap) : EngM Unit := do
  let rows ← listedRows e x n.listVa n.k
  let lines := rowLinesAt x n.dstVa rows
  translateAll e x.ctx accWrite (lines.map (·.1))
  engEach (fun w => writeVa e x.ctx w.1
    { typ := 0x1A, ord := true, gauge := BitVec.ofNat 8 n.gauge, data := lineOfBytes w.2 }) lines

/-- The stage of a descriptor moved on. -/
def stageTo (t q i k : Nat) : EngM Unit := engDo (fun s => s.modDesc t q i (fun d => { d with stage := k }))

def linkOf (b : DescBits) : RLink :=
  { mapVa := bf b 191 128, bank0 := bf b 255 192, bank1 := bf b 319 256, epochVa := bf b 383 320, k := bf b 415 384 }

/-- REPLICA_LINK: true where writes are under way. The link is filled at once; a refused write ends it with the descriptor. -/
def replicaLinkOp (t q : Nat) (d : Desc) (h : Nat) (x : Table) : EngM Bool := do
  let e := qpEng t q d.index
  let b := d.body
  embAlive x
  let k := bf b 77 76
  if bf b 78 78 = 1 then
    engDo (fun s => s.setTable h { mget {} s.tables h with links := merase x.links k })
    pure false
  else
    let l := linkOf b
    if d.stage = 0 then
      linkRows e x l x.epoch
      stageTo t q d.index 1
    linkSeal e x l x.epoch
    engDo (fun s => s.setTable h { mget {} s.tables h with links := mset x.links k l })
    pure true

def State.replicaLink (s : State) (t q : Nat) : State :=
  match s.embDesc t q 0x15 with
  | none => s
  | some (d, h, x) => s.runBuiltIn t q d (replicaLinkOp t q d h x) (fun s w =>
      if w then s.descWriting t q d.index 0 (BitVec.ofNat 64 x.epoch)
      else s.descDone t q d.index 0 (BitVec.ofNat 64 x.epoch))

def snapOf (b : DescBits) : Snap :=
  { listVa := bf b 191 128, dstVa := bf b 255 192, k := bf b 287 256, interval := bf b 303 288, gauge := bf b 87 80 }

def snapshotOp (t q : Nat) (d : Desc) (h : Nat) (x : Table) : EngM Bool := do
  let b := d.body
  embAlive x
  let k := bf b 78 76
  if bf b 79 79 = 1 then
    engDo (fun s => s.setTable h { mget {} s.tables h with snaps := merase x.snaps k })
    pure false
  else if bf b 303 288 = 0 then
    snapRows (qpEng t q d.index) x (snapOf b)
    pure true
  else
    engDo (fun s => s.setTable h { mget {} s.tables h with snaps := mset x.snaps k (snapOf b) })
    pure false

def State.snapshot (s : State) (t q : Nat) : State :=
  match s.embDesc t q 0x16 with
  | none => s
  | some (d, h, x) => s.runBuiltIn t q d (snapshotOp t q d h x) (fun s w =>
      if w then s.descWriting t q d.index 0 (BitVec.ofNat 64 x.epoch)
      else s.descDone t q d.index 0 (BitVec.ofNat 64 x.epoch))

/-! ### STEP_COMMIT (R380 to R382) -/

/-- The bowl of a batch task (Table 14-7). -/
def batchBowl (x : Table) (rows : List Nat) : JRegs :=
  let g : JRegs := {}
  let w (g : JRegs) (a n v : Nat) : JRegs := g.setBowl a (bytesOfNat n v)
  let g := w (w (w g 0 8 rows.length) 8 8 x.epoch) 16 8 x.dim
  let u := 4 * dimP x.dim
  ((List.range rows.length).zip rows).foldl (fun g p =>
    let accs := (mfind x.upd p.2).getD []
    let conv := accs.map (fun a => accConvert 0 a.w a.scale)
    let sat := accs.any (·.sat) || conv.any (·.2)
    let g := w g (0x100 + 8 * p.1) 8 p.2
    let g := w g (0x900 + p.1) 1 (bitN sat + 2 * bitN (accs.any (·.nonfinite)))
    g.setBowl (0x10000 + u * p.1) (conv.flatMap (fun c => bytesOfNat 4 c.1))) g

/-- Batches started while the die has a record for one; an enabled jet is needed (R355, R370, R382). -/
def batchesGo (t q h : Nat) (d : Desc) : Nat → State → State
  | 0, s => s
  | fuel + 1, s =>
    let x := mget {} s.tables h
    match x.commit with
    | none => s
    | some c =>
      if c.todo.isEmpty ∨ c.failed.isSome then s
      else match s.anyJet (dieOfQp t q) with
        | none => s.setTable h { x with commit := some { c with failed := some (0x14, stTargetLost, 0, 0) } }
        | some j => match s.freeSlot j with
          | none => s
          | some r =>
            let size := if bf d.body 84 76 = 0 then largestBatch x.dim else bf d.body 84 76
            let rows := c.todo.take size
            let g := batchBowl x rows
            let g := (((g.setX 1 (BitVec.ofNat 64 h)).setX 2 (BitVec.ofNat 64 rows.length)).setX 3
              (BitVec.ofNat 64 (bf d.body 255 192))).setX 4 (BitVec.ofNat 64 (bf d.body 319 256))
            let flags (f : Acc → Bool) : Nat := (rows.filter (fun r => ((mfind x.upd r).getD []).any f)).length
            let sat (a : Acc) : Bool := a.sat || (accConvert 0 a.w a.scale).2
            let c := { c with todo := c.todo.drop size, started := c.started + 1, running := c.running + 1,
                              sat := c.sat + flags sat, nonfinite := c.nonfinite + flags (·.nonfinite) }
            let s := s.setTable h { x with commit := some c }
            let task : Task := { tenant := t, ctx := s.qpCtx t q, qp := q, desc := d.index, pages := 64,
                                 legVa := bf d.body 191 128, regs := g, system := 2 }
            batchesGo t q h d fuel (s.placeTask j r task)

/-- Links and snapshots of a commit written, one after another (R380, R385, R388). Stages 10 to 17: rows and seal of each
link; 20 to 27: each slot; 30: all issued. -/
def commitWrites (t q : Nat) (d : Desc) (x : Table) : EngM Unit := do
  let e := qpEng t q d.index
  let next := x.epoch + 1
  let done (k : Nat) : EngM Bool := do
    let s ← engGet
    pure (decide (k < ((s.desc t q d.index).map (·.stage)).getD 0))
  engEach (fun (l : Nat × RLink) => do
    if !(← done (10 + 2 * l.1)) then
      linkRows e x l.2 next
      stageTo t q d.index (11 + 2 * l.1)
    if !(← done (11 + 2 * l.1)) then
      linkSeal e x l.2 next
      stageTo t q d.index (12 + 2 * l.1)) x.links
  engEach (fun (n : Nat × Snap) => do
    if n.2.interval ≠ 0 ∧ next % n.2.interval = 0 then
      if !(← done (20 + n.1)) then
        snapRows e x n.2
        stageTo t q d.index (21 + n.1)) x.snaps
  stageTo t q d.index 30

/-- RESULT of a commit (Table 14-5). -/
def commitResult (c : Commit) : Word := pack [(32, c.rows), (16, min c.sat 65535), (15, min c.nonfinite 32767)]

/-- STEP_COMMIT and COMMIT_BATCH_END: the commit goes on as far as it can. -/
def State.commitGo (s : State) (t q : Nat) (first : Bool) : State :=
  match s.embDesc t q 0x14 with
  | none => s
  | some (d, h, x) =>
    let op : OpRef := ⟨t, q, d.index⟩
    if x.state = 0 ∨ x.state = 3 then s.descFail t q d.index 0x05 stFenced x.tableVa 0 none
    else
      let s := s.modDesc t q d.index (fun d => { d with phase := .working })
      let s := if x.commit.isNone ∧ first then
          s.setTable h { x with commit := some { op := op, todo := x.upd.map (·.1), rows := x.upd.length } } else s
      let s := batchesGo t q h d (x.upd.length + 1) s
      let x := mget {} s.tables h
      match x.commit with
      | none => s
      | some c =>
        if c.op ≠ op ∨ c.running ≠ 0 then s
        else match c.failed with
          | some (k, st, va, gpa) => s.descFail t q d.index k st va gpa none
          | none =>
            if !c.todo.isEmpty then s
            else s.runDesc t q d none (commitWrites t q d x) (fun s _ =>
              s.descWriting t q d.index (commitResult c) (BitVec.ofNat 64 (x.epoch + 1)))

/-- A refused write of a link or a snapshot ends it and raises its event (R387, R388). -/
def State.endRefused (s : State) (h : Nat) (a : EngAns) : State :=
  let x := mget {} s.tables h
  match x.links.find? (fun l => l.2.holds x.rowLines a.va) with
  | some l => (s.setTable h { x with links := merase x.links l.1 }).raise 0x6112 fromController
      [(2, x.tenant), (2, h), (1, l.1), (1, a.f.status.toNat)]
  | none => match x.snaps.find? (fun n => decide (n.2.dstVa ≤ a.va) && decide (a.va < n.2.dstVa + 128 * x.rowLines * n.2.k)) with
    | some n => (s.setTable h { x with snaps := merase x.snaps n.1 }).raise 0x6113 fromController
        [(2, x.tenant), (2, h), (1, n.1), (1, a.f.status.toNat)]
    | none => s

/-- The commit's end: entries freed, the epoch advanced, the flags counted (R380, Table 14-8). -/
def State.commitEnd (s : State) (t q : Nat) (d : Desc) : State :=
  let h := bf d.body 75 64
  let x := mget {} s.tables h
  match x.commit with
  | none => s
  | some c =>
    let refused := s.ans.filter (fun a => a.settled && a.eng == qpEng t q d.index && a.f.status != 0)
    let s := s.forEach refused (fun s a => s.endRefused h a)
    let x := mget {} s.tables h
    let s := s.setTable h { x with upd := [], epoch := x.epoch + 1, commit := none }
    let s := (s.bump (Reg.TN_EMB_FLAGS t) 0 32 c.sat).bump (Reg.TN_EMB_FLAGS t) 32 32 c.nonfinite
    s.descDone t q d.index d.result d.extra

/-- A snapshot taken once whose write is refused raises its event (R388). -/
def State.snapEnd (s : State) (t q : Nat) (d : Desc) : State :=
  let h := bf d.body 75 64
  let x := mget {} s.tables h
  let s := match s.ans.find? (fun a => a.settled && a.eng == qpEng t q d.index && a.f.status != 0) with
    | some a => s.raise 0x6113 fromController [(2, x.tenant), (2, h), (1, bf d.body 78 76), (1, a.f.status.toNat)]
    | none => s
  s.descDone t q d.index d.result d.extra

end Sys2Proof.Machine
end

