-- ==== Sys2Proof/Machine/Search.lean ====
section
/-!
DEFINITION. Nearest-neighbour search (chapter 15): indexes, scores, the walk of a SEARCH, mutations through the annex, merge.
-/

namespace Sys2Proof.Machine

/-! ### Indexes and records (R390 to R392) -/

/-- VEC_LINES and NODE_LINES. -/
def Index.vecLines (x : Index) : Nat := if x.pq then 1 else linesFor (x.dims * elemBytes x.fmt)
def Index.nodeLines (x : Index) : Nat := 3 + x.vecLines

/-- Line k of node n's record. -/
def Index.nodeVa (x : Index) (n k : Nat) : Nat := x.graphVa + 128 * x.nodeLines * n + 128 * k

/-- An annex entry (Table 15-2). -/
structure AnnexEntry where
  node : Nat
  kind : Nat
  epoch : Nat

/-- The nodes that entries of a KIND name: 1 INSERT, 2 DELETE. -/
def nodesOfKind (kind : Nat) (l : List AnnexEntry) : List Nat := (l.filter (fun y => y.kind == kind)).map (·.node)

/-- The annex entries 0 to n - 1. -/
def readAnnex (e : Eng) (x : Index) (n : Nat) : EngM (List AnnexEntry) := do
  let bs ← readBytes e x.ctx x.annexVa (16 * n)
  pure ((List.range n).map (fun i =>
    let b := (bs.drop (16 * i)).take 16
    { node := natOfBytes (b.take 4), kind := natOfBytes ((b.drop 4).take 1), epoch := natOfBytes (b.drop 8) }))

/-- Node n's bit of the tombstone bitmap. -/
def tombBit (e : Eng) (x : Index) (n : Nat) : EngM Bool := do
  let a := x.tombVa + n / 8
  let l ← readVa e x.ctx (a / 128 * 128)
  pure ((lineByte l (a % 128)).getLsbD (n % 8))

/-! ### Scores (R395, R396) -/

def subFp32 (x y : Nat) : Nat := (rounded 0 ((valueOf 0 x).add (valueOf 0 y).neg)).1
/-- x * y + z rounded once. -/
def fmaFp32 (x y z : Nat) : Nat := (rounded 0 (((valueOf 0 x).mul (valueOf 0 y)).1.add (valueOf 0 z))).1
def negFp32 (x : Nat) : Nat := (roundTo 0 (valueOf 0 x).neg).1

/-- S of R395: 64 partial sums by fused multiply-adds, then VRED's tree. -/
def sumS (l : List (Nat × Nat)) : Nat :=
  let items := (List.range l.length).zip l
  let partials := (List.range 64).map (fun j =>
    (items.filter (fun p => p.1 % 64 == j)).foldl (fun a p => fmaFp32 p.2.1 p.2.2 a) 0)
  (reduceLanes 0 0 0 (fun _ => true) partials).1

/-- An FP32 value is zero. -/
def zeroFp32 (x : Nat) : Bool := x % 2 ^ 31 == 0

/-- The score of a full vector (Table 15-6). -/
def scoreOf (metric : Nat) (q x : List Nat) : Nat :=
  let p := q.zip x
  match metric with
  | 0 => sumS (p.map (fun e => let d := subFp32 e.1 e.2; (d, d)))
  | 1 => negFp32 (sumS p)
  | _ =>
    let d := sumS p
    let qq := sumS (q.map (fun e => (e, e)))
    let xx := sumS (x.map (fun e => (e, e)))
    if zeroFp32 qq || zeroFp32 xx then 0x3F800000
    else
      let rq := (rounded 0 (valueOf 0 qq).sqrt).1
      let rx := (rounded 0 (valueOf 0 xx).sqrt).1
      let den := mulFp32 rq rx
      let r := (rounded 0 ((valueOf 0 d).div (valueOf 0 den))).1
      subFp32 0x3F800000 r

/-- The table a PQ query builds: entry (m, c) for each subspace (R396). -/
def pqTable (x : Index) (q cents : List Nat) : List (List Nat) :=
  let n := x.dims / x.pqM
  (List.range x.pqM).map (fun m => (List.range 256).map (fun c =>
    let qs := (q.drop (n * m)).take n
    let cs := (cents.drop (n * (256 * m + c))).take n
    let terms := (qs.zip cs).map (fun p =>
      if x.metric = 0 then let d := subFp32 p.1 p.2; mulFp32 d d else mulFp32 p.1 p.2)
    let sum := terms.foldl addFp32 0
    if x.metric = 0 then sum else negFp32 sum))

/-- PQSUM of a node's codes. -/
def pqScore (tab : List (List Nat)) (codes : List Nat) : Nat :=
  match (tab.zip codes).map (fun p => p.1.getD p.2 0) with
  | [] => 0
  | y :: ys => (pqGo (roundTo 0 (valueOf 0 y)).1 0 ys).1

/-- What a query scores nodes with. -/
structure Query where
  q : List Nat
  tab : List (List Nat)

/-- The score of a node from its record's vector bytes. -/
def Query.score (u : Query) (x : Index) (bs : List Byte) : Nat :=
  if x.pq then pqScore u.tab (bs.map (·.toNat)) else scoreOf x.metric u.q (rowFp32 x.fmt x.dims bs)

/-! ### The walk (R397 to R399) -/

/-- Order by score, then by lower node number. -/
def nearer (a b : Nat × Nat) : Bool :=
  match (valueOf 0 a.1).cmp (valueOf 0 b.1) with
  | .lt => true
  | .gt => false
  | .eq => decide (a.2 < b.2)

/-- A SEARCH as it walks: the beam with what has been expanded, the result set, the visited set, what it counts. -/
structure Walk where
  beam : List ((Nat × Nat) × Bool) := []
  res : List (Nat × Nat) := []
  visited : List Nat := []
  truncated : Bool := false
  badEdge : Nat := 0
  nan : Nat := 0
  scored : Nat := 0
  expanded : Nat := 0

def insertBy {α : Type} (lt : α → α → Bool) (x : α) : List α → List α
  | [] => [x]
  | y :: ys => if lt x y then x :: y :: ys else y :: insertBy lt x ys

/-- What a SEARCH works with: its index as registered (E, A, N), its query, its deletes, its limits. -/
structure SearchCtx where
  e : Eng
  x : Index
  epoch : Nat
  n : Nat
  query : Query
  dels : List Nat
  k : Nat
  beamW : Nat
  bounded : Bool

/-- Node m's score and whether it is visible; none where it is not yet visible. -/
def nodeScore (c : SearchCtx) (m : Nat) : EngM (Option Nat) := do
  let l ← readVa c.e c.x.ctx (c.x.nodeVa m 0)
  if c.epoch < natOfBytes (lineBytes l 8 8) then pure none
  else
    let bs ← readBytes c.e c.x.ctx (c.x.nodeVa m 3) (if c.x.pq then c.x.pqM else c.x.dims * elemBytes c.x.fmt)
    pure (some (c.query.score c.x bs))

/-- deleted(m, E). -/
def nodeDeleted (c : SearchCtx) (m : Nat) : EngM Bool := do
  if c.dels.contains m then pure true else tombBit c.e c.x m

/-- The scoring of a visited node: into the beam where both is asked, into the results unless it is deleted. -/
def scoreInto (c : SearchCtx) (m : Nat) (both : Bool) (w : Walk) : EngM Walk := do
  match ← nodeScore c m with
  | none => pure w
  | some v =>
    let w := { w with scored := w.scored + 1 }
    if (valueOf 0 v).isNan then pure { w with nan := w.nan + 1 }
    else
      let w := if both then
          { w with beam := (insertBy (fun a b => nearer a.1 b.1) ((v, m), false) w.beam).take c.beamW } else w
      if ← nodeDeleted c m then pure w else pure { w with res := (insertBy nearer (v, m) w.res).take c.k }

/-- offer(m, where). -/
def offer (c : SearchCtx) (both : Bool) (m : Nat) (w : Walk) : EngM Walk := do
  if c.n ≤ m then
    pure (if m = 0xFFFFFFFF then w else { w with badEdge := w.badEdge + 1 })
  else if w.visited.contains m then pure w
  else if both ∧ 196608 ≤ w.visited.length then pure { w with truncated := true }
  else scoreInto c m both { w with visited := m :: w.visited }

def offerAll (c : SearchCtx) (both : Bool) : List Nat → Walk → EngM Walk
  | [], w => pure w
  | m :: ms, w => do offerAll c both ms (← offer c both m w)

/-- The neighbour list of a node. -/
def neighbours (c : SearchCtx) (m : Nat) : EngM (List Nat) := do
  let l ← readVa c.e c.x.ctx (c.x.nodeVa m 0)
  let bs ← readBytes c.e c.x.ctx (c.x.nodeVa m 1) 256
  pure (numbersOf 4 (min 64 (lineByte l 0).toNat) bs)

def expandAll (c : SearchCtx) : List Nat → Walk → EngM Walk
  | [], w => pure w
  | m :: ms, w => do
    let ns ← neighbours c m
    expandAll c ms (← offerAll c true ns w)

/-- The loop of R398. -/
def walkGo (c : SearchCtx) (maxExp pre : Nat) : Nat → Walk → EngM Walk
  | 0, w => pure w
  | fuel + 1, w => do
    let open_ := (w.beam.filter (fun e => !e.2)).map (fun e => e.1.2)
    if open_.isEmpty ∨ (maxExp ≠ 0 ∧ maxExp ≤ w.expanded) ∨ w.truncated then pure w
    else
      let g := min (pre + 1) (if maxExp = 0 then 64 else maxExp - w.expanded)
      let taken := open_.take g
      let _ ← engAll (fun m => readVa c.e c.x.ctx (c.x.nodeVa m 0)) taken
      let w := { w with beam := w.beam.map (fun e => (e.1, e.2 || taken.contains e.1.2)), expanded := w.expanded + taken.length }
      let w ← expandAll c taken w
      walkGo c maxExp pre fuel w

/-- Nodes 0 to N - 1 offered to the results only (R399). -/
def exhaustGo (c : SearchCtx) : List Nat → Walk → EngM Walk
  | [], w => pure w
  | m :: ms, w => do exhaustGo c ms (← scoreInto c m false w)

/-- The result list's bytes (R400). -/
def resultBytes (k : Nat) (l : List (Nat × Nat)) : List Byte :=
  let recs := l ++ List.replicate (k - l.length) (0x7F800000, 0xFFFFFFFF)
  let bs := recs.flatMap (fun r => bytesOfNat 4 r.2 ++ bytesOfNat 4 r.1)
  bs ++ List.replicate (128 * linesFor (8 * k) - bs.length) 0

/-- The descriptor an index operation's row runs, with its handle and index (R401). -/
def State.searchDesc (s : State) (t q op : Nat) : Option (Desc × Nat × Index) :=
  (s.nextDesc t q op).bind (fun d =>
    let h := bf d.body 73 64
    let x := mget {} s.indexes h
    let ref : OpRef := ⟨t, q, d.index⟩
    if x.state = 0 ∨ x.state = 3 ∨ x.searches.any (fun e => e.1 == ref) ∨ x.mutation = some ref ∨ x.holding = some ref
    then some (d, h, x) else none)

def indexAlive (x : Index) : EngM Unit :=
  if x.state = 0 ∨ x.state = 3 then engFail 0x05 stFenced x.graphVa 0 else pure ()

/-- SEARCH: the whole walk and the writes of its results. -/
def searchOp (t q : Nat) (d : Desc) (x : Index) : EngM (Word × Nat) := do
  let e := qpEng t q d.index
  let b := d.body
  indexAlive x
  let (epoch, a, n) := ((x.searches.find? (fun s => s.1 == ⟨t, q, d.index⟩)).map (·.2)).getD (x.epoch, x.annexCount, x.nextNode)
  let annex ← readAnnex e x a
  let annex := annex.filter (fun y => decide (y.epoch ≤ epoch))
  let qb ← readBytes e x.ctx (bf b 191 128) (4 * x.dims)
  let qv := numbersOf 4 x.dims qb
  let cents ← if x.pq then readBytes e x.ctx x.codebookVa (1024 * x.dims) else pure []
  let tab := if x.pq then pqTable x qv (numbersOf 4 (256 * x.dims) cents) else []
  let k := bf b 86 76
  let c : SearchCtx := { e := e, x := x, epoch := epoch, n := n, query := ⟨qv, tab⟩, k := k, beamW := bf b 98 88, bounded := true,
                         dels := nodesOfKind 2 annex }
  let w ← if bf b 87 87 = 1 then exhaustGo c (List.range n) {}
    else do
      let w ← offerAll c true (List.range x.nentry) {}
      let w ← walkGo c (bf b 287 256) (bf b 103 100) (n + 1) w
      offerAll c false (nodesOfKind 1 annex) w
  let bytes := resultBytes k w.res
  let dst := bf b 255 192
  let lines := (List.range (linesFor (8 * k))).map (fun i => (dst + 128 * i, (bytes.drop (128 * i)).take 128))
  translateAll e x.ctx accWrite (lines.map (·.1))
  engEach (fun l => writeVa e x.ctx l.1
    { typ := 0x1A, ord := true, gauge := BitVec.ofNat 8 (bf b 111 104), data := lineOfBytes l.2 }) lines
  engDo (fun s => ((s.bump (Reg.TN_SRCH_SCORED t) 0 64 w.scored).bump (Reg.TN_SRCH_SKIPS t) 0 32 w.badEdge).bump
    (Reg.TN_SRCH_SKIPS t) 32 32 w.nan)
  pure (pack [(16, w.res.length), (32, w.expanded), (15, 0), (1, bitN w.truncated)], epoch)

def State.search (s : State) (t q : Nat) : State :=
  match s.searchDesc t q 0x22 with
  | none => s
  | some (d, _, x) => s.runBuiltIn t q d (searchOp t q d x) (fun s r => s.descWriting t q d.index r.1 (BitVec.ofNat 64 r.2))

/-- The end of a SEARCH: counted (Table 15-11). -/
def State.searchEnd (s : State) (t q : Nat) (d : Desc) : State :=
  let s := s.bump (Reg.TN_SRCH_QUERIES t) 0 64 1
  let s := if d.result.getLsbD 63 then s.bump (Reg.TN_SRCH_TRUNC t) 0 64 1 else s
  s.descDone t q d.index d.result d.extra

/-! ### INDEX_OPEN, INDEX_CLOSE (R394, R407) -/

def indexOf' (b : DescBits) (ctx : BitVec 16) (t : Nat) : Index :=
  { state := 1, metric := bf b 401 400, fmt := bf b 405 402, pq := bf b 406 406 == 1, pqM := bf b 412 408, ctx := ctx, tenant := t,
    dims := bf b 396 384, nodes := bf b 351 320, nextNode := bf b 383 352, annexMax := bf b 432 416, nentry := bf b 452 448,
    graphVa := bf b 127 64, tombVa := bf b 191 128, annexVa := bf b 255 192, codebookVa := bf b 319 256 }

def State.indexOpen (s : State) (t q : Nat) : State :=
  match s.nextDesc t q 0x20 with
  | none => s
  | some d =>
    match (List.range 1024).find? (fun h => (mget {} s.indexes h).state == 0) with
    | none => s.descDone t q d.index (BitVec.ofNat 64 (2 ^ 63)) 0
    | some h => (s.setIndex h (indexOf' d.body (s.qpCtx t q) t)).descDone t q d.index (BitVec.ofNat 64 h) 0

def State.indexClose (s : State) (t q : Nat) : State :=
  match s.searchDesc t q 0x21 with
  | none => s
  | some (d, h, x) =>
    if x.state = 0 then s.descFail t q d.index 0x05 stFenced x.graphVa 0 none
    else (s.setIndex h {}).descDone t q d.index 0 0

/-! ### INSERT and DELETE (R403, R404) -/

/-- Annex entries appended: masked writes of the lines they touch. -/
def appendAnnex (e : Eng) (x : Index) (l : List (Nat × Nat)) : EngM Unit := do
  let bytes := l.flatMap (fun a => bytesOfNat 4 a.1 ++ bytesOfNat 4 a.2 ++ bytesOfNat 8 (x.epoch + 1))
  let at_ := x.annexVa + 16 * x.annexCount
  engEach (fun va => writeVa e x.ctx va (moverFrame at_ bytes.length va bytes none)) (linesOfVa at_ bytes.length)

/-- The lines of a new node's record (R403). What the Golik writes in the bytes Table 15-1 leaves free is not stated. -/
def nodeRecord (x : Index) (free : Line) (vec : List Byte) : List Line :=
  let l0 := mergeBytes free (lineOfBytes (bytesOfNat 8 0 ++ bytesOfNat 8 (x.epoch + 1))) (BitVec.ofNat 128 0xFFFF)
  [l0, BitVec.allOnes 1024, BitVec.allOnes 1024]
    ++ (List.range x.vecLines).map (fun k => lineOfBytes ((vec.drop (128 * k)).take 128))

/-- INSERT: the result, and whether writes are under way. -/
def insertOp (t q : Nat) (d : Desc) (x : Index) : EngM (Word × Bool) := do
  let e := qpEng t q d.index
  let b := d.body
  indexAlive x
  let n := bf b 96 80
  if x.nodes < x.nextNode + n ∨ x.annexMax < x.annexCount + n then pure (BitVec.ofNat 64 (2 ^ 63), false)
  else
    let src := bf b 191 128
    let vecs ← engAll (fun i => readBytes e x.ctx (src + 128 * x.vecLines * i) (128 * x.vecLines)) (List.range n)
    let s ← engGet
    let free := Config.freeLine s.free
    let lines := ((List.range n).zip vecs).flatMap (fun v =>
      let recs := nodeRecord x free v.2
      ((List.range recs.length).zip recs).map (fun l => (x.nodeVa (x.nextNode + v.1) l.1, l.2)))
    translateAll e x.ctx accWrite (lines.map (·.1))
    translateAll e x.ctx accWrite (linesOfVa (x.annexVa + 16 * x.annexCount) (16 * n))
    engDo (fun s => { s with free := s.free + 1 })
    stageTo t q d.index 1
    engEach (fun l => writeVa e x.ctx l.1 { typ := 0x18, ord := true, data := l.2 }) lines
    appendAnnex e x ((List.range n).map (fun i => (x.nextNode + i, 1)))
    pure (BitVec.ofNat 64 x.nextNode, true)

def State.insert (s : State) (t q : Nat) : State :=
  match s.searchDesc t q 0x23 with
  | none => s
  | some (d, _, x) => s.runBuiltIn t q d (insertOp t q d x) (fun s r =>
      if r.2 then s.descWriting t q d.index r.1 (BitVec.ofNat 64 (x.epoch + 1))
      else s.descDone t q d.index r.1 (BitVec.ofNat 64 x.epoch))

/-- The entries of a DELETE that are not ignored, in order. -/
def keptDeletes (x : Index) (dels : List Nat) : List (Nat × Bool) → List Nat → List Nat
  | [], kept => kept
  | (n, tomb) :: rest, kept =>
    if x.nextNode ≤ n ∨ tomb ∨ dels.contains n ∨ kept.contains n then keptDeletes x dels rest kept
    else keptDeletes x dels rest (kept ++ [n])

def deleteOp (t q : Nat) (d : Desc) (x : Index) : EngM (Word × Bool) := do
  let e := qpEng t q d.index
  let b := d.body
  indexAlive x
  let n := bf b 96 80
  let bs ← readBytes e x.ctx (bf b 191 128) (4 * n)
  let list := numbersOf 4 n bs
  let annex ← readAnnex e x x.annexCount
  let dels := nodesOfKind 2 annex
  let tombs ← engAll (fun m => if x.nextNode ≤ m then pure true else tombBit e x m) list
  let kept := keptDeletes x dels (list.zip tombs) []
  if x.annexMax < x.annexCount + kept.length then pure (BitVec.ofNat 64 (2 ^ 63), false)
  else
    translateAll e x.ctx accWrite (linesOfVa (x.annexVa + 16 * x.annexCount) (16 * kept.length))
    if kept ≠ [] then stageTo t q d.index 1
    appendAnnex e x (kept.map (fun m => (m, 2)))
    pure (pack [(32, kept.length), (31, n - kept.length)], true)

def State.delete (s : State) (t q : Nat) : State :=
  match s.searchDesc t q 0x24 with
  | none => s
  | some (d, _, x) => s.runBuiltIn t q d (deleteOp t q d x) (fun s r =>
      if r.2 then s.descWriting t q d.index r.1 0 else s.descDone t q d.index r.1 0)

/-- The registry advances once every write of a mutation has completed (R402): EPOCH, ANNEX_COUNT and, for INSERT,
NEXT_NODE. -/
def State.mutationEnd (s : State) (t q : Nat) (d : Desc) : State :=
  let h := bf d.body 73 64
  let x := mget {} s.indexes h
  let ins := opOf d.body = 0x23
  let n := if ins then bf d.body 96 80 else d.result.toNat % 2 ^ 32
  let x := { x with epoch := x.epoch + 1, annexCount := x.annexCount + n, nextNode := if ins then x.nextNode + n else x.nextNode }
  (s.setIndex h x).descDone t q d.index d.result d.extra

/-! ### MERGE (R405, R406) -/

/-- The bowl of a merge task (Table 15-10). -/
def mergeBowl (x : Index) (entries : List Byte) : JRegs :=
  let g : JRegs := {}
  g.setBowl 0 (bytesOfNat 8 x.annexCount) |>.setBowl 8 (bytesOfNat 8 x.epoch) |>.setBowl 16 (bytesOfNat 8 x.nextNode)
    |>.setBowl 24 (bytesOfNat 8 x.nodes) |>.setBowl 0x100 entries

/-- MERGE's own task reads the annex, then the tenant's merge task starts: none with an empty annex. -/
def mergeOp (t q : Nat) (d : Desc) (h : Nat) (x : Index) : EngM Bool := do
  let e := qpEng t q d.index
  indexAlive x
  if x.annexCount = 0 then pure true
  else
    let bs ← readBytes e x.ctx x.annexVa (16 * x.annexCount)
    let s ← engGet
    match s.anyJet (dieOfQp t q) with
    | none => engFail 0x14 stTargetLost 0 0
    | some j => match s.freeSlot j with
      | none => engWait
      | some r =>
        let g := mergeBowl x bs
        let g := (((g.setX 1 (BitVec.ofNat 64 h)).setX 2 (BitVec.ofNat 64 x.annexCount)).setX 3
          (BitVec.ofNat 64 (bf d.body 255 192))).setX 4 (BitVec.ofNat 64 (bf d.body 319 256))
        let task : Task := { tenant := t, ctx := s.qpCtx t q, qp := q, desc := d.index, pages := 64,
                             legVa := bf d.body 191 128, regs := g, system := 2 }
        engDo (fun s => (s.placeTask j r task).setIndex h { mget {} s.indexes h with merging := true, wrote := false, mergeEnd := none })
        pure false

def State.merge (s : State) (t q : Nat) : State :=
  match s.searchDesc t q 0x25 with
  | none => s
  | some (d, h, x) =>
    if x.merging then s
    else s.runBuiltIn t q d (mergeOp t q d h x) (fun s done => if done then s.descDone t q d.index 0 0 else s)

/-- The tombstone bits of the annex's deletes set: byte by byte, each byte read and written back. -/
def mergeBits (t q : Nat) (d : Desc) (x : Index) : EngM Nat := do
  let e := qpEng t q d.index
  let annex ← readAnnex e x x.annexCount
  let nodes := (nodesOfKind 2 annex).eraseDups
  let bytes := (nodes.map (· / 8)).eraseDups
  let old ← engAll (fun a => readBytes e x.ctx (x.tombVa + a) 1) bytes
  translateAll e x.ctx accWrite (bytes.map (fun a => (x.tombVa + a) / 128 * 128))
  engEach (fun (p : Nat × List Byte) =>
    let bits := (nodes.filter (fun n => n / 8 == p.1)).foldl (fun b n => b ||| BitVec.ofNat 8 (2 ^ (n % 8))) (p.2.headD 0)
    let a := x.tombVa + p.1
    writeVa e x.ctx (a / 128 * 128) (moverFrame a 1 (a / 128 * 128) [bits] none)) (bytes.zip old)
  pure (nodesOfKind 2 annex).length

/-- MERGE_TASK_END: the merge task has ended. -/
def State.mergeTaskEnd (s : State) (t q : Nat) : State :=
  match s.searchDesc t q 0x25 with
  | none => s
  | some (d, h, x) =>
    if !x.merging then s
    else match x.mergeEnd with
      | none => s
      | some (some (k, st, va, gpa)) => s.descFail t q d.index k st va gpa (s.jetOf t q d.index)
      | some none => s.runBuiltIn t q d (mergeBits t q d x) (fun s dels =>
          (s.setIndex h { mget {} s.indexes h with wrote := true }).descWriting t q d.index (BitVec.ofNat 64 x.annexCount)
            (BitVec.ofNat 64 dels))

/-- The merge's end: an empty annex, ACTIVE, event 0x6121 (R406). -/
def State.mergeEnds (s : State) (t q : Nat) (d : Desc) : State :=
  let h := bf d.body 73 64
  let x := mget {} s.indexes h
  let s := s.setIndex h { x with annexCount := 0, merging := false, wrote := false, mergeEnd := none }
  (s.raise 0x6121 fromController [(2, x.tenant), (2, h), (4, x.annexCount), (4, d.extra.toNat)]).descDone t q d.index d.result 0

end Sys2Proof.Machine
end

