-- ==== Sys2Proof/Machine/Tiers.lean ====
section
/-!
DEFINITION. Tiers (chapter 16): moves of pieces from their start to the cut-over, the copies they send, their end; lending and
borrowing of parcels.
-/

namespace Sys2Proof.Machine

/-! ### Moves (R417 to R421) -/

/-- The device-local line of line i of a piece. -/
def pieceLine (p k i : Nat) : Nat := p * parcelLines + k * pieceLines + i

/-- MOVING of GL_MOVE_STATUS. -/
def State.countMoves (s : State) : State := s.setRf Reg.GL_MOVE_STATUS 8 5 s.moves.length

/-- A move changed. -/
def State.modMove (s : State) (p k : Nat) (f : Move → Move) : State :=
  { s with moves := s.moves.map (fun m => if m.parcel = p ∧ m.piece = k then f m else m) }

/-- The piece as the move's destination. -/
def Move.dest (m : Move) : Reloc :=
  if m.toPlace = 1 ∨ m.toPlace = 3 then { place := m.toPlace, device := m.device, parcel := m.dparcel, piece := m.dpiece } else { place := m.toPlace }

/-- An access of a copy to its line's channel, through F slots; a line of a stack that rebuilds waits to be remade (R149, R418). -/
def State.copyF (s : State) (r : FReq) : State := if s.needsRemake r.line then s.requestF r else s.pushF r

/-- A line of the piece written at the new place (R418). -/
def State.copyTo (s : State) (m : Move) (n : Nat) (data : Line) : State :=
  let at_ : BitVec 46 := BitVec.ofNat 46 (m.dest.addrAt n)
  match m.toPlace with
  | 0 => s.copyF { line := n, use := .copyWrite, wr := true, data := data, mask := BitVec.allOnes 128 }
  | 1 => s.sendOwn (s.ownerDie n) { typ := 0x18, vc := 1, dst := m.device, addr := at_, data := data } (.moveCopy m.parcel m.piece)
  | 2 =>
    if s.thoitLost then s.modMove m.parcel m.piece (fun m => { m with failed := some (BitVec.ofNat 8 stTargetLost) })
    else s.t2Send true 0 n data (.moveCopy m.parcel m.piece)
  | _ => s.sendOwn (s.ownerDie n) { typ := 0x18, vc := 1, ord := true, ctx := m.tag, dst := m.device, addr := at_, data := data }
      (.moveCopy m.parcel m.piece)

/-- A line of the piece copied: read at the old place, then written (R418, Table 16-2). -/
def State.copyLine (s : State) (m : Move) (n : Nat) : State :=
  let r := s.reloc m.parcel m.piece
  match r.place with
  | 0 => s.copyF { line := n, use := .copyRead }
  | 1 => s.sendOwn (s.ownerDie n) { typ := 0x12, vc := 1, dst := r.device, addr := BitVec.ofNat 46 (r.addrAt n) }
      (.moveCopy m.parcel m.piece)
  | _ =>
    if s.thoitLost then s.modMove m.parcel m.piece (fun m => { m with failed := some (BitVec.ofNat 8 stTargetLost) })
    else s.t2Send false 0 n 0 (.moveCopy m.parcel m.piece)

/-- Engine pins on the piece, on any die. -/
def State.enginePins (s : State) (p k : Nat) : Bool :=
  (List.range 4).any (fun d => decide (mget 0 (s.die d).pins (32 * p + k) ≠ 0))

/-- Lines of the piece the atlas tracks, or with a request under way. -/
def inPiece (p k n : Nat) : Bool := decide (n < 2 ^ 34) && parcelOf n == p && pieceOf n == k

/-- An access of a copy of the piece. -/
def FReq.copies (r : FReq) (p k : Nat) : Bool := (r.use == .copyRead || r.use == .copyWrite) && inPiece p k r.line

/-- A copy of the piece is under way. -/
def State.copying (s : State) (p k : Nat) : Bool :=
  s.out.any (fun r => r.purpose == .moveCopy p k) || s.thoit.t2.any (fun r => r.2 == .moveCopy p k)
    || s.chans.any (fun e => e.2.fq.any (·.copies p k) || e.2.inner.any (·.copies p k) || e.2.ingress.any (·.copies p k)
      || e.2.remake.any (·.copies p k) || e.2.recon.any (·.copies p k) || e.2.flight.any (fun f => f.f.copies p k))

/-- Every request admitted on the piece before its cut-over has completed. -/
def State.pieceQuiet (s : State) (p k : Nat) : Bool :=
  !s.txns.any (fun e => inPiece p k e.1 && e.2.any (fun t => !t.late))

/-- The piece's old borrowed place at a lender is cleared there before its USED bit (R421). -/
def State.freePlace (s : State) (p k : Nat) (e : Reloc) : State :=
  match e.place with
  | 0 =>
    let lo := p * 2 ^ 30 + k * 2 ^ 25
    let s := s.clearBytes lo (lo + 2 ^ 25)
    { s with oldPieces := s.oldPieces ++ [32 * p + k] }
  | 1 => s.zeroBorrowed e
  | _ => s

/-- A move's copies that are still to be answered are completed for no one, those that wait at their channels go. -/
def State.dropCopies (s : State) (p k : Nat) : State :=
  let left (l : List FReq) : List FReq := l.filter (fun r => !r.copies p k)
  { s with chans := s.chans.map (fun e => (e.1, { e.2 with
             fq := left e.2.fq, inner := left e.2.inner, ingress := left e.2.ingress, remake := left e.2.remake,
             recon := left e.2.recon })),
           out := s.out.map (fun r => if r.purpose = .moveCopy p k then { r with purpose := .zero 256 0 } else r),
           thoit := { s.thoit with t2 := s.thoit.t2.map (fun r => if r.2 = .moveCopy p k then (r.1, .zero 256 0) else r) } }

/-- A move is abandoned (R420): the entry returns to SETTLED at its old place, the new place is released; event 0x2131. A
failed read of the old place falls under R413 as well. -/
def State.abandonMove (s : State) (m : Move) (status : Nat) (oldFailed : Bool) : State :=
  let p := m.parcel
  let k := m.piece
  let s := s.setReloc p k { s.reloc p k with phase := 0, toPlace := 0 }
  let s : State := { s with moves := s.moves.filter (fun x => !(x.parcel == p && x.piece == k)) }
  let s := ((s.dropCopies p k).freePlace p k m.dest).countMoves
  let s := s.raise 0x2131 fromController [(2, p), (1, k), (1, m.toPlace), (1, status)]
  if oldFailed then s.loseParcel p else s

/-- The answer to a copy's read or write: req is what was sent (R418, R420). -/
def State.moveAnswered (s : State) (p k : Nat) (req : Frame) (status : Nat) (data : Line) : State :=
  match s.moves.find? (fun m => m.parcel == p && m.piece == k) with
  | none => s
  | some m =>
    let read := req.typ == 0x12 || req.typ == 0xA8
    let n := pieceLine p k (req.line % pieceLines)
    if status ≠ stOk then
      let s := if read ∧ status = stUncorrectable then s.uncorrectable n 0 0 else s
      s.abandonMove m status read
    else if read then s.copyTo m n data
    else s

/-- The move a line's copy belongs to. -/
def State.moveOf (s : State) (n : Nat) : Option Move := s.moves.find? (fun m => inPiece m.parcel m.piece n)

/-- A copy's read of tier T0 is back: an uncorrectable line of a plain parcel, or one whose stripe is lost, abandons the move
(R418, R420). -/
def State.copyReturned (s : State) (n : Nat) (data : Line) (ue : BitVec 16) : State :=
  match s.moveOf n with
  | none => s
  | some m =>
    if ue ≠ 0 then (s.uncorrectable n 0 0).abandonMove m stUncorrectable false else s.copyTo m n data

/-- A copy's access to tier T0 ends with a status: its stack has failed (R146, R420). -/
def State.copyFailed (s : State) (n status : Nat) : State :=
  match s.moveOf n with
  | none => s
  | some m => s.abandonMove m status false

/-- Every dirty line of the piece copied again. -/
def State.copyDirty (s : State) (m : Move) : State :=
  (s.modMove m.parcel m.piece (fun m => { m with dirty := [] })).forEach m.dirty (fun s n => s.copyLine m n)

/-- What a move does on its own: its recalls once no engine pin is left, every line copied once they are done, up to four passes
over lines written since, and in CUT the last lines once the piece is quiet (R418). -/
def State.moveStep (s : State) (m : Move) : State :=
  let p := m.parcel
  let k := m.piece
  let r := s.reloc p k
  match m.failed with
  | some st => s.abandonMove m st.toNat (r.place != 0 && m.toPlace != 2)
  | none =>
    if !m.started then
      if s.enginePins p k then s
      else
        let held := (s.atlas.filter (fun e => inPiece p k e.1)).map (·.1)
        (s.modMove p k (fun m => { m with started := true })).forEach held (fun s n => s.recall n .cut)
    else if m.copied = 0 then
      if s.txns.any (fun e => inPiece p k e.1 && e.2.any (fun t => t.work == .recall .cut)) then s
      else
        let s := s.modMove p k (fun m => { m with copied := pieceLines })
        s.forEach (List.range pieceLines) (fun s i => s.copyLine m (pieceLine p k i))
    else if s.copying p k then s
    else if r.phase = 1 ∧ m.passes < 4 ∧ 1024 < m.dirty.length then
      (s.modMove p k (fun m => { m with passes := m.passes + 1 })).copyDirty { m with passes := m.passes + 1 }
    else if r.phase = 2 ∧ m.dirty ≠ [] ∧ s.pieceQuiet p k then s.copyDirty m
    else s

/-- Every move carried on. -/
def State.movesGo (s : State) : State :=
  s.forEach s.moves (fun s m => match s.moves.find? (fun x => x.parcel == m.parcel && x.piece == m.piece) with
    | some m => s.moveStep m
    | none => s)

/-- A tier T0 destination has the lines (R55, R417). -/
def State.roomForPiece (s : State) (p k : Nat) : Bool :=
  let x := s.parcel p
  let failed := (List.range 12).any s.stackFailed
  (s.setReloc p k { s.reloc p k with phase := 1, toPlace := 0 }).fits
    && !(failed && (x.hashed || x.guarded || s.stackFailed x.stack))

/-- The unused borrowed piece a move into tier T1 takes (R415). -/
def State.freeBorrowed (s : State) (device : BitVec 14) (parcel piece : Nat) : Option (Nat × Borrow) :=
  (s.borrowOf device parcel).filter (fun b => !b.2.used.getLsbD piece)

/-- A write of GL_MOVE_CMD (R417, R556). -/
def State.moveCommand (s : State) (w : Word) : State :=
  let op := field w 0 4
  let p := field w 4 11
  let k := field w 15 5
  let toPlace := field w 20 2
  let arg := s.reg Reg.GL_MOVE_ARG
  let device := BitVec.ofNat 14 (field arg 0 14)
  let r := s.reloc p k
  if op = 0 then s
  else s.command moveRegs (fun s =>
    if op ≠ 1 ∨ r.place = 3 ∨ ((toPlace = 0 ∨ toPlace = 2) ∧ toPlace = r.place) ∨ ((toPlace = 1 ∨ toPlace = 3) ∧ s.isSelf device) then s.done moveRegs 3
    else if s.mode ≠ .service then s.done moveRegs 5
    else if r.phase ≠ 0 ∨ 16 ≤ s.moves.length then s.done moveRegs 1
    else if (toPlace = 0 ∧ !s.roomForPiece p k) ∨ (toPlace = 1 ∧ (s.freeBorrowed device (field arg 16 11) (field arg 27 5)).isNone) then
      s.done moveRegs 2
    else if (s.parcel p).state ≠ .granted then s.done moveRegs 4
    else
      let m : Move := { parcel := p, piece := k, toPlace := toPlace, device := device, dparcel := field arg 16 11,
                        dpiece := field arg 27 5, tag := BitVec.ofNat 16 (field arg 32 16) }
      let s := s.setReloc p k { r with phase := 1, toPlace := toPlace }
      let s := match (if toPlace = 1 then s.freeBorrowed device m.dparcel m.dpiece else none) with
        | some (i, b) => s.setBorrow i { b with used := withBit b.used m.dpiece }
        | none => s
      (({ s with moves := s.moves ++ [m] }).countMoves).done moveRegs 0)

/-- MOVE_COPY_DONE: the copy and its passes have ended; PHASE CUT (R418). -/
def State.moveCopyDone (s : State) (p k : Nat) : State :=
  match s.moves.find? (fun m => m.parcel == p && m.piece == k) with
  | none => s
  | some m =>
    let r := s.reloc p k
    if r.phase = 1 ∧ m.copied ≠ 0 ∧ !s.copying p k ∧ !(m.passes < 4 ∧ 1024 < m.dirty.length) then
      (s.setReloc p k { r with phase := 2 }).modMove p k (fun m => { m with cutAt := s.now })
    else s

/-- MOVE_CUT_DRAINED: the last lines are copied; the entry settles at the new place, the old one is released; event 0x2130
(R418, R421). -/
def State.moveCutDrained (s : State) (p k : Nat) : State :=
  match s.moves.find? (fun m => m.parcel == p && m.piece == k) with
  | none => s
  | some m =>
    let r := s.reloc p k
    if r.phase = 2 ∧ m.dirty = [] ∧ !s.copying p k ∧ s.pieceQuiet p k then
      let cut := s.now - m.cutAt
      let s := s.setReloc p k m.dest
      let s : State := { s with moves := s.moves.filter (fun x => !(x.parcel == p && x.piece == k)),
                                txns := s.txns.map (fun e => if inPiece p k e.1 then
                                  (e.1, e.2.map (fun t => { t with late := false })) else e) }
      let s := ((s.freePlace p k { r with phase := 0, toPlace := 0 }).countMoves).raiseTo Reg.GL_MOVE_CUT 0 32 cut
      s.raise 0x2130 fromController [(2, p), (1, k), (1, r.place), (1, m.toPlace), (8, cut)]
    else s

/-! ### Lending (R414 to R416) -/

def lendRegs : CmdRegs := ⟨Reg.GL_LEND_CMD, Reg.GL_MOVE_STATUS, Reg.GL_MOVE_DROPS⟩

def State.lendOp (s : State) (p : Nat) (d : BitVec 14) : State :=
  if s.isSelf d then s.done lendRegs 3
  else if (s.parcel p).rights ≠ 0 ∨ (mfind s.lends p).isSome then s.done lendRegs 1
  else if (s.parcel p).state ≠ .granted then s.done lendRegs 4
  else ({ s with lends := mset s.lends p d }).done lendRegs 0

def State.unlendOp (s : State) (p : Nat) : State :=
  if (mfind s.lends p).isNone then s.done lendRegs 4 else ({ s with lends := merase s.lends p }).done lendRegs 0

def State.borrowOp (s : State) (p : Nat) (d : BitVec 14) : State :=
  if s.isSelf d then s.done lendRegs 3
  else
    match (List.range 256).find? (fun i => !(s.borrowAt i).valid) with
    | none => s.done lendRegs 1
    | some i =>
      if (s.borrowOf d p).isSome then s.done lendRegs 1
      else (s.setBorrow i { lender := d, parcel := p, valid := true }).done lendRegs 0

def State.unborrowOp (s : State) (p : Nat) (d : BitVec 14) : State :=
  match s.borrowOf d p with
  | none => s.done lendRegs 4
  | some (i, b) => if b.used ≠ 0 then s.done lendRegs 1 else (s.setBorrow i {}).done lendRegs 0

/-- A write of GL_LEND_CMD. -/
def State.lendCommand (s : State) (w : Word) : State :=
  let op := field w 0 4
  let p := field w 4 11
  let d := BitVec.ofNat 14 (field w 16 14)
  if op = 0 then s
  else s.command lendRegs (fun s =>
    if op = 1 then s.lendOp p d
    else if op = 2 then s.unlendOp p
    else if op = 3 then s.borrowOp p d
    else if op = 4 then s.unborrowOp p d
    else s.done lendRegs 3)

end Sys2Proof.Machine
end

