-- ==== Sys2Proof/Machine/Custody.lean ====
section
/-!
DEFINITION. Custody (chapter 16): holdings and their records, the custody exchange at both ends, expiry of records, the custody
commands.
-/

namespace Sys2Proof.Machine

/-! ### Records (R430, Table 16-5) -/

def cuFree : Nat := 0
def cuOwner : Nat := 1
def cuOffered : Nat := 2
def cuAccepted : Nat := 3
def cuReleased : Nat := 4
def cuUnresolved : Nat := 5

/-- Records the custody region holds. -/
def custodyRoom : Nat := 16777216

/-- A record that holds data. -/
def Custody.holds (x : Custody) : Bool := x.state == 1 || x.state == 2 || x.state == 3 || x.state == 5

/-- A record that the RELEASE of its generation makes OWNER: ACCEPTED, or UNRESOLVED from ACCEPTED (R435). -/
def Custody.awaitsRelease (x : Custody) : Bool := x.state == cuAccepted || (x.state == cuUnresolved && x.prior == cuAccepted)

/-- The eight words of a record of a key of a slot. -/
def Custody.words (x : Custody) (t key : Nat) : List Word :=
  [BitVec.ofNat 64 key,
   pack [(3, x.state), (3, x.prior), (10, t), (16, x.ctx.toNat), (14, x.peer.toNat)],
   pack [(32, x.gen.toNat), (32, x.length)],
   BitVec.ofNat 64 (x.offset % 2 ^ 46),
   BitVec.ofNat 64 x.due, 0, 0, 0]

/-- Bench-clock edges of milliseconds and of microseconds. -/
def msEdges (n : Nat) : Nat := 25000 * n
def usEdges (n : Nat) : Nat := 25 * n

/-- Event 0x6132. -/
def State.unresolved (s : State) (t key : Nat) : State :=
  let x := s.hold t key
  let s := s.setHold t key { x with state := cuUnresolved, prior := x.state }
  s.raise 0x6132 fromController [(2, t), (8, key), (4, x.gen.toNat), (1, x.state), (2, x.peer.toNat)]

/-! ### Holding operations (R431) -/

/-- The KEY of a holding operation. -/
def holdKey (b : DescBits) : Nat := bf b 127 64

/-- The OWNER record an operation needs, or its refusal; the status for a record offered by another operation is not stated
and is a free value (notes assumption 28). -/
def ownerRecord (t key : Nat) : EngM Custody := fun s =>
  let x := s.hold t key
  if x.state = cuOwner then (.ok x, s)
  else if x.state = cuFree then (.error (.fail 0x05 stNoParcel 0 0), s)
  else if x.state = cuOffered then
    let (v, s) := s.fresh
    (.error (.fail 0x05 (v.toNat % 256) 0 0), s)
  else (.error (.fail 0x05 stElsewhere 0 0), s)

/-- HOLD_CREATE: RESULT. -/
def createOp (t q : Nat) (d : Desc) (tag : BitVec 16) : EngM Word := do
  let b := d.body
  let va := bf b 191 128
  let len := bf b 223 192
  let g ← translate (qpEng t q d.index) tag accRead va
  let s ← engGet
  let off := (gpaOff g).toNat
  if gpaVer g ≠ 1 ∨ !s.isSelf (gpaDev g) ∨ 2 ^ 41 < off + len then engFail 0x05 stNoParcel va g
  else if (s.hold t (holdKey b)).state ≠ cuFree then engFail 0x05 stElsewhere va g
  else if custodyRoom ≤ s.custody.length then pure (BitVec.ofNat 64 (2 ^ 63))
  else
    engDo (fun s => s.setHold t (holdKey b) { state := cuOwner, ctx := tag, gen := 1, length := len, offset := off,
                                               due := s.edges + msEdges (bf b 255 224) })
    pure 1

def State.holdCreate (s : State) (t q : Nat) : State :=
  match s.nextDesc t q 0x31 with
  | none => s
  | some d => s.runDesc t q d none (createOp t q d (s.qpCtx t q)) (fun s r => s.descDone t q d.index r 0)

def State.holdRenew (s : State) (t q : Nat) : State :=
  match s.nextDesc t q 0x32 with
  | none => s
  | some d =>
    s.runDesc t q d none (ownerRecord t (holdKey d.body)) (fun s x =>
      (s.setHold t (holdKey d.body) { x with ctx := s.qpCtx t q, due := s.edges + msEdges (bf d.body 255 224) }).descDone
        t q d.index 0 0)

def State.holdDrop (s : State) (t q : Nat) : State :=
  match s.nextDesc t q 0x33 with
  | none => s
  | some d =>
    s.runDesc t q d none (ownerRecord t (holdKey d.body)) (fun s _ =>
      (s.setHold t (holdKey d.body) {}).descDone t q d.index 0 0)

/-! ### The offering end (R433, R436) -/

/-- A custody frame to the receiver. -/
def custodyFrame (typ : Nat) (tag : BitVec 16) (dst : BitVec 14) (addr : BitVec 46) (gen : BitVec 32) (gauge : Nat) (data : Line) :
    Frame :=
  { typ := BitVec.ofNat 8 typ, vc := 4, ctx := tag, dst := dst, addr := addr,
    aux := pack [(32, gen.toNat), (8, gauge)], data := data }

/-- HOLD_OFFER before its OFFER: the record becomes OFFERED and OFFER is sent. -/
def offerOp (t q : Nat) (d : Desc) (tag : BitVec 16) : EngM Unit := do
  let b := d.body
  let key := holdKey b
  let x ← ownerRecord t key
  let e := qpEng t q d.index
  let va := bf b 191 128
  let g ← translate e tag accWrite va
  let payload := lineOfBytes (bytesOfNat 8 key ++ bytesOfNat 4 x.length ++ bytesOfNat 4 (bf b 223 192))
  let f := custodyFrame 0x60 tag (gpaDev g) (gpaOff g) (x.gen + 1) (bf b 231 224) payload
  engDo (fun s =>
    let s := s.setHold t key { x with state := cuOffered, ctx := tag, peer := gpaDev g }
    let s := s.modDesc t q d.index (fun d => { d with stage := 1, acc := [BitVec.ofNat 64 g] })
    s.engSend e.die e { f with ver := BitVec.ofNat 4 (gpaVer g) } va)

def State.holdOffer (s : State) (t q : Nat) : State :=
  match s.nextDesc t q 0x34 with
  | none => s
  | some d =>
    if d.stage ≠ 0 then s
    else s.runDesc t q d none (offerOp t q d (s.qpCtx t q)) (fun s _ => s)

/-- ACCEPT for an offer under way: the record is RELEASED at the new generation, and RELEASE is sent unless the tag has been
fenced; an ACCEPT of another generation is discarded. -/
def State.acceptFor (s : State) (t q : Nat) (d : Desc) (r : OutReq) (f : Frame) : State :=
  let key := holdKey d.body
  let x := s.hold t key
  if f.aux.toNat % 2 ^ 32 ≠ (x.gen + 1).toNat then s
  else
    let s : State := { s with out := s.out.erase r }
    let s := s.setHold t key { x with state := cuReleased, gen := x.gen + 1, due := s.edges + msEdges (s.gzv 0x2050 0x01) }
    let s := s.modDesc t q d.index (fun d => { d with stage := 2 })
    if d.phase = .fenced then s
    else s.engSend r.die (qpEng t q d.index) (custodyFrame 0x62 r.f.ctx r.f.dst r.f.addr (x.gen + 1) 0 0) r.va

/-- The descriptor an offer's request belongs to. -/
def State.offerOf (s : State) (r : OutReq) : Option (Nat × Nat × Desc) :=
  match r.purpose with
  | .eng (.qp t q i) => (s.desc t q i).bind (fun d => if opOf d.body = 0x34 ∧ d.stage ≠ 0 then some (t, q, d) else none)
  | _ => none

/-- The status that answers an OFFER or a RELEASE takes its effect on the record and the descriptor (Table 16-9). -/
def State.offerAnswered (s : State) (t q : Nat) (d : Desc) (status : Nat) : State :=
  let key := holdKey d.body
  let x := s.hold t key
  let gpa := ((d.acc.head?).getD 0).toNat
  let va := bf d.body 191 128
  let fenced := d.phase == .fenced
  if d.stage = 1 then
    let back := status = stContext ∨ status = stNoParcel ∨ status = stFenced
    let s := if back then s.setHold t key { x with state := cuOwner } else s.unresolved t key
    if fenced then s
    else s.descFail t q d.index 0x05 (if back ∨ status = stElsewhere then status else stTargetLost) va gpa none
  else
    let s := if status = stOk then s
      else s.raise 0x6133 fromController [(2, t), (8, key), (4, x.gen.toNat), (2, x.peer.toNat), (1, status)]
    if fenced then s
    else s.descDone t q d.index (pack [(32, x.gen.toNat), (31, 0), (1, bitN (status ≠ stOk))]) (BitVec.ofNat 64 x.peer.toNat)

/-- Answers to OFFERs and RELEASEs taken. -/
def offersGo : Nat → State → State
  | 0, s => s
  | fuel + 1, s =>
    match s.ans.findSome? (fun a => match a.eng with
      | .qp t q i => if a.settled then (s.desc t q i).bind (fun d =>
          if opOf d.body = 0x34 ∧ d.stage ≠ 0 then some (a, t, q, d) else none) else none
      | _ => none) with
    | none => s
    | some (a, t, q, d) => offersGo fuel (({ s with ans := s.ans.erase a }).offerAnswered t q d a.f.status.toNat)

def State.offersGo (s : State) : State := Machine.offersGo s.ans.length s

/-! ### The receiving end (R434, R435) -/

/-- The check of a custody request: steps 1 to 5 of Table 3-4, then, of every parcel touched, steps 7 and 8 with the right
WR where an extent is named (R434). -/
def State.checkCustody (s : State) (f : Frame) (len : Nat) (parcels : Bool) : Verdict :=
  let lo := f.addr.toNat
  let ps := (List.range ((lo + max len 1 - 1) / 2 ^ 30 - lo / 2 ^ 30 + 1)).map (lo / 2 ^ 30 + ·)
  if f.ver ≠ 1 ∨ 2 ^ 41 < lo + len ∨ 2 ^ 41 ≤ lo ∨ flagsBad f then .refuse stNoParcel
  else if s.isMgmt f.ctx then .refuse stContext
  else match s.ctxOf f.ctx with
  | none => .refuse stContext
  | some (_, c) =>
    if c.fenced then .refuse stFenced
    else if parcels && ps.any (fun p => !s.parcelAdmits p c.tenant 0b0010) then .refuse stNoParcel
    else if parcels && ps.any s.parcelLost then .refuse stTargetLost
    else .allow c.tenant

/-- The records of a slot. -/
def State.holdsOf (s : State) (t : Nat) : List (Nat × Custody) :=
  (s.custody.filter (fun e => e.1 / 2 ^ 64 == t)).map (fun e => (e.1 % 2 ^ 64, e.2))

/-- ACCEPT, in the shape of its OFFER. -/
def State.sendAccept (s : State) (f : Frame) (o : Origin) : State :=
  let r := { respTo f 0x61 stOk (pack [(32, f.aux.toNat)]) 0 with vc := 4 }
  (s.countStatus f.ctx stOk).deliverResp o r

/-- OFFER at the receiver (Table 16-8). -/
def State.offerArrives (s : State) (f : Frame) (o : Origin) : State :=
  let key := (lineWord f.data 0).toNat
  let len := field (lineWord f.data 1) 0 32
  let gen : BitVec 32 := f.aux.setWidth 32
  match s.checkCustody f len true with
  | .refuse st => s.respond f o 0x50 st 0 0
  | .allow t =>
    let x := s.hold t key
    if x.state = cuAccepted ∧ x.gen = gen ∧ x.peer = f.src then s.sendAccept f o
    else if (x.state ≠ cuFree ∧ gen.toNat ≤ x.gen.toNat)
        ∨ (s.holdsOf t).any (fun e => e.1 != key && e.2.offset == f.addr.toNat) then s.respond f o 0x50 stElsewhere 0 0
    else if custodyRoom ≤ s.custody.length then s.respond f o 0x50 stRetry 0 0
    else
      let g := field f.aux 32 8
      let s := s.setHold t key { state := cuAccepted, ctx := f.ctx, peer := f.src, gen := gen, length := len,
                                 offset := f.addr.toNat, due := s.edges + usEdges (s.gzv 0x2050 0x02),
                                 retain := field (lineWord f.data 1) 32 32 }
      let s := s.bump (Reg.TN_GAUGE_COUNT t g) 0 64 (if s.packetMode t g then 1 else len)
      s.sendAccept f o

/-- RELEASE at the receiver (R435). -/
def State.releaseArrives (s : State) (f : Frame) (o : Origin) : State :=
  let gen : BitVec 32 := f.aux.setWidth 32
  match s.checkCustody f 0 false with
  | .refuse st => s.respond f o 0x50 st 0 0
  | .allow t =>
    let at_ := (s.holdsOf t).filter (fun e => e.2.offset == f.addr.toNat)
    match at_.find? (fun e => e.2.awaitsRelease && e.2.gen == gen) with
    | some (key, x) =>
      let prior := if x.state = cuUnresolved then 0 else x.prior
      (s.setHold t key { x with state := cuOwner, prior := prior, ctx := f.ctx, due := s.edges + msEdges x.retain }).respond f o 0x50 stOk 0 0
    | none =>
      let owner := at_.any (fun e => e.2.state == cuOwner && decide (gen.toNat ≤ e.2.gen.toNat))
      s.respond f o 0x50 (if owner then stOk else stElsewhere) 0 0

/-! ### Time (R431, R435, R436) -/

/-- An OWNER record's DUE passes. -/
def State.holdingExpires (s : State) (t key : Nat) : State :=
  let x := s.hold t key
  if x.state = cuOwner then
    let s := ((s.atLeast (s.timeOfEdge x.due)).setHold t key {}).bump (Reg.TN_HOLD t) 32 32 1
    s.raise 0x6130 fromController [(2, t), (8, key), (4, x.gen.toNat)]
  else s

/-- An ACCEPTED record's DUE passes. -/
def State.acceptedExpires (s : State) (t key : Nat) : State :=
  let x := s.hold t key
  if x.state = cuAccepted then (s.atLeast (s.timeOfEdge x.due)).unresolved t key else s

/-- A RELEASED record's tombstone time passes. -/
def State.tombstoneExpires (s : State) (t key : Nat) : State :=
  let x := s.hold t key
  if x.state = cuReleased then (s.atLeast (s.timeOfEdge x.due)).setHold t key {} else s

/-! ### The custody commands (R439, Table 16-11) -/

/-- GL_CUSTODY_VIEW. -/
def State.showHold (s : State) (t key : Nat) (x : Custody) : State :=
  s.forEach ((List.range 8).zip (x.words t key)) (fun s w => s.setReg (Reg.GL_CUSTODY_VIEW w.1) w.2)

/-- A record set to a new value by a command, and shown. -/
def State.putHold (s : State) (t key : Nat) (x : Custody) : State :=
  ((s.setHold t key (if x.state = cuFree then {} else x)).showHold t key x).done custodyRegs 0

/-- A write of GL_CUSTODY_CMD. -/
def State.custodyCommand (s : State) (w : Word) : State :=
  let op := field w 0 4
  let t := field w 4 10
  let key := (s.reg Reg.GL_CUSTODY_KEY).toNat
  if op = 0 then s
  else s.command custodyRegs (fun s =>
    let x := s.hold t key
    let due := s.edges + msEdges (s.gzv 0x2050 0x03)
    if 4 < op then s.done custodyRegs 3
    else if x.state = cuFree then s.done custodyRegs 1
    else if op = 1 then (s.showHold t key x).done custodyRegs 0
    else if op = 2 then
      if x.state = cuUnresolved ∧ x.prior = cuAccepted then s.putHold t key { x with state := cuOwner, prior := 0, due := due }
      else s.done custodyRegs 2
    else if op = 3 then
      if x.state = cuUnresolved ∧ x.prior = cuOffered then
        s.putHold t key { x with state := cuOwner, prior := 0, due := due,
                                 gen := BitVec.ofNat 32 (s.rf Reg.GL_CUSTODY_GEN 0 32) }
      else s.done custodyRegs 2
    else if x.state = cuOffered ∨ x.state = cuAccepted then s.done custodyRegs 2
    else s.putHold t key { x with state := cuFree })

end Sys2Proof.Machine
end

