-- ==== Sys2Proof/Machine/Cascade.lean ====
section
/-!
DEFINITION. The cascade (chapter 16): a built-in task that stages windows of a program, delivers them and seals their marks.
-/

namespace Sys2Proof.Machine

/-! ### Window entries (Table 16-4) -/

/-- A window entry. -/
structure Window where
  src : Nat
  dst : Nat
  bytes : Nat
  deadline : Nat
  fallback : Nat
  gateId : Nat
  gate : Bool
  altBytes : Nat
  altVa : Nat
  gateT : Nat
  mark : Nat
  bad : Bool

/-- The entry in 64 bytes. -/
def windowOf (l : List Byte) (slotBytes : Nat) : Window :=
  let n (i w : Nat) : Nat := natOfBytes ((l.drop i).take w)
  let fb := n 24 1
  let fl := n 26 1
  let badAlt := fb == 1 && (n 28 4 % 128 != 0 || n 32 8 % 128 != 0)
  { src := n 0 8, dst := n 8 8, bytes := n 16 4, deadline := n 20 4, fallback := fb, gateId := n 25 1, gate := fl % 2 == 1,
    altBytes := n 28 4, altVa := n 32 8, gateT := n 40 8, mark := n 48 8,
    bad := n 0 8 % 128 != 0 || n 8 8 % 128 != 0 || n 16 4 % 128 != 0 || decide (slotBytes < n 16 4) || decide (2 < fb)
      || decide (1 < fl) || n 27 1 != 0 || badAlt || n 48 8 % 128 != 0 || n 56 8 != 0 }

/-- Kept answers of the lines a read has used are given up. -/
def forget (e : Eng) (tag : BitVec 16) (lines : List Nat) : EngM Unit := do
  let gs ← engAll (translate e tag accRead) lines
  engDo (fun s => { s with ans := s.ans.filter (fun a =>
    !(a.eng == e && gs.any (fun g => a.f.src == gpaDev g && a.f.line == (gpaOff g).toNat / 128))) })

/-- Bytes read once: the answers are not kept for another read. -/
def readOnce (e : Eng) (tag : BitVec 16) (va n : Nat) : EngM (List Byte) := do
  let l ← readBytes e tag va n
  forget e tag (linesOfVa va n)
  pure l

/-- Window entry i of a descriptor's program; an entry that breaks Table 16-4 ends the task. -/
def readWindow (e : Eng) (tag : BitVec 16) (b : DescBits) (i : Nat) : EngM Window := do
  let va := bf b 127 64 + 64 * i
  let l ← readOnce e tag va 64
  let w := windowOf l (bf b 223 192)
  if w.bad then engFail 0x10 stOk va 0 else pure w

/-! ### The task -/

/-- The cascade a row runs: the oldest of the queue pair that has started. -/
def State.cascOf (s : State) (t q : Nat) : Option (Desc × Casc) :=
  ((s.qp t q).descs.find? (fun d => opOf d.body == 0x30 && d.phase == .working && (mfind (s.qp t q).casc d.index).isSome)).bind
    (fun d => if (s.qpParked t q).getD d.index = d.index then some (d, mget {} (s.qp t q).casc d.index) else none)

def State.setCasc (s : State) (t q i : Nat) (c : Casc) : State :=
  s.setQp t q { s.qp t q with casc := mset (s.qp t q).casc i c }

/-- CASCADE: its built-in task is placed and its time starts. -/
def State.cascade (s : State) (t q : Nat) : State :=
  match (s.qp t q).descs.find? (fun d => opOf d.body == 0x30 && (d.phase == .fetched || d.phase == .working)
      && (mfind (s.qp t q).casc d.index).isNone) with
  | none => s
  | some d => s.runBuiltIn t q d (pure () : EngM Unit) (fun s _ => s.setCasc t q d.index { start := s.now })

/-- Where a window's slot of the staging area starts. -/
def slotVa (b : DescBits) (i : Nat) : Nat := bf b 191 128 + bf b 223 192 * (i % 2)

/-- The lines of a run of bytes, written by a frame form. -/
def writeLines (e : Eng) (tag : BitVec 16) (va : Nat) (bytes : List Byte) (form : Frame) : EngM Unit :=
  engEach (fun i => writeVa e tag (va + 128 * i) { form with data := lineOfBytes ((bytes.drop (128 * i)).take 128) })
    (List.range (bytes.length / 128))

/-- Window i staged: read from SRC_VA, written into its slot (R426). -/
def stageOp (e : Eng) (tag : BitVec 16) (b : DescBits) (i : Nat) : EngM Unit := do
  let w ← readWindow e tag b i
  let bytes ← readBytes e tag w.src w.bytes
  translateAll e tag accWrite (linesOfVa (slotVa b i) w.bytes)
  forget e tag (linesOfVa w.src w.bytes)
  writeLines e tag (slotVa b i) bytes { typ := 0x18 }

/-- Writes of the staging area under way: the cascade's unordered ones; of a delivery: its ordered ones. -/
def State.cascWrites (s : State) (e : Eng) (ordered : Bool) : Bool :=
  s.out.any (fun r => r.purpose == .eng e && r.f.ord == ordered && (r.f.typ == 0x18 || r.f.typ == 0x1A))

/-- Answers OK to the cascade's writes are of no further use. -/
def State.dropAcks (s : State) (e : Eng) : State :=
  { s with ans := s.ans.filter (fun a => !(a.eng == e && a.settled && a.f.typ == 0x50 && a.f.status == 0)) }

/-- The time by which a window must be staged (R426). -/
def Casc.due (c : Casc) (w : Window) : Nat := c.start + 1000 * w.deadline

/-- A window misses: its staging is abandoned and it takes its FALLBACK. -/
def State.cascMiss (s : State) (t q : Nat) (d : Desc) (c : Casc) (w : Window) : State :=
  let e := qpEng t q d.index
  let s : State := { s with out := s.out.map (fun r =>
    if r.purpose = .eng e ∧ !r.f.ord ∧ (r.f.typ = 0x18 ∨ r.f.typ = 0x12) then { r with purpose := .eng (.qp t q 262144) } else r) }
  let s := s.setCasc t q d.index { c with outcomes := c.outcomes ++ [w.fallback + 1], staging := false }
  s.bump (Reg.TN_CASCADE_MISS t) 0 64 1

/-- A window's staging may begin, or has: the window before has ended its own, the one before that has been delivered. -/
def Casc.stages (c : Casc) (b : DescBits) : Bool :=
  decide (c.outcomes.length < bf b 236 224) && (decide (c.outcomes.length < 2) || decide (c.outcomes.length ≤ c.delivered + 1))

/-- A refused write of the cascade ends its task (R425, R86). -/
def State.cascRefused (s : State) (t q : Nat) (d : Desc) : Option State :=
  (s.refusedAns (qpEng t q d.index)).map (fun a =>
    s.descFail t q d.index 0x05 a.f.status.toNat a.va (ansGpa a.f) (s.jetOf t q d.index))

/-- CASCADE_STAGED: the next window's staging is sent, and completes once its writes have; one that completes after its
DEADLINE has missed it. -/
def State.cascadeStaged (s : State) (t q : Nat) : State :=
  match s.cascOf t q with
  | none => s
  | some (d, c) =>
    let e := qpEng t q d.index
    let tag := s.qpCtx t q
    let i := c.outcomes.length
    match s.cascRefused t q d with
    | some s => s
    | none =>
      if !c.stages d.body then s
      else
        let s := if c.staging then s else
          s.runBuiltIn t q d (stageOp e tag d.body i) (fun s _ => s.setCasc t q d.index { c with staging := true })
        match s.cascOf t q with
        | some (d, c) =>
          if c.staging ∧ c.outcomes.length = i ∧ !s.cascWrites e false ∧ (s.refusedAns e).isNone then
            s.runBuiltIn t q d (readWindow e tag d.body i) (fun s w =>
              if c.due w < s.now then s.cascMiss t q d c w
              else (s.dropAcks e).setCasc t q d.index { c with outcomes := c.outcomes ++ [0], staging := false })
          else s
        | none => s

/-- CASCADE_DEADLINE: the next window's deadline passes before it is staged. -/
def State.cascadeDeadline (s : State) (t q : Nat) : State :=
  match s.cascOf t q with
  | none => s
  | some (d, c) =>
    if c.outcomes.length < bf d.body 236 224 then
      s.runBuiltIn t q d (readWindow (qpEng t q d.index) (s.qpCtx t q) d.body c.outcomes.length) (fun s w =>
        (s.atLeast (c.due w)).cascMiss t q d c w)
    else s

/-- The mark of window i (R428). -/
def markLine (i outcome bytes stamp : Nat) : Line :=
  lineOfBytes (bytesOfNat 4 i ++ bytesOfNat 1 outcome ++ [0, 0, 0] ++ bytesOfNat 8 bytes ++ bytesOfNat 8 stamp)

/-- Window i delivered: its bytes by ordered WriteLines, then its mark as a gauge-tagged seal store (R427, R428). -/
def deliverOp (t : Nat) (e : Eng) (tag : BitVec 16) (b : DescBits) (i outcome : Nat) : EngM Unit := do
  let w ← readWindow e tag b i
  let s ← engGet
  if w.gate ∧ (s.reg (Reg.TN_GAUGE_COUNT t w.gateId)).toNat < w.gateT then engWait
  else
    let n := if outcome = 2 then w.altBytes else if outcome = 3 then 0 else w.bytes
    let src := if outcome = 0 then slotVa b i else if outcome = 2 then w.altVa else w.src
    let bytes ← readBytes e tag src n
    translateAll e tag accWrite (linesOfVa w.dst n)
    let gm ← translate e tag accWrite w.mark
    let gd ← if n = 0 then pure gm else translate e tag accWrite w.dst
    if gpaDev gm ≠ gpaDev gd then engFail 0x10 stOk w.mark gm
    else
      forget e tag (linesOfVa src n)
      writeLines e tag w.dst bytes { typ := 0x18, ord := true }
      let s ← engGet
      writeVa e tag w.mark { typ := 0x1A, ord := true, isSeal := true, gauge := BitVec.ofNat 8 (bf b 244 237),
                             data := markLine i outcome n s.edges }

/-- A delivery whose mark has been written is done; the last one completes the descriptor (R427, R429). -/
def State.cascDelivered (s : State) (t q : Nat) (d : Desc) (c : Casc) : State :=
  let e := qpEng t q d.index
  if c.marking && !s.cascWrites e true then
    match s.cascRefused t q d with
    | some s => s
    | none =>
      let c := { c with delivered := c.delivered + 1, marking := false }
      let s := (s.dropAcks e).setCasc t q d.index c
      if c.delivered = bf d.body 236 224 then
        let n (k : Nat) : Nat := (c.outcomes.filter (· == k)).length
        s.descDone t q d.index (pack [(16, n 0), (16, n 1), (16, n 2), (16, n 3)]) 0
      else s
  else s

/-- Every cascade whose mark has been written carried on. -/
def State.cascadesGo (s : State) : State :=
  s.forEach (s.qps.filter (fun e => e.2.casc.any (fun c => c.2.marking))) (fun s e =>
    s.forEach e.2.casc (fun s c =>
      match s.desc (e.1 / 64) (e.1 % 64) c.1, mfind (s.qp (e.1 / 64) (e.1 % 64)).casc c.1 with
      | some d, some c => if d.phase = .working then s.cascDelivered (e.1 / 64) (e.1 % 64) d c else s
      | _, _ => s))

/-- CASCADE_DELIVER: the next window with an outcome is delivered once the mark before it has been written. -/
def State.cascadeDeliver (s : State) (t q : Nat) : State :=
  match s.cascOf t q with
  | none => s
  | some (d, c) =>
    match c.marking, c.outcomes.drop c.delivered with
    | false, o :: _ =>
      s.runBuiltIn t q d (deliverOp t (qpEng t q d.index) (s.qpCtx t q) d.body c.delivered o) (fun s _ =>
        s.setCasc t q d.index { c with marking := true })
    | _, _ => s

end Sys2Proof.Machine
end

