-- ==== Sys2Proof/Machine/Jets.lean ====
section
/-!
DEFINITION. A leg running on a jet (R334 to R336, R345 to R347, R362): which instruction issues next, results landing after their
latencies, loops, waits, the bowl and its gather port, accesses of open legs and what their answers do.
-/

namespace Sys2Proof.Machine

/-! ### Results landing (R334) -/

/-- A result reaches its register or the bowl. -/
def JRegs.apply (g : JRegs) : JDest → JRegs
  | .x r v => g.setX r v
  | .v r v m => g.setV r ((g.getV r &&& ~~~m) ||| (v &&& m))
  | .vm r v => g.setVm r v
  | .ms r v => g.setMs r v
  | .ac r v => g.setAc r v
  | .acSat r => g.setAc r { g.getAc r with sat := true }
  | .pq base v => { g with pq := ((List.range v.length).zip v).foldl (fun m e => mput 0 m (base + e.1) e.2) g.pq }
  | .bowl a v => g.setBowl a v

/-- Order of results: by landing cycle, then issue cycle, then slot. -/
def Pend.before (a b : Pend) : Bool :=
  decide (a.land < b.land) || (a.land == b.land && (decide (a.issued < b.issued) || (a.issued == b.issued && decide (a.slot ≤ b.slot))))

def insertPend (p : Pend) : List Pend → List Pend
  | [] => [p]
  | q :: rest => if p.before q && !q.before p then p :: q :: rest else q :: insertPend p rest

/-- Results due by a cycle land. -/
def Task.landUpTo (t : Task) (c : Nat) : Task :=
  let due := (t.pend.filter (fun p => decide (p.land ≤ c))).foldl (fun l p => insertPend p l) []
  { t with pend := t.pend.filter (fun p => !decide (p.land ≤ c)), regs := due.foldl (fun g p => g.apply p.dest) t.regs }

/-- Every result lands: the jet has waited for longer than any latency (notes assumption 23). -/
def Task.landAll (t : Task) : Task :=
  let due := t.pend.foldl (fun l p => insertPend p l) []
  { t with pend := [], regs := due.foldl (fun g p => g.apply p.dest) t.regs }

/-- A result under way. -/
def Task.later (t : Task) (slot lat : Nat) (d : JDest) : Task :=
  { t with pend := t.pend ++ [{ land := t.cycle + lat, issued := t.cycle, slot := slot, dest := d }] }

/-! ### Which instruction issues next (R347) -/

/-- The bundle after a loop's last one: back to the start of the innermost loop that ends here and has runs left. -/
def loopNext : Nat → Task → Task
  | 0, t => { t with pc := t.pc + 1 }
  | fuel + 1, t =>
    let here := (t.regs.lc.filter (fun e => e.2.last == t.pc && e.2.count != 0))
    match here.foldl (fun (a : Option (Nat × LoopCtr)) e => match a with
      | none => some e
      | some b => if b.2.first < e.2.first then some e else some b) none with
    | none => { t with pc := t.pc + 1 }
    | some (k, c) =>
      if 1 < c.count.toNat then
        { t with pc := c.first, regs := { t.regs with lc := mput {} t.regs.lc k { c with count := c.count - 1 } } }
      else loopNext fuel { t with regs := { t.regs with lc := mput {} t.regs.lc k {} } }

/-- The bundle ends: the next one issues a cycle later, or where a throttled open leg or a translated access holds it (R362,
R486). -/
def Task.endBundle (t : Task) (step : Nat) (target : Option Nat) : Task :=
  let t := { t with cycle := t.cycle + max step t.gap, gap := 0, slot := 0 }
  match target with
  | some n => { t with pc := n }
  | none => loopNext 5 t

/-- What the leg's code has next: an instruction of a slot, a refused bundle, or nothing that can issue. n counts the bundles
ended on the way. -/
inductive Next where
  | at_ (t : Task) (slot n : Nat)
  | bad (t : Task) (n : Nat)
  | stop (t : Task) (n : Nat)

/-- OP of slot k of a bundle. -/
def opAt (b : BitVec 256) : Nat → Nat
  | 0 => slotOp (memorySlot b)
  | 1 => slotOp (scalarSlot b)
  | 2 => slotOp (vectorSlot b)
  | _ => slotOp (controlSlot b)

/-- The next instruction that is no NOP, in slot order memory, scalar, vector, control. -/
def nextGo (step : Nat) : Nat → Task → Nat → Next
  | 0, t, n => .stop t n
  | fuel + 1, t, n =>
    if t.ended.isSome || (t.missing && t.slot == 0) then .stop t n
    else match t.leg.code[t.pc]? with
      | none => .bad t n
      | some b =>
        if t.slot = 0 && bundleBad t.leg.exact b then .bad t n
        else match ((List.range 4).drop t.slot).find? (fun k => opAt b k != 0) with
          | some k => .at_ t k n
          | none => nextGo step fuel (t.endBundle step none) (n + 1)

/-- Cycles from one bundle of a leg to the next: an open leg's is every second cycle from throttle level 1 on (R486). -/
def State.bundleStep (s : State) (t : Task) : Nat :=
  if !t.leg.exact && decide (0 < s.rf Reg.GL_PWR_STATE 0 3) then 2 else 1

/-- The task running on a jet. -/
def State.runningTask (s : State) (j : Nat) : Option (Nat × Task) :=
  (s.jet j).running.map (fun r => (r, s.task j r))

/-! ### Accesses of open legs and their answers -/

/-- The line of a request's key in the remote-line cache. -/
def rlcKey (f : Frame) : Nat := (f.dst.toNat + 1) * 2 ^ 39 + f.line

/-- The bundle about to issue waits: an exact leg for E reads that return by this cycle; an open leg for its registers, for FC, a
line operation while an atomic of the task's is outstanding, an atomic while anything is (R214, R334, Table 13-9). -/
def legBlocked (t : Task) (b : BitVec 256) : Bool :=
  if t.leg.exact then t.ereads.any (fun e => decide (e.2 ≤ t.cycle))
  else if t.slot ≠ 0 then false
  else
    (lineOp (opAt b 0) && t.waits.any (fun w => match w with
      | .own _ _ _ (.old _) | .queued _ _ (.old _) => true
      | _ => false))
    || (opAt b 0 == 0x0C && !t.waits.isEmpty)
    ||
    t.waits.any (fun w => match w with
      | .own _ _ _ (.load v) | .own _ _ _ (.old v) | .rlcLoad _ _ (.load v) | .queued _ _ (.load v) | .queued _ _ (.old v) =>
        (bundleVregs b).contains v
      | _ => false)
    || (match t.waitFc with | some n => decide (t.regs.fc.toNat < n) | none => false)

/-- The running leg stands still: its next bundle waits, or none can issue. -/
def State.jetHeld (s : State) (t : Task) : Bool :=
  match nextGo (s.bundleStep t) 4096 t 0 with
  | .stop _ _ => true
  | .bad _ _ => false
  | .at_ t _ _ => legBlocked t (t.leg.code.getD t.pc 0)

/-- An answer does what its instruction says (Table 13-6). Where the leg stood still for it, everything pending has landed by then
(notes assumption 23). What ELD and FLD leave in the upper half of a vector register is not stated. -/
def State.deliverGoal (s : State) (j r : Nat) (g : JGoal) (data : Line) (held : Bool) : State :=
  let free := Config.freeVector s.free
  let s : State := match g with
    | .load _ => { s with free := s.free + 1 }
    | _ => s
  let t := if held then (s.task j r).landAll else s.task j r
  let low : BitVec 2048 := data.setWidth 2048
  let t := match g with
    | .load reg => { t with regs := t.regs.setV reg (low ||| (free >>> 1024 <<< 1024)) }
    | .old reg => { t with regs := t.regs.setV reg ((data.setWidth 128).setWidth 2048) }
    | .toBowl a =>
      let g := t.regs.setBowl a (lineBytes data 0 128)
      { t with regs := { g with fc := g.fc + 1 } }
    | .store fc => if fc then { t with regs := { t.regs with fc := t.regs.fc + 1 } } else t
  s.setTask j r t

/-- An access waits for its answer. -/
def State.addWait (s : State) (j r : Nat) (w : JWait) : State :=
  s.setTask j r { s.task j r with waits := (s.task j r).waits ++ [w] }

/-- A merge task writes: the index it merges has been written (R407). -/
def State.taskWrites (s : State) (j r : Nat) : State :=
  let t := s.task j r
  if t.system = 2 then
    { s with indexes := s.indexes.map (fun e =>
        if e.2.merging ∧ e.2.holding = some ⟨t.tenant, t.qp, t.desc⟩ then (e.1, { e.2 with wrote := true }) else e) }
  else s

/-- The line of a wait by its key of the cache; none for a request already sent. -/
def JWait.key : JWait → Option Nat
  | .own .. => none
  | .rlcLoad k .. => some k
  | .rlcStore k .. => some k
  | .queued f .. => some (rlcKey f)

/-- A request of the task's own to a line is not answered yet: the cache serves the task nothing of that line before (R213, R214). -/
def State.ownOut (s : State) (j r k : Nat) : Bool :=
  s.out.any (fun x => x.purpose == .eng (.jet j r) && (rlcKey x.f == k || rlcKey x.asked == k))

/-- A request of a task sent to its home; the answer is awaited. -/
def State.jetSendNow (s : State) (j r : Nat) (f : Frame) (va : Nat) (g : JGoal) : State :=
  let seq := (s.nextSeq f.dst.toNat f.ord).1
  (s.addWait j r (.own f.dst f.ord seq g)).engSend (dieOfJet j) (.jet j r) f va

/-- As jetSendNow, behind the task's earlier accesses of the line that wait for the cache (R213). -/
def State.jetSend (s : State) (j r : Nat) (f : Frame) (va : Nat) (g : JGoal) : State :=
  let s := if f.typ = 0x12 then s else s.taskWrites j r
  if (s.task j r).waits.any (fun w => w.key == some (rlcKey f)) then s.addWait j r (.queued f va g) else s.jetSendNow j r f va g

/-- The cached line becomes its die's most recently used. -/
def State.rlcTouch (s : State) (k : Nat) : State :=
  let top := (s.die (k % 4)).rlc.foldl (fun a e => max a e.2.stamp) 0
  s.setRlc k { s.rlcAt k with stamp := top + 1 }

/-- A way for a line in its set: the least recently used line without a request outstanding leaves (R180). -/
def State.rlcRoom (s : State) (k : Nat) : State × Bool :=
  let mates := s.rlcMates k
  if mates.length < 16 then (s, true)
  else
    match (mates.filter (fun e => e.2.fill == 0)).foldl (fun (a : Option (Nat × Rlc)) e => match a with
      | none => some e
      | some b => if e.2.stamp < b.2.stamp then some e else some b) none with
    | some v =>
      let s := s.rlcEvict v.1
      (s, decide ((s.rlcMates k).length < 16))
    | none => (s, false)

/-- The cached line can serve the access: it holds the line for a read, alone for a write; under the tag that filled it
(R180, R181). -/
def Rlc.serves (x : Rlc) (tag : BitVec 16) (write : Bool) : Bool :=
  x.fill == 0 && x.tag == tag && (x.state == .exclusive || (!write && (x.state == .shared || x.state == .owned)))

/-- A request for the line goes out where the cache lacks it or the right to write it. -/
def State.rlcAsk (s : State) (k : Nat) (tag : BitVec 16) (write : Bool) : State :=
  let x := s.rlcAt k
  if x.fill ≠ 0 ∨ x.err.isSome then s
  else if x.state = .invalid ∨ x.state = .lost then
    match s.rlcRoom k with
    | (s, true) => ((s.setRlc k { tag := tag }).rlcTouch k).rlcRequest k (if write then 0x11 else 0x10) tag 0
    | (s, false) => s
  else if x.tag = tag ∧ write ∧ (x.state = .shared ∨ x.state = .owned) then s.rlcRequest k 0x13 tag 0
  else s

/-- A remote line under a tag that does not hold it in the cache (R181). -/
def State.rlcOther (s : State) (k : Nat) (tag : BitVec 16) : Bool :=
  let x := s.rlcAt k
  x.tag != tag && (x.fill != 0 || x.err.isSome || (x.state != .invalid && x.state != .lost))

/-- The global physical address of a cache key. -/
def keyGpa (k : Nat) : Nat := 2 ^ 60 + (k / 2 ^ 39 - 1) * 2 ^ 46 + k % 2 ^ 39 * 128

/-- The write of a line with its byte-enables: WriteLine where all are set. -/
def storeFrame (tag : BitVec 16) (gpa : Nat) (data : Line) (mask : Mask) (gauge : Option Nat) (isSeal : Bool) : Frame :=
  let full := mask == BitVec.allOnes 128
  let typ := match gauge with
    | none => if full then 0x18 else 0x19
    | some _ => if full then 0x1A else 0x1B
  { engFrame typ tag gpa with ord := gauge.isSome || isSeal, isSeal := isSeal,
                              gauge := match gauge with | none => 0 | some g => BitVec.ofNat 8 g,
                              data := data, mask := mask }

/-- A wait for a line that has moved asks at its present home; no hint is kept once every wait has (R423). -/
def State.followMove (s : State) (j r : Nat) (w : JWait) (k : Nat) (dev : BitVec 14) (line : Nat) : State :=
  let k' := remoteKey dev.toNat line
  let gpa := 2 ^ 60 + dev.toNat * 2 ^ 46 + 128 * line
  let t := s.task j r
  let s :=
    if s.isSelf dev then
      let s := s.setTask j r { t with waits := t.waits.erase w }
      match w with
      | .rlcLoad _ va g => s.jetSendNow j r (engFrame 0x12 t.ctx gpa) va g
      | .rlcStore _ va data mask fc => s.jetSendNow j r (storeFrame t.ctx gpa data mask none false) va (.store fc)
      | _ => s
    else
      let w' : JWait := match w with
        | .rlcLoad _ va g => .rlcLoad k' va g
        | .rlcStore _ va data mask fc => .rlcStore k' va data mask fc
        | w => w
      s.setTask j r { t with waits := t.waits.map (fun x => if x = w then w' else x) }
  if s.tasks.any (fun e => e.2.waits.any (fun x => x.key == some k)) then s else s.setRlc k {}

/-- One wait of a task looked at: done (none left), kept, or ended the task by fault. -/
def State.tryWait (s : State) (j r : Nat) (w : JWait) : State × Bool :=
  let t := s.task j r
  let held := s.jetHeld t
  let drop (s : State) : State := s.setTask j r { s.task j r with waits := (s.task j r).waits.erase w }
  let viaCache (k va : Nat) (write : Bool) (bypass : State → State) (use : State → State) : State × Bool :=
    let x := s.rlcAt k
    match x.moved with
    | some (dev, line) => (s.followMove j r w k dev line, true)
    | none =>
    if s.rlcOther k t.ctx then ((bypass (drop s)), true)
    else match x.err with
    | some st => ((s.setRlc k {}).endFault j r 0x05 st.toNat va (keyGpa k), true)
    | none =>
      if x.serves t.ctx write then (use (drop (s.rlcTouch k)), true)
      else
        let s' := s.rlcAsk k t.ctx write
        (s', !decide (s'.rlcAt k = x))
  match w with
  | .own dst ord seq g =>
    match s.ans.find? (fun a => a.settled && a.eng == .jet j r && a.f.src == dst && a.f.ord == ord && a.f.seq == seq) with
    | none => (s, false)
    | some a =>
      let s : State := { s with ans := s.ans.erase a }
      if a.f.status ≠ 0 then (s.endFault j r 0x05 a.f.status.toNat a.va (ansGpa a.f), true)
      else ((drop s).deliverGoal j r g a.f.data held, true)
  | .rlcLoad k va g =>
    viaCache k va false (fun s => s.jetSendNow j r (engFrame 0x12 t.ctx (keyGpa k)) va g)
      (fun s => s.deliverGoal j r g (s.rlcAt k).data held)
  | .queued f va g => ((drop s).jetSendNow j r f va g, true)
  | .rlcStore k va data mask fc =>
    viaCache k va true (fun s => s.jetSendNow j r (storeFrame t.ctx (keyGpa k) data mask none false) va (.store fc))
      (fun s =>
        let x := s.rlcAt k
        (s.setRlc k { x with data := mergeBytes x.data data mask, dirty := true }).deliverGoal j r (.store fc) 0 held)

/-- The first wait of a task that can go on does; a later access to a line waits behind an earlier one, one of the cache behind the task's
own requests to it (R213). -/
def waitsGo (j r : Nat) (keys : List Nat) : List JWait → State → Option State
  | [], _ => none
  | w :: rest, s =>
    let held := match w.key with
      | some k => keys.contains k || s.ownOut j r k
      | none => false
    if held then waitsGo j r (w.key.toList ++ keys) rest s
    else match s.tryWait j r w with
      | (s', true) => some s'
      | (_, false) => waitsGo j r (match w.key with | some k => k :: keys | none => keys) rest s

/-- A load of a line at a global physical address (R178, R180); one of a register line, a gauge's among them, is a ReadOnce (R57, R228). -/
def State.jetLoad (s : State) (j r gpa va : Nat) (g : JGoal) : State :=
  let t := s.task j r
  let f := engFrame 0x12 t.ctx gpa
  if f.dst = s.selfId ∨ gpaVer gpa ≠ 1 ∨ !inMemory f then s.jetSend j r f va g
  else
    let k := rlcKey f
    let hit := (s.rlcAt k).serves t.ctx false && !t.waits.any (fun w => w.key == some k) && !s.ownOut j r k
    let s := s.bump (if hit then Reg.BS_RLC_HITS (k % 4) else Reg.BS_RLC_MISSES (k % 4)) 0 64 1
    if hit then (s.rlcTouch k).deliverGoal j r g (s.rlcAt k).data false else s.addWait j r (.rlcLoad k va g)

/-- A store of a line (R178, R180): plain stores to other homes go through the cache. -/
def State.jetStore (s : State) (j r gpa va : Nat) (data : Line) (mask : Mask) (gauge : Option Nat) (isSeal fc : Bool) : State :=
  let t := s.task j r
  let f := storeFrame t.ctx gpa data mask gauge isSeal
  if f.dst = s.selfId ∨ gauge.isSome ∨ isSeal ∨ gpaVer gpa ≠ 1 ∨ !inMemory f then s.jetSend j r f va (.store fc)
  else
    let k := rlcKey f
    let hit := (s.rlcAt k).serves t.ctx true && !t.waits.any (fun w => w.key == some k) && !s.ownOut j r k
    let s := s.bump (if hit then Reg.BS_RLC_HITS (k % 4) else Reg.BS_RLC_MISSES (k % 4)) 0 64 1
    (s.taskWrites j r).addWait j r (.rlcStore k va data mask fc)

/-! ### Misses (R83, R362) -/

/-- The access missed: the bundle's other slots issue, then the task parks. access is RESUME_ACCESS. -/
def State.jetMiss (s : State) (j r access : Nat) : State :=
  let t := s.task j r
  let bundle := if t.resume = 0xFFFF then t.pc else t.resume
  s.setTask j r { t with missing := true, resume := bundle, resumeAccess := access }

/-- The issuer waits on a translation. -/
def State.waitsXlate (s : State) (e : Eng) : Bool :=
  s.dies.any (fun d => d.2.xreqs.any (fun r => r.waiters.any (fun w => w.eng == e)))

/-- A task with a missed access parks once everything it issued before is done; it is ready at once where its translation has
been answered meanwhile. -/
def State.parkIfDue (s : State) (j : Nat) : State :=
  match s.runningTask j with
  | none => s
  | some (r, t) =>
    if !t.missing then s
    else match nextGo (s.bundleStep t) 8 t 0 with
      | .stop t n =>
        if t.waits.isEmpty then
          let s := (s.setTask j r { t.landAll with missing := false }).bump (Reg.JT_BUNDLES j) 0 64 n
          let s := s.park j r 1
          if s.waitsXlate (.jet j r) then s else s.wake j r
        else s
      | _ => s

/-- Every answer a jet's running task can take, taken. -/
def jetAnswersGo (j : Nat) : Nat → State → State
  | 0, s => s
  | fuel + 1, s =>
    match s.runningTask j with
    | none => s
    | some (r, t) => match waitsGo j r [] t.waits s with
      | some s => jetAnswersGo j fuel s
      | none => s.parkIfDue j

/-- The answers for tasks and the parking that follows. -/
def State.jetsGo (s : State) : State :=
  s.forEach s.jets (fun s e =>
    match s.runningTask e.1 with
    | some (_, t) => jetAnswersGo e.1 (4 * t.waits.length + 8) s
    | none => s)

/-! ### Issuing -/

/-- The cycle an open leg's bundle issues in: a line operation waits for a permitted cycle (R346), a user of the gather port for
the port (R336). -/
def issueCycle (t : Task) (b : BitVec 256) : Nat :=
  if t.leg.exact || t.slot != 0 then t.cycle
  else
    let op := opAt b 0
    let c := if [0x22, 0x23, 0x24].contains op then max t.cycle t.portFree else t.cycle
    if lineOp op && (c % 7 == 1 || c % 7 == 3 || c % 7 == 5) then c + 1 else c

/-- A slot's instruction bits as a number. -/
def slotNat (b : BitVec 256) : Nat → Nat
  | 0 => (memorySlot b).toNat
  | 1 => (scalarSlot b).toNat
  | 2 => (vectorSlot b).toNat
  | _ => (controlSlot b).toNat

/-- An instruction issues where it is the running task's next one; a refused bundle ends the task (R345). -/
def State.jetIssue (s : State) (j slot bits : Nat) (run : State → Nat → State) : State :=
  match s.runningTask j with
  | none => s
  | some (r, t) =>
    if !t.inLeg then s
    else if t.resume ≠ 0xFFFF ∧ !t.missing then
      match t.leg.code[t.resume]? with
      | some b => if slot = 0 ∧ slotNat b 0 = bits then run s r else s
      | none => s
    else
      match nextGo (s.bundleStep t) 4096 t 0 with
      | .stop _ _ => s
      | .bad t n => ((s.setTask j r t).bump (Reg.JT_BUNDLES j) 0 64 n).endFault j r 0x10 stOk 0 0
      | .at_ t k n =>
        let b := t.leg.code.getD t.pc 0
        if k ≠ slot ∨ slotNat b k ≠ bits ∨ legBlocked t b then s
        else
          let t := if t.waitFc.isSome then { t.landAll with waitFc := none } else t
          let t := { t with cycle := issueCycle t b }
          let t := { t.landUpTo t.cycle with slot := k + 1 }
          run ((s.setTask j r t).bump (Reg.JT_BUNDLES j) 0 64 n) r

/-- Results of an instruction of a task put under way. -/
def State.jetResults (s : State) (j r slot : Nat) (l : List (JDest × Nat)) : State :=
  s.setTask j r (l.foldl (fun t d => t.later slot d.2 d.1) (s.task j r))

/-! ### The bowl (R335, R336) -/

/-- An access of the bowl at an address, of a width: none beyond the task's window. -/
def bowlAddr (t : Task) (a : Word) (width : Nat) : Option Nat :=
  let a := a.toNat / width * width
  if a + width ≤ 65536 * t.pages then some a else none

/-- The bowl's one vector or scalar access of a cycle: a second one in an exact leg ends the task. -/
def State.bowlAccess (s : State) (j r : Nat) (run : State → Task → State) : State :=
  let t := s.task j r
  if t.leg.exact ∧ t.bowlAt = some t.cycle then s.endFault j r 0x16 stOk 0 0
  else
    let t := { t with bowlAt := some t.cycle }
    run (s.setTask j r t) t

/-- The gather port: occupied for 64 cycles after each issue. -/
def State.gatherAccess (s : State) (j r : Nat) (run : State → Task → State) : State :=
  let t := s.task j r
  if t.leg.exact ∧ t.cycle < t.portFree then s.endFault j r 0x16 stOk 0 0
  else
    let t := { t with portFree := t.cycle + 64 }
    run (s.setTask j r t) t

/-- A bowl address in range, or the task ends. -/
def State.inBowl (s : State) (j r : Nat) (t : Task) (a : Word) (width : Nat) (run : State → Nat → State) : State :=
  match bowlAddr t a width with
  | some x => run s x
  | none => s.endFault j r 0x13 stOk 0 0

/-- X(A) + OFF. -/
def memAddr (m : MemSlot) (g : JRegs) : Word := g.getX m.a.toNat + m.off.signExtend 64

/-- 256 bytes of the bowl as a vector register. -/
def bowlVector (g : JRegs) (a : Nat) : BitVec 2048 := BitVec.ofNat 2048 (natOfBytes (g.bowlBytes a 256))

/-- BLD, BST, BGATH, BSCAT, PQLOAD. -/
def State.jetBld (s : State) (j r : Nat) (m : MemSlot) : State :=
  s.bowlAccess j r (fun s t => s.inBowl j r t (memAddr m t.regs) 256 (fun s a =>
    s.jetResults j r 1 [(.v m.b.toNat (bowlVector t.regs a) (BitVec.allOnes 2048), 4)]))

def State.jetBst (s : State) (j r : Nat) (m : MemSlot) : State :=
  s.bowlAccess j r (fun s t => s.inBowl j r t (memAddr m t.regs) 256 (fun s a =>
    s.jetResults j r 1 [(.bowl a (bytesOfNat 256 (t.regs.getV m.b.toNat).toNat), 1)]))

/-- The bowl addresses of a gather's 64 lanes; none where one lies beyond the window. -/
def gatherAddrs (t : Task) (m : MemSlot) : Option (List Nat) :=
  let l := (lanes 32 (t.regs.getV m.d.toNat)).map (fun i => bowlAddr t (t.regs.getX m.a.toNat + BitVec.ofNat 64 i) 4)
  if l.all Option.isSome then some (l.map (·.getD 0)) else none

def State.jetBgath (s : State) (j r : Nat) (m : MemSlot) : State :=
  s.gatherAccess j r (fun s t => match gatherAddrs t m with
    | some l => s.jetResults j r 1
        [(.v m.b.toNat (ofLanes 32 (l.map (fun a => natOfBytes (t.regs.bowlBytes a 4)))) (BitVec.allOnes 2048), 70)]
    | none => s.endFault j r 0x13 stOk 0 0)

def State.jetBscat (s : State) (j r : Nat) (m : MemSlot) : State :=
  s.gatherAccess j r (fun s t => match gatherAddrs t m with
    | some l => s.jetResults j r 1 ((l.zip (lanes 32 (t.regs.getV m.b.toNat))).map (fun e => (.bowl e.1 (bytesOfNat 4 e.2), 1)))
    | none => s.endFault j r 0x13 stOk 0 0)

def State.jetPqload (s : State) (j r : Nat) (m : MemSlot) : State :=
  s.gatherAccess j r (fun s t => s.inBowl j r t (memAddr m t.regs) 16384 (fun s a =>
    s.jetResults j r 1 [(.pq 0 ((List.range 4096).map (fun i => BitVec.ofNat 32 (natOfBytes (t.regs.bowlBytes (a + 4 * i) 4)))), 64)]))

/-- The saved form of an accumulator (Table 13-3), and back. -/
def Acc.saved (a : Acc) : Nat :=
  (a.w % 2 ^ 192).toNat + 2 ^ 192 * (a.scale % 256).toNat + 2 ^ 200 * bitN a.sat + 2 ^ 201 * bitN a.nonfinite

def Acc.ofSaved (n : Nat) : Acc :=
  { w := wrap192 (n % 2 ^ 192 : Nat), scale := (BitVec.ofNat 8 (n / 2 ^ 192)).toInt, sat := n / 2 ^ 200 % 2 == 1,
    nonfinite := n / 2 ^ 201 % 2 == 1 }

def State.jetBacld (s : State) (j r : Nat) (m : MemSlot) : State :=
  s.bowlAccess j r (fun s t => s.inBowl j r t (memAddr m t.regs) 256 (fun s a =>
    s.jetResults j r 1 ((List.range 8).map (fun i =>
      (.ac (8 * (m.d.toNat % 8) + i) (Acc.ofSaved (natOfBytes (t.regs.bowlBytes (a + 32 * i) 32))), 4)))))

def State.jetBacst (s : State) (j r : Nat) (m : MemSlot) : State :=
  s.bowlAccess j r (fun s t => s.inBowl j r t (memAddr m t.regs) 256 (fun s a =>
    s.jetResults j r 1 [(.bowl a ((List.range 8).flatMap (fun i =>
      bytesOfNat 32 (t.regs.getAc (8 * (m.d.toNat % 8) + i)).saved)), 1)]))

/-! ### Line operations of open legs (Table 13-6) -/

/-- The memory slot's access is done with: a replayed bundle's next one follows. -/
def State.jetIssued (s : State) (j r : Nat) : State :=
  let t := s.task j r
  s.setTask j r { t with resume := 0xFFFF, resumeAccess := 0, gap := 4 }

/-- One line access: translated, then run; a miss leaves the task to park. -/
def State.jetTranslated (s : State) (j r access va k : Nat) (run : State → Nat → State) : State :=
  match (translate (.jet j r) (s.task j r).ctx access va).on s with
  | (.ok g, s) => run (s.dropOnce (.jet j r)) g
  | (.error .wait, s) => s.jetMiss j r k
  | (.error (.fail kind st va gpa), s) => s.endFault j r kind st va gpa

/-- The line a line operation names. -/
def memLine (m : MemSlot) (g : JRegs) : Nat := (memAddr m g).toNat / 128 * 128

/-- FLD. -/
def State.jetFld (s : State) (j r : Nat) (m : MemSlot) : State :=
  let va := memLine m (s.task j r).regs
  s.jetTranslated j r accRead va 0 (fun s g =>
    (s.jetIssued j r).jetLoad j r g va (.load m.b.toNat))

/-- FST, FGST, FSEAL. -/
def State.jetFst (s : State) (j r : Nat) (m : MemSlot) (gauge isSeal : Bool) : State :=
  let g := (s.task j r).regs
  let va := memLine m g
  let mask : Mask := if isSeal then BitVec.allOnes 128 else (g.getVm (m.d.toNat % 8)).setWidth 128
  let gno := if gauge then some ((g.getX m.c.toNat).toNat % 256) else none
  s.jetTranslated j r accWrite va 0 (fun s gpa =>
    (s.jetIssued j r).jetStore j r gpa va ((g.getV m.b.toNat).setWidth 1024) mask gno isSeal false)

/-- FATOM. -/
def State.jetFatom (s : State) (j r : Nat) (m : MemSlot) : State :=
  let t := s.task j r
  let va := memLine m t.regs
  s.jetTranslated j r accAtomic va 0 (fun s gpa =>
    (s.jetIssued j r).jetSend j r { engFrame 0x1C t.ctx gpa with ord := true, data := (t.regs.getV m.b.toNat).setWidth 1024 } va
      (.old m.b.toNat))

/-- Every line of a fetch or store translated before any access is issued. -/
def jetTranslateAll (j r : Nat) (tag : BitVec 16) (access : Nat) : List Nat → EngM (List Nat)
  | [] => pure []
  | va :: rest => do
    let g ← translate (.jet j r) tag access va
    let gs ← jetTranslateAll j r tag access rest
    pure (g :: gs)

/-- FETCHB and STOREB: 1 to 128 lines between memory and the bowl; another number ends the task (notes assumption 24). -/
def State.jetBlock (s : State) (j r : Nat) (m : MemSlot) (store : Bool) : State :=
  let t := s.task j r
  let n := (t.regs.getX m.c.toNat).toNat
  let base := memLine m t.regs
  let bowl := t.regs.getX m.b.toNat
  let access := if store then accWrite else accRead
  if n = 0 ∨ 128 < n then s.endFault j r 0x10 stOk 0 0
  else
    let at_ (i : Nat) : Option Nat := bowlAddr t (bowl + BitVec.ofNat 64 (128 * i)) 128
    if (List.range n).any (fun i => (at_ i).isNone) then s.endFault j r 0x13 stOk 0 0
    else
      let vas := (List.range n).map (fun i => base + 128 * i)
      match (jetTranslateAll j r t.ctx access vas).on s with
      | (.ok gs, s) =>
        ((s.dropOnce (.jet j r)).jetIssued j r).forEach ((List.range n).zip (vas.zip gs)) (fun s e =>
          let a := (at_ e.1).getD 0
          if store then
            s.jetStore j r e.2.2 e.2.1 (lineOfBytes (t.regs.bowlBytes a 128)) (BitVec.allOnes 128) none false true
          else s.jetLoad j r e.2.2 e.2.1 (.toBowl a))
      | (.error .wait, s) => s.jetMiss j r 0
      | (.error (.fail kind st va gpa), s) => s.endFault j r kind st va gpa

/-- The accesses of a FETCHG from one on: (number, virtual address, bowl address). -/
def fetchgGo (j r : Nat) : List (Nat × Nat × Nat) → State → State
  | [], s => s.jetIssued j r
  | (k, va, a) :: rest, s =>
    s.jetTranslated j r accRead va k (fun s g =>
      fetchgGo j r rest (s.jetLoad j r g va (.toBowl a)))

/-- FETCHG: rows of 2^F lines by the row numbers in V(D); more than 64 rows end the task (notes assumption 24). -/
def State.jetFetchg (s : State) (j r : Nat) (m : MemSlot) : State :=
  let t := s.task j r
  let n := (t.regs.getX m.c.toNat).toNat
  let per := 2 ^ m.f.toNat
  let base := memAddr m t.regs
  let bowl := t.regs.getX m.b.toNat
  if 64 < n then s.endFault j r 0x10 stOk 0 0
  else
    let rows := (lanes 32 (t.regs.getV m.d.toNat)).take n
    let all := ((List.range n).zip rows).flatMap (fun e => (List.range per).map (fun q =>
      (per * e.1 + q, ((base + BitVec.ofNat 64 (128 * per * e.2)).toNat / 128 * 128 + 128 * q) % 2 ^ 64,
       bowlAddr t (bowl + BitVec.ofNat 64 (128 * (per * e.1 + q))) 128)))
    if all.any (fun e => e.2.2.isNone) then s.endFault j r 0x13 stOk 0 0
    else fetchgGo j r ((all.filter (fun e => decide (t.resumeAccess ≤ e.1))).map (fun e => (e.1, e.2.1, e.2.2.getD 0))) s

/-! ### E accesses of exact legs (R97, R107, R108, R346, R351) -/

/-- The entry pinned for the leg of record r that serves a virtual address of the leg's sheets, with its sheet's base (R73). -/
def State.pinnedFor (s : State) (j r : Nat) (t : Task) (va : Nat) : Option (Nat × XEntry) :=
  match t.leg.sheets.find? (fun h => decide (va / 2 ^ h.2 = h.1 / 2 ^ h.2)) with
  | none => none
  | some h => ((s.die (dieOfJet j)).xlate.find? (fun x =>
      x.tag == t.ctx && decide (x.sheet = va / 2 ^ x.size) && x.pins.contains (32 * j + r))).map (fun x => (h.1, x))

/-- An E access is refused: its task ends with the kind (R109). -/
def State.breach (s : State) (j r c kind va gpa : Nat) : State :=
  (s.bump (Reg.ST_CHAN_BREACH (c / 16) (c % 16)) 0 32 1).endFault j r kind stBreach va gpa

/-- The slot an access of a leg binds to: cycles 0, 2, 4, 6 of a frame to its slots 0 to 3 (R97). -/
def boundSlot (base cycle : Nat) : Nat := base + 4 * (cycle / 7) + cycle % 7 / 2

/-- ELD and EST. -/
def State.jetEaccess (s : State) (j r : Nat) (m : MemSlot) (wr : Bool) : State :=
  let t := s.task j r
  let va := memLine m t.regs
  match s.pinnedFor j r t va with
  | none => s.endFault j r 0x17 stNoParcel va 0
  | some (sheet, x) =>
    let gpa := x.gpa va
    let n := (gpaOff gpa).toNat / 128
    let c := s.homeChan n
    let die := c % 48
    if wr && !t.writable.contains sheet then s.endFault j r 0x17 stNoParcel va gpa
    else if dieOfChan c ≠ dieOfJet j ∨ t.leg.channels.getLsbD die = false then s.endFault j r 0x17 stBreach va gpa
    else if t.cycle % 7 % 2 = 1 then s.breach j r c 0x18 va gpa
    else
      let slot := boundSlot (mget 0 t.bases die) t.cycle
      let words : BitVec 16 := (t.regs.getVm (m.d.toNat % 8)).setWidth 16
      let b : EBound := { jet := j, record := r, line := n, wr := wr, reg := m.b.toNat,
                          data := if wr then (t.regs.getV m.b.toNat).setWidth 1024 else 0,
                          mask := if wr then maskOfWords words else 0, tag := t.ctx, va := va }
      let y := s.chan c
      let s := s.setChan c { y with bound := y.bound ++ [(slot, b)] }
      if wr then s.taskWrites j r else s.setTask j r { t with ereads := t.ereads ++ [(m.b.toNat, t.cycle + 168)] }

/-- The line of an E read lands 168 cycles after its issue; what the register's upper half holds is not stated. An
uncorrectable word ends the task (R107, R110, R129). -/
def State.eReturned (s : State) (b : EBound) (data : Line) (ue : BitVec 16) : State :=
  let t := s.task b.jet b.record
  match t.ereads.find? (fun e => e.1 == b.reg) with
  | none => s
  | some e =>
    let gpa := 2 ^ 60 + s.selfId.toNat * 2 ^ 46 + 128 * b.line
    if ue ≠ 0 then s.endFault b.jet b.record 0x1F stUncorrectable b.va gpa
    else
      let v : BitVec 2048 := data.setWidth 2048 ||| (Config.freeVector s.free >>> 1024 <<< 1024)
      let p : Pend := { land := e.2, issued := e.2 - 168, slot := 1, dest := .v b.reg v (BitVec.allOnes 2048) }
      let s : State := { s with free := s.free + 1 }
      s.setTask b.jet b.record { t with ereads := t.ereads.erase e, pend := t.pend ++ [p] }

/-- A refused E access ends its task; the breach was counted with it. -/
def State.eRefused (s : State) (b : EBound) (kind : Nat) : State :=
  if (s.task b.jet b.record).state = .running ∧ (s.jet b.jet).running = some b.record then
    s.endFault b.jet b.record kind stBreach b.va (2 ^ 60 + s.selfId.toNat * 2 ^ 46 + 128 * b.line)
  else s

/-! ### Scalar slot (Table 13-7) -/

/-- The second operand: X(B), or IMM where I is set. -/
def scalarOpd (f : ScalarSlot) (g : JRegs) : Word := if f.i then f.imm.signExtend 64 else g.getX f.b.toNat

/-- A result of X(A) and the second operand. -/
def State.jetScalar (s : State) (j r lat : Nat) (f : ScalarSlot) (h : Word → Word → Word) : State :=
  let g := (s.task j r).regs
  s.jetResults j r 2 [(.x f.d.toNat (h (g.getX f.a.toNat) (scalarOpd f g)), lat)]

/-- BLDX and BSTX. -/
def State.jetBldx (s : State) (j r : Nat) (f : ScalarSlot) : State :=
  s.bowlAccess j r (fun s t => s.inBowl j r t (t.regs.getX f.a.toNat + f.imm.signExtend 64) 8 (fun s a =>
    s.jetResults j r 2 [(.x f.d.toNat (BitVec.ofNat 64 (natOfBytes (t.regs.bowlBytes a 8))), 4)]))

def State.jetBstx (s : State) (j r : Nat) (f : ScalarSlot) : State :=
  s.bowlAccess j r (fun s t => s.inBowl j r t (t.regs.getX f.a.toNat + f.imm.signExtend 64) 8 (fun s a =>
    s.jetResults j r 2 [(.bowl a (bytesOfNat 8 (t.regs.getX f.d.toNat).toNat), 1)]))

/-- VEXT and VINS: 64-bit elements of a vector register. -/
def State.jetVext (s : State) (j r : Nat) (f : ScalarSlot) : State :=
  let v := (s.task j r).regs.getV f.a.toNat
  s.jetResults j r 2 [(.x f.d.toNat ((v >>> (64 * (f.imm.toNat % 32))).setWidth 64), 2)]

def State.jetVins (s : State) (j r : Nat) (f : ScalarSlot) : State :=
  let k := 64 * (f.imm.toNat % 32)
  let x := (s.task j r).regs.getX f.a.toNat
  s.jetResults j r 2 [(.v f.d.toNat (x.setWidth 2048 <<< k) ((BitVec.allOnes 64).setWidth 2048 <<< k), 2)]

/-! ### Vector slot -/

/-- A vector instruction's results put under way, its flags kept, and a free value used. -/
def State.jetVector (s : State) (j r : Nat) (h : JRegs → BitVec 2048 → VRes) : State :=
  let v := h (s.task j r).regs (Config.freeVector s.free)
  let s := ({ s with free := s.free + 1 } : State).jetResults j r 3 v.dests
  let t := s.task j r
  s.setTask j r { t with regs := { t.regs with fpflags := t.regs.fpflags ||| v.flags } }

/-! ### Control slot (Table 13-9) -/

/-- The bundle ends with its control operation. -/
def State.jetBranch (s : State) (j r : Nat) (target : Option Nat) : State :=
  let t := s.task j r
  (s.setTask j r (t.endBundle (s.bundleStep t) target)).bump (Reg.JT_BUNDLES j) 0 64 1

/-- BR, BNZ, BZ. -/
def State.jetBr (s : State) (j r : Nat) (f : ControlSlot) (taken : Word → Bool) : State :=
  s.jetBranch j r (if taken ((s.task j r).regs.getX f.x.toNat) then some f.target.toNat else none)

/-- LOOP. -/
def State.jetLoop (s : State) (j r : Nat) (f : ControlSlot) : State :=
  let t := s.task j r
  let x := t.regs.getX f.x.toNat
  let k := f.per.toNat % 4
  if x = 0 then
    (s.setTask j r { t with regs := { t.regs with lc := mput {} t.regs.lc k {} } }).jetBranch j r (some (f.target.toNat + 1))
  else
    let c : LoopCtr := { count := x, first := t.pc + 1, last := f.target.toNat }
    (s.setTask j r { t with regs := { t.regs with lc := mput {} t.regs.lc k c } }).jetBranch j r (some (t.pc + 1))

/-- LEGEND: the leg ends; X names the next leg where NEXT is 1. -/
def State.jetLegend (s : State) (j r : Nat) (f : ControlSlot) : State :=
  let s := s.jetBranch j r (some (s.task j r).pc)
  let t := s.task j r
  s.setTask j r { t with ended := some (f.per.toNat / 2 % 4, (t.regs.getX f.x.toNat).toNat, f.per.toNat % 2 == 1) }

/-- GWAIT: the leg ends; the task is to wait on a gauge of its own slot unless COUNT has reached X (R228, R359). -/
def State.jetGwait (s : State) (j r : Nat) (f : ControlSlot) : State :=
  let s := s.jetBranch j r (some (s.task j r).pc)
  let t := s.task j r
  let gauge := f.target.toNat % 256
  let x := t.regs.getX f.x.toNat
  let us := f.target.toNat / 256 + 8 * f.per.toNat
  let edges := if us = 0 then 25000 * s.gzv 0x5020 0x03 else 25 * us
  let there := decide (x.toNat ≤ (s.reg (Reg.TN_GAUGE_COUNT t.tenant gauge)).toNat)
  s.setTask j r { t with ended := some (3, bitN there, false), gauge := gauge, threshold := x, gx := f.x.toNat,
                         deadline := s.edges + edges }

/-- WAITFC. -/
def State.jetWaitfc (s : State) (j r : Nat) (f : ControlSlot) : State :=
  let s := s.jetBranch j r none
  let t := s.task j r
  let n := (t.regs.getX f.x.toNat).toNat
  s.setTask j r { t with waitFc := if n ≤ t.regs.fc.toNat then none else some n }

end Sys2Proof.Machine
end

