-- ==== Sys2Proof/Machine/Legs.lean ====
section
/-!
DEFINITION. Legs (R348 to R352): fetching and checking a header, admission with its pins and leases, start at the anchor, end, overrun;
and what wakes tasks that wait for pins and leases.
-/

namespace Sys2Proof.Machine

/-! ### The header (R348, R349) -/

/-- A field of n bytes of a header. -/
def hb (h : List Byte) (i n : Nat) : Nat := natOfBytes ((h.drop i).take n)

/-- The header of Table 13-10 as a leg. -/
def legOf (h : List Byte) : Leg :=
  let n := hb h 14 1
  { exact := hb h 0 1 % 4 == 0, bundles := hb h 2 2, anchor := hb h 4 2, periodLog := hb h 6 1, map := hb h 7 1 % 8,
    channels := BitVec.ofNat 48 (hb h 8 6),
    sheets := (List.range n).map (fun i => (hb h (128 + 8 * i) 8, if (hb h 16 2).testBit i then 30 else 25)) }

/-- The header breaks Table 13-10 or R349. -/
def headerBad (h : List Byte) : Bool :=
  let kind := hb h 0 1
  let n := hb h 14 1
  decide (1 < kind) || hb h 1 1 != 0 || !within 1 (hb h 2 2) 2048 || hb h 15 1 != 0 || hb h 18 110 != 0
    || (if kind = 1 then hb h 4 12 != 0 || hb h 16 2 != 0 || hb h 128 128 != 0
        else
          !within 5 (hb h 6 1) 12 || hb h 4 2 % 4 != 0 || decide (2 ^ hb h 6 1 ≤ hb h 4 2) || decide (7 < hb h 7 1)
            || hb h 8 6 == 0 || decide (16 < n)
            || (List.range 16).any (fun i =>
                let va := hb h (128 + 8 * i) 8
                if i < n then va % 2 ^ (if (hb h 16 2).testBit i then 30 else 25) != 0
                else va != 0 || (hb h 16 2).testBit i))

/-! ### Fetches (R348) -/

/-- A line of a header or of bundles: translated with X, read under the task's tag, checked at its home for EX. -/
def fetchLine (e : Eng) (tag : BitVec 16) (va : Nat) : EngM Line := do
  let g ← translate e tag accExec va
  let s ← engGet
  if gpaDev g = s.selfId then engReadAs e e.die { engFrame 0x12 tag g with aux := 1 } va g
  else engRead e e.die tag va g

/-- n bytes of a leg from a virtual address. -/
def fetchBytes (e : Eng) (tag : BitVec 16) (va n : Nat) : EngM (List Byte) := do
  let ls ← engAll (fetchLine e tag) (linesOfVa va n)
  pure (((ls.flatMap (fun l => lineBytes l 0 128)).drop (va % 128)).take n)

/-- A step of admission that waits: parked where it waits on a translation, else under way. -/
def State.admitWaits (s : State) (j r : Nat) : State :=
  if s.waitsXlate (.jet j r) then
    s.park j r 1
  else s

/-! ### Pins (R73, R176, R412) -/

/-- Pieces a sheet covers, by piece number of the device. -/
def sheetPieces (base size : Nat) : List Nat :=
  let p := base % 2 ^ 41 / 2 ^ 25
  if size = 30 then (List.range 32).map (p + ·) else [p]

/-- The check of Table 3-4 for a sheet's parcel: the status that refuses it, or whether its lines may be written
(notes assumption 25). -/
def State.sheetCheck (s : State) (tag : BitVec 16) (base : Nat) : Except Nat Bool :=
  if gpaVer base ≠ 1 ∨ gpaDev base ≠ s.selfId ∨ 2 ^ 41 ≤ base % 2 ^ 46 then .error stNoParcel
  else match s.tagRefused tag with
  | some st => .error st
  | none =>
    match s.ctxOf tag with
    | none => .error stContext
    | some (_, c) =>
      let p := base % 2 ^ 46 / 2 ^ 30
      if (s.parcel p).state ≠ .commons ∧ s.parcelAdmits p c.tenant 0b0001 then .ok (s.parcelAdmits p c.tenant 0b0010) else .error stNoParcel

/-- The tracked lines of a piece on a die are recalled for its pin, their store sets read first (R176). -/
def State.sweepPiece (s : State) (d piece : Nat) : State × Nat :=
  let keys := (s.atlas.map (·.1)).filter (fun n => decide (n < 2 ^ 34) && n / pieceLines == piece && s.ownerDie n == d)
  (s.forEach keys (fun s n =>
    let l := s.txnsOf n
    if l.any (fun t => t.work == .recall .pin) then s
    else (s.readSet n).setTxns n (l ++ [{ work := .recall .pin, phase := .store, looked := true, since := s.now }])), keys.length)

/-- One engine pin of a piece on the four dies; a die that tracks lines of it recalls them first (R176). -/
def State.pinPiece (s : State) (piece : Nat) : State :=
  s.forEach (List.range 4) (fun s d =>
    let x := s.die d
    if s.censusOn d piece then
      let (s, n) := (s.setDie d { x with sweeps := x.sweeps ++ [piece] }).sweepPiece d piece
      s.bump (Reg.BS_ATLAS_PINSWEEP d) 0 64 n
    else s.setDie d { x with pins := mput 0 x.pins piece (mget 0 x.pins piece + 1) })

/-- A die still sweeps one of the pieces. -/
def State.sweeping (s : State) (pieces : List Nat) : Bool :=
  s.dies.any (fun d => d.2.sweeps.any (fun p => pieces.contains p))

/-- A piece of the leg's sheets is not SETTLED. -/
def State.unsettled (s : State) (pieces : List Nat) : Bool :=
  pieces.any (fun p => (s.reloc (p / 32) (p % 32)).phase != 0)

/-- PIN_SWEEP_DONE: the die confirms the pins of a piece whose census is zero; lines tracked since are recalled too. -/
def State.pinSweepDone (s : State) (d piece : Nat) : State :=
  let x := s.die d
  let n := (x.sweeps.filter (· == piece)).length
  if n = 0 then s
  else if s.censusOn d piece then (s.sweepPiece d piece).1
  else s.setDie d { x with sweeps := x.sweeps.filter (· != piece), pins := mput 0 x.pins piece (mget 0 x.pins piece + n) }

/-! ### Leases (R350 step 6) -/

/-- Tasks of a die that hold or wait for leases: jet, record, task. -/
def State.leasers (s : State) (d : Nat) : List (Nat × Task) :=
  s.tasks.filter (fun e => dieOfJet (e.1 / 32) == d && (e.2.leased || e.2.ord != 0))

/-- The leases of a task can be granted: no other leg holds a channel of it, and no earlier admission waits for one. -/
def State.leaseFree (s : State) (j r : Nat) : Bool :=
  let t := s.task j r
  !(s.leasers (dieOfJet j)).any (fun e => e.1 != 32 * j + r && e.2.leg.channels &&& t.leg.channels != 0
    && (e.2.leased || decide (e.2.ord < t.ord)))

/-! ### Admission (R350) -/

/-- Sheets translated and checked: the entries' bases and what may be written, or a refusal. -/
def admitSheets (e : Eng) (tag : BitVec 16) (sheets : List (Nat × Nat)) : EngM (List Nat) :=
  engAll (fun h => translate e tag accRead h.1) sheets

/-- The pins of a leg's sheets in its die's translation cache: the entry that serves each, whichever size its answer gave (R73). -/
def State.pinSheets (s : State) (j r : Nat) (tag : BitVec 16) (sheets : List (Nat × Nat)) : State :=
  let d := dieOfJet j
  let k := 32 * j + r
  s.forEach sheets (fun s h =>
    let x := s.die d
    match x.xlate.find? (fun e => e.serves tag h.1 accRead (.jet j r)) with
    | none => s
    | some y => s.setDie d { x with xlate := x.xlate.map (fun e =>
        if e = y ∧ !e.pins.contains k then { e with pins := e.pins ++ [k] } else e) })

/-- A sheet may be written in the leg: its parcel's rights allow it and its entry has W (R72). -/
def State.sheetWrites (s : State) (j r : Nat) (tag : BitVec 16) (va : Nat) (check : Except Nat Bool) : Bool :=
  (match check with | .ok w => w | .error _ => false)
    && (s.die (dieOfJet j)).xlate.any (fun e => e.serves tag va accWrite (.jet j r))

/-- The step the admission is at, taken; true where the next can follow at once. -/
def State.admitStep (s : State) (j r : Nat) : State × Bool :=
  let t := s.task j r
  let e := Eng.jet j r
  let d := dieOfJet j
  let goOn (s : State) (k : Nat) : State × Bool := (s.setTask j r { s.task j r with step := k }, true)
  match t.step with
  | 1 =>
    if t.legVa % 256 ≠ 0 then (s.endFault j r 0x10 stOk 0 0, false)
    else match (fetchBytes e t.ctx t.legVa 256).on s with
    | (.error .wait, s) => (s.admitWaits j r, false)
    | (.error (.fail k st va g), s) => (s.endFault j r k st va g, false)
    | (.ok h, s) =>
      let s := s.dropAns e
      if headerBad h then
        -- step 2 comes before the header is checked
        (match s.tagRefused t.ctx with
          | some st => s.endFault j r 0x06 st 0 0
          | none => s.endFault j r 0x10 stOk 0 0, false)
      else goOn (s.setTask j r { s.task j r with leg := legOf h }) 2
  | 2 => match s.tagRefused t.ctx with
    | some st => (s.endFault j r 0x06 st 0 0, false)
    | none => goOn s 4
  | 4 =>
    let chans := (onesOf t.leg.channels).map (48 * d + ·)
    if t.leg.exact ∧ !chans.all (fun c => s.chanRunning c && s.activeMap c == t.leg.map) then
      (s.endFault j r 0x11 stBreach 0 0, false)
    else goOn s (if t.leg.exact then 5 else 7)
  | 5 =>
    if t.pinned.isEmpty ∧ t.leg.sheets ≠ [] then
      match (admitSheets e t.ctx t.leg.sheets).on s with
      | (.error .wait, s) => (s.admitWaits j r, false)
      | (.error (.fail k st va g), s) => (s.endFault j r k st va g, false)
      | (.ok gs, s) =>
        let pieces := ((t.leg.sheets.zip gs).flatMap (fun x => sheetPieces x.2 x.1.2)).eraseDups
        let checks := (t.leg.sheets.zip gs).map (fun x => (x, s.sheetCheck t.ctx x.2))
        let moved := (t.leg.sheets.zip gs).find? (fun x => (sheetPieces x.2 x.1.2).any (fun p => (s.reloc (p / 32) (p % 32)).place != 0))
        match checks.findSome? (fun c => match c.2 with | .error st => some (st, c.1) | .ok _ => none) with
        | some (st, h, g) => (s.endFault j r 0x06 st h.1 g, false)
        | none =>
          match moved with
          | some (h, g) => (s.endFault j r 0x06 stNoParcel h.1 g, false)
          | none =>
          if s.unsettled pieces then (s.park j r 2, false)
          else
            let wr := (checks.filter (fun c => s.sheetWrites j r t.ctx c.1.1.1 c.2)).map (fun c => c.1.1.1)
            let s := (s.pinSheets j r t.ctx t.leg.sheets).forEach pieces (fun s p => s.pinPiece p)
            let s := s.setTask j r { s.task j r with pinned := pieces, writable := wr }
            if s.sweeping pieces then (s.park j r 2, false) else goOn s 6
    else if s.sweeping t.pinned then (s.park j r 2, false)
    else goOn s 6
  | 6 =>
    let ord := if t.ord = 0 then (s.leasers d).foldl (fun a x => max a x.2.ord) 0 + 1 else t.ord
    let s := s.setTask j r { t with ord := ord }
    if s.leaseFree j r then goOn (s.setTask j r { s.task j r with leased := true }) 7 else (s.park j r 6, false)
  | 7 =>
    let at_ := t.legVa + 256
    match (fetchBytes e t.ctx at_ (32 * t.leg.bundles)).on s with
    | (.error .wait, s) => (s.admitWaits j r, false)
    | (.error (.fail k st va g), s) => (s.endFault j r k st va g, false)
    | (.ok bs, s) =>
      let s := s.dropAns e
      let code := (List.range t.leg.bundles).map (fun i => BitVec.ofNat 256 (natOfBytes ((bs.drop (32 * i)).take 32)))
      let t := s.task j r
      (s.setTask j r { t with leg := { t.leg with code := code }, admitted := true, step := 8 }, false)
  | _ => (s, false)

def legAdmitGo (j r : Nat) : Nat → State → State
  | 0, s => s
  | fuel + 1, s => match s.admitStep j r with
    | (s, true) => legAdmitGo j r fuel s
    | (s, false) => s

/-- LEG_ADMISSION: the running task's admission goes as far as it can. -/
def State.legAdmit (s : State) (j : Nat) : State :=
  match s.runningTask j with
  | some (r, t) => if t.inLeg ∨ t.admitted then s else legAdmitGo j r 8 s
  | none => s

/-- What a task parked for pins or leases waits for has come. -/
def State.waitOver (s : State) (j r : Nat) : Bool :=
  let t := s.task j r
  match t.cause with
  | 2 => if t.pinned.isEmpty then
      (let gs := t.leg.sheets.filterMap (fun h => (s.xlookup (dieOfJet j) t.ctx h.1 accRead (.jet j r)).1.map (fun g => (g, h.2)))
       !s.unsettled (gs.flatMap (fun x => sheetPieces x.1 x.2)))
    else !s.sweeping t.pinned
  | 6 => s.leaseFree j r
  | _ => false

/-- Tasks parked for pins and leases become ready. -/
def State.parkedGo (s : State) : State :=
  s.forEach (s.tasks.filter (fun e => e.2.state == .parked && (e.2.cause == 2 || e.2.cause == 6))) (fun s e =>
    if s.waitOver (e.1 / 32) (e.1 % 32) then s.wake (e.1 / 32) (e.1 % 32) else s)

/-! ### Start (R350 step 8, R486, R487) -/

/-- Slots from a position to the leg's anchor. -/
def anchorWait (leg : Leg) (pos : Nat) : Nat :=
  let period := 2 ^ leg.periodLog
  (leg.anchor + period - pos % period) % period

/-- LEG_START: an admitted leg starts, at its anchor where it is exact; throttle levels 2 and 3 hold it back. -/
def State.legStart (s : State) (j : Nat) : State :=
  match s.runningTask j with
  | none => s
  | some (r, t) =>
    let d := dieOfJet j
    let level := s.rf Reg.GL_PWR_STATE 0 3
    let cal := s.rf (Reg.BS_CAL_COUNT d) 0 64
    if !t.admitted ∨ t.inLeg ∨ 3 ≤ level ∨ (level = 2 ∧ t.leg.exact ∧ (s.jet j).exactCal = some cal) then s
    else
      let chans := onesOf t.leg.channels
      let first := (chans.map (fun c => (s.chan (48 * d + c)).pos % 4096)).headD 0
      let wait := if t.leg.exact then anchorWait t.leg first else 0
      let bases := chans.map (fun c =>
        let x := s.chan (48 * d + c)
        (c, x.slots + (first + wait + 4096 - x.pos % 4096) % 4096))
      let s := s.setTask j r { t with inLeg := true, pc := 0, slot := 0, cycle := 0, pend := [], ereads := [], waits := [],
                                      waitFc := none, portFree := 0, bowlAt := none, bases := bases, ended := none,
                                      legStart := s.now, regs := { t.regs with fc := 0 }, gap := 0 }
      if t.leg.exact then (s.setJet j { s.jet j with exactCal := some cal }).raiseTo (Reg.JT_ANCHOR_WAIT j) 0 13 wait else s

/-! ### End (R352, R357) -/

/-- An E access of the task still waits for its slot. -/
def State.eBound (s : State) (j r : Nat) : Bool :=
  s.chans.any (fun c => c.2.bound.any (fun b => b.2.jet == j && b.2.record == r))

/-- The next leg of the running task, which keeps the jet or yields it. -/
def State.nextLeg (s : State) (j r va : Nat) (yield : Bool) : State :=
  let s := s.setTask j r { s.task j r with legVa := va, step := 1, admitted := false, inLeg := false, ended := none, leg := {},
                                           writable := [] }
  let others := (s.readyTasks j) != []
  if others ∧ (yield ∨ 1000 * s.gzv 0x5020 0x01 < s.now - (s.jet j).switchedAt) then s.switchOut j r else s

/-- LEG_END: everything the leg issued has completed; pins and leases go, and NEXT is acted on. -/
def State.legEnds (s : State) (j : Nat) : State :=
  match s.runningTask j with
  | none => s
  | some (r, t) =>
    match t.ended with
    | none => s
    | some (next, x, yield) =>
      if !t.waits.isEmpty ∨ !t.ereads.isEmpty ∨ t.resume ≠ 0xFFFF ∨ s.eBound j r then s
      else
        let seqVa := (t.legVa + 256 + 32 * t.leg.bundles) % 2 ^ 64
        let s := (s.setTask j r t.landAll).bump (Reg.JT_LEGS j) (if t.leg.exact then 0 else 32) 32 1
        let s := s.releaseLeg j r
        if next = 2 then s.endNormal j r
        else if next = 1 then s.nextLeg j r x yield
        else if next = 0 then s.nextLeg j r seqVa yield
        else
          let s := s.setTask j r { s.task j r with legVa := seqVa, step := 1, admitted := false, inLeg := false, ended := none,
                                                   leg := {}, writable := [] }
          if x = 1 then s else s.park j r 3

/-- LEG_OVERRUN: the leg has run for longer than its limit. -/
def State.legOverrun (s : State) (j : Nat) : State :=
  match s.runningTask j with
  | none => s
  | some (r, t) =>
    if t.inLeg then (s.atLeast (t.legStart + 1000 * s.gzv 0x5020 0x02)).endFault j r 0x12 stOk 0 0 else s

end Sys2Proof.Machine
end

