-- ==== Sys2Proof/Machine/Responses.lean ====
section
/-!
DEFINITION. Answers to the Golik's own requests (R255, R261, R413, R420, R424): matching, RETRY, REDIRECT, giving up; and the answers
of tier T2 backing.
-/

namespace Sys2Proof.Machine

/-- The request a response answers: by SRC, ORD and SEQ. -/
def State.matchOut (s : State) (f : Frame) : Option OutReq :=
  s.out.find? (fun r => r.f.dst == f.src && r.f.ord == f.ord && r.f.seq == f.seq)

/-- The access a line's head transaction waits for from backing outside tier T0. -/
def State.backingAccess (s : State) (n : Nat) (wr : Bool) : Option FReq :=
  (s.txnsOf n).head?.bind (fun t => match t.phase with
    | .fetch => some { line := n, use := .fetch, wr := wr }
    | .old => some { line := n, use := .old, wr := wr }
    | .write => some { line := n, use := .write, wr := wr }
    | .dirty => some { line := n, use := .dirty, wr := wr }
    | .rmwRead => some { line := n, use := .rmwRead, wr := wr }
    | .rmwWrite => some { line := n, use := .rmwWrite, wr := wr }
    | _ => none)

/-- Backing outside tier T0 answers an access (R411, R413). -/
def State.backingAnswer (s : State) (n : Nat) (wr : Bool) (status : Nat) (data : Line) : State :=
  match s.backingAccess n wr with
  | none => s
  | some r => s.act (if status ≠ stOk then .failed r status else if wr then .issued r else .returned r data 0)

/-- A clearing write of a borrowed piece is answered; the last of them clears the piece's USED bit. One that fails leaves it
set (R421). -/
def State.zeroAnswered (s : State) (i k status : Nat) : State :=
  if status ≠ stOk then
    { s with out := s.out.map (fun r => if r.purpose = .zero i k then { r with purpose := .zero 256 0 } else r) }
  else if i < 256 ∧ !s.out.any (fun r => r.purpose == .zero i k) then
    s.setBorrow i { s.borrowAt i with used := withoutBit (s.borrowAt i).used k }
  else s

/-- A final answer to an own request that is no engine's. -/
def State.ownAnswered (s : State) (r : OutReq) (f : Frame) (gaveUp : Bool) : State :=
  let s : State := { s with out := s.out.erase r }
  let st := f.status.toNat
  match r.purpose with
  | .inset k => s.insetResponse k f
  | .forward n =>
    match (s.txnsOf n).head?.map Txn.phase with
    | some Phase.up => s.forwardDone n f.typ.toNat st f.data gaveUp
    | _ => s.backingAnswer n (r.f.typ != 0x12) st f.data
  | .moveCopy p k => s.moveAnswered p k r.f st f.data
  | .zero i k => s.zeroAnswered i k st
  | .eng _ => s

/-- A matched response, GRANT or REDIRECT (R255, R261, R423). RETRY of a request sent upstream for a member's goes to the member (R193). -/
def State.takeResponse (s : State) (r : OutReq) (f : Frame) : State :=
  match r.purpose with
  | .eng _ => s.engAnswer r f
  | .inset k =>
    let release := (s.txnsOf k).head?.any (fun t => match t.work with | .recall _ => true | .req _ _ _ _ => false)
    if f.typ = 0x50 ∧ f.status.toNat = stRetry ∧ release then
      { s with out := s.out.map (fun x => if x = r then { x with retryAt := some (s.now + s.retryDelay), tries := 0 } else x) }
    else s.ownAnswered r f false
  | _ =>
    if f.typ = 0x50 ∧ f.status.toNat = stRetry then
      { s with out := s.out.map (fun x => if x = r then { x with retryAt := some (s.now + s.retryDelay), tries := 0 } else x) }
    else if f.typ = 0x52 then s.redirect r f.aux.toNat
    else s.ownAnswered r f false

/-- A response, GRANT, REDIRECT or ACCEPT for this Golik that arrived on a port (R255). A GRANT that answers nothing of a line the
remote-line cache holds is acknowledged again (R167). -/
def State.responseArrives (s : State) (f : Frame) (o : Origin) : State :=
  match s.matchOut f with
  | some r =>
    if f.typ = 0x61 then
      match s.offerOf r with
      | some (t, q, d) => if r.f.typ = 0x60 then s.acceptFor t q d r f else s.countUnmatched o
      | none => s.countUnmatched o
    else s.takeResponse r (heard f)
  | none =>
    if f.typ = 0x40 ∨ f.typ = 0x41 then
      let k := remoteKey f.src.toNat f.line
      let x := s.rlcAt k
      if !s.insetOn && x.fill == 0 && x.state != .invalid && x.state != .lost then s.sendGrantAck k f.seq f.ctx
      else s.countUnmatched o
    else s.countUnmatched o

/-! ### Time (R261, Table 9-8) -/

/-- An own request by destination, series and number. -/
def State.outAt (s : State) (dst : BitVec 14) (ord : Bool) (seq : BitVec 24) : Option OutReq :=
  s.out.find? (fun r => r.f.dst == dst && r.f.ord == ord && r.f.seq == seq)

/-- SOURCE_TIMEOUT: the request is sent again, or given up after G:0x4030.02 reissues: TARGET_LOST and event 0x4107. -/
def State.sourceTimeout (s : State) (dst : BitVec 14) (ord : Bool) (seq : BitVec 24) : State :=
  match s.outAt dst ord seq with
  | none => s
  | some r =>
    if s.isSelf dst || r.retryAt.isSome || r.held.isSome then s
    else
      let s := s.atLeast (r.sentAt + 1000 * s.gzv 0x4030 0x01)
      if r.tries < s.gzv 0x4030 0x02 then
        let r' := { r with tries := r.tries + 1 }
        ({ s with out := s.out.map (fun x => if x = r then r' else x) }).resendOwn r'
      else
        let f := respTo r.f 0x50 stTargetLost 0 0
        let s := s.raise 0x4107 r.die [(2, dst.toNat), (2, r.f.ctx.toNat), (1, r.f.typ.toNat), (4, seq.toNat)]
        match r.purpose with
        | .eng _ => s.engAnswer r f
        | _ => s.ownAnswered r f true

/-- RETRY_DELAY_EXPIRY: a request answered RETRY is sent again. -/
def State.retryExpiry (s : State) (dst : BitVec 14) (ord : Bool) (seq : BitVec 24) : State :=
  match s.outAt dst ord seq with
  | none => s
  | some r =>
    match r.retryAt with
    | some t => (s.atLeast t).resendOwn r
    | none => s

/-! ### Tier T2 backing (R411, R301) -/

/-- A tier T2 access is answered, or ended. -/
def State.t2Done (s : State) (x : Frame × Purpose) (status : Nat) (data : Line) : State :=
  let s : State := { s with thoit := { s.thoit with t2 := s.thoit.t2.erase x } }
  let wr := x.1.typ == 0xA9
  match x.2 with
  | .forward n => s.backingAnswer n wr status data
  | .moveCopy p k => s.moveAnswered p k x.1 status data
  | _ => s

/-- T2_ANS, matched by its number to the access it answers; one that answers nothing is counted (R255, R304). -/
def State.t2Answer (s : State) (f : Frame) : State :=
  match s.thoit.t2.find? (fun x => x.1.seq == f.seq) with
  | none => s.bump Reg.GL_THOIT_COUNTS 0 16 1
  | some x => s.t2Done x f.status.toNat f.data

/-- Every tier T2 access ended with TARGET_LOST (R301). -/
def State.t2Lost (s : State) : State := s.forEach s.thoit.t2 (fun s x => s.t2Done x stTargetLost 0)

end Sys2Proof.Machine
end

