-- ==== Sys2Proof/Machine/Tenants.lean ====
section
/-!
DEFINITION. The end of a descriptor's writes (R318); fences, what they end and their drain (R323 to R328); tenant reset (R329).
-/

namespace Sys2Proof.Machine

/-! ### DESC_WRITES_DONE (R318) -/

/-- A refused write of a descriptor fails it; REPLICA_LINK's link goes with it (R385). -/
def State.writesRefused (s : State) (t q : Nat) (d : Desc) (a : EngAns) : State :=
  let h := bf d.body 75 64
  let s := if opOf d.body = 0x15 then
      let x := mget {} s.tables h
      s.setTable h { x with links := merase x.links (bf d.body 78 76) }
    else s
  s.descFail t q d.index 0x05 a.f.status.toNat a.va (ansGpa a.f) (s.jetOf t q d.index)

/-- What the end of a descriptor's writes does beside its completion. -/
def State.writesEnd (s : State) (t q : Nat) (d : Desc) : State :=
  let done (s : State) : State := s.descDone t q d.index d.result d.extra
  match opOf d.body with
  | 0x02 => done (s.bump (Reg.TN_CNT_BYTES t) 0 64 (bf d.body 223 192))
  | 0x03 => done (s.bump (Reg.TN_CNT_BYTES t) 0 64 (bf d.body 223 192))
  | 0x22 => s.searchEnd t q d
  | 0x23 => s.mutationEnd t q d
  | 0x24 => s.mutationEnd t q d
  | 0x25 => s.mergeEnds t q d
  | _ => done s

/-- The first descriptor whose writes have all completed ends: commits and snapshots take refused writes for themselves. -/
def State.descWritesDone (s : State) (t q : Nat) : State :=
  match (s.qp t q).descs.find? (fun d => d.phase == .writing && !s.engBusy (qpEng t q d.index)) with
  | none => s
  | some d =>
    if opOf d.body = 0x14 then s.commitEnd t q d
    else if opOf d.body = 0x16 then s.snapEnd t q d
    else match s.refusedAns (qpEng t q d.index) with
      | some a => s.writesRefused t q d a
      | none => s.writesEnd t q d

/-! ### What a fence ends (R324) -/

/-- Queue pairs that are not DISABLED, as (slot, queue pair). -/
def State.liveQps (s : State) : List (Nat × Nat) :=
  let l := s.regs.filter (fun e => decide (0x100_0000 ≤ e.1) && decide (e.1 < 0x500_0000) && decide (e.1 % 0x1_0000 < 0x1000)
    && decide (e.1 % 64 = 0x18))
  (l.map (fun e => ((e.1 - 0x100_0000) / 0x1_0000, e.1 % 0x1_0000 / 64))).filter (fun e => s.qpState e.1 e.2 != qpDisabled)

/-- Queue pairs whose CTX is a tag. -/
def State.qpsOf (s : State) (tag : BitVec 16) : List (Nat × Nat) := s.liveQps.filter (fun e => s.qpCtx e.1 e.2 == tag)

/-- A descriptor whose own task, batch task or merge task is still to end: it fails with that task. -/
def State.taskCarries (s : State) (t q : Nat) (d : Desc) : Bool :=
  (s.tasksOf t q d.index).any (fun k => (s.task (k / 32) (k % 32)).system != 1)

/-- A queue pair enters FENCED: what waits behind a barrier goes, what is in flight fails once its requests have completed. -/
def State.fenceQp (s : State) (t q : Nat) : State :=
  let st := s.qpState t q
  if st = qpFenced then s
  else
    let x := s.qp t q
    let next := match x.descs.find? (fun d => d.phase == .barred) with
      | some d => d.index
      | none => s.rf (Reg.TN_QP_SQ_HEAD t q) 0 16
    let s := s.setQp t q { x with descs := (x.descs.filter (fun d => d.phase != .barred)).map (fun d =>
      if s.taskCarries t q d then d else { d with phase := .fenced }) }
    let s := (s.syncQp t q).setQpState t q qpFenced
    if st = Machine.qpError then s else (s.setCauseOf t q 6 next 0).qpEvent t q

/-- Lines of the remote-line caches that a tag filled. -/
def State.linesOfTag (s : State) (tag : BitVec 16) : List (Nat × Rlc) :=
  s.dies.flatMap (fun d => d.2.rlc.filter (fun e => e.2.tag == tag && (e.2.state != .invalid || e.2.fill != 0)))

/-- The remote-line caches write back and drop every line a tag filled (R181). -/
def State.dropLines (s : State) (tag : BitVec 16) : State := s.forEach (s.linesOfTag tag) (fun s e => s.rlcEvict e.1)

/-- Queue pairs of a tag that only its fence kept FENCED settle (Table 12-2). -/
def State.settleQps (s : State) (tag : BitVec 16) : State := s.forEach (s.qpsOf tag) (fun s e => s.qpSettle e.1 e.2)

/-- A tag's outstanding translation requests are retired and the tasks that waited on them become ready (R85); its queue pairs settle. -/
def State.xforget (s : State) (tag : BitVec 16) : State :=
  let l := (List.range 4).flatMap (fun d => (s.die d).xreqs.filter (fun r => r.tag == tag));
  ((s.xretire tag).forEach (l.flatMap XReq.waiters) State.xwake).settleQps tag

/-- A write of GL_CTX_CMD (R62, R63, R85, R181, R556). -/
def State.ctxCommand (s : State) (w : Word) : State :=
  let op := field w 0 4
  let n := field w 4 10
  let tag := BitVec.ofNat 16 (field w 16 16)
  if op = 0 then s
  else s.command ctxRegs (fun s =>
    if op = 1 then
      if s.isMgmt tag then s.ctxDone n 3
      else if (s.ctxEntry n).valid then s.ctxDone n 1
      else if (s.ctxOf tag).isSome then s.ctxDone n 2
      else (s.setCtx n { tag := tag, tenant := field w 32 10, valid := true }).ctxDone n 0
    else if op = 2 then
      if !(s.ctxEntry n).valid then s.ctxDone n 4
      else
        let t := (s.ctxEntry n).tag
        let s := s.setCtx n { s.ctxEntry n with valid := false, fenced := false }
        (((s.dropXlate (fun e => e.tag == t)).dropLines t).xforget t).ctxDone n 0
    else s.ctxDone n 3)

/-- What R324 does at once for a tag. -/
def State.applyFence (s : State) (x : Drain) : State :=
  let tag := x.tag
  let tasks := s.tasks.filter (fun e => e.2.state != .free && e.2.ctx == tag)
  let qps := s.qpsOf tag
  let descs := qps.foldl (fun a e => a + (s.qp e.1 e.2).inflight) 0
  let back := ((s.linesOfTag tag).filter (fun e => e.2.dirty)).length
  let s : State := { s with drains := s.drains.map (fun y => if y.tag = tag then
    { y with applied := true, tasks := tasks.length, descs := descs, wbacks := back } else y) }
  let s := s.forEach qps (fun s e => s.fenceQp e.1 e.2)
  let s := s.forEach (tasks.filter (fun e => e.2.state == .parked)) (fun s e =>
    if e.2.cause = 3 then s.gaugeWake (e.1 / 32) (e.1 % 32) else s.wake (e.1 / 32) (e.1 % 32))
  (s.dropLines tag).xretire tag

/-- Every fence set by the command that runs takes its effects. -/
def State.fencesGo (s : State) : State := s.forEach (s.drains.filter (fun x => !x.applied)) (fun s x => s.applyFence x)

/-- The descriptors of fenced queue pairs that have nothing outstanding fail. -/
def State.fencedGo (s : State) : State :=
  s.forEach (s.qps.filter (fun e => e.2.descs.any (fun d => d.phase == .fenced))) (fun s e => s.fencedFail (e.1 / 64) (e.1 % 64))

/-! ### The drain (R327) -/

/-- Everything R327 asks of a fenced tag holds. -/
def State.drained (s : State) (tag : BitVec 16) : Bool :=
  !s.txns.any (fun e => e.2.any (fun t => match t.work with
    | .req f _ _ _ => f.ctx == tag && !t.fenced
    | .recall _ => false))
  && !s.tasks.any (fun e => e.2.state != .free && e.2.ctx == tag)
  && !(s.qpsOf tag).any (fun e => !(s.qp e.1 e.2).descs.isEmpty)
  && !s.out.any (fun r => r.f.ctx == tag)
  && !s.dies.any (fun d => d.2.rlc.any (fun e => e.2.tag == tag))

/-- FENCE_DRAINED. -/
def State.fenceDrained (s : State) (tag : BitVec 16) : State :=
  match s.drains.find? (fun x => x.tag == tag && x.applied) with
  | none => s
  | some x =>
    if s.drained tag then
      ({ s with drains := s.drains.erase x }).raise 0x6020 fromController
        [(2, x.slot), (2, tag.toNat), (4, x.tasks), (4, x.descs), (4, x.wbacks)]
    else s

/-! ### Status (Table 12-7) -/

/-- Valid entries of a slot. -/
def State.tagsOf (s : State) (t : Nat) : List Ctx := (s.ctxs.map (·.2)).filter (fun c => c.valid && c.tenant == t)

/-- DRAINING of a slot. -/
def State.draining (s : State) (t : Nat) : List Drain := s.drains.filter (fun x => x.slot == t)

/-- A parcel of the slot has its bit set in a 2,048-bit map of parcels. -/
def State.slotParcelIn (s : State) (t : Nat) (map : Nat → Nat) : Bool :=
  s.parcels.any (fun e => e.2.state != .free && e.2.tenant == t && decide (s.rf (map (e.1 / 64)) (e.1 % 64) 1 = 1))

def State.lostDirty (s : State) (t : Nat) : Bool := s.slotParcelIn t Reg.GL_PARCEL_LOSTDIRTY

/-- TN_STATUS. -/
def State.tnStatus (s : State) (t : Nat) : Word :=
  let fenced := ((s.tagsOf t).filter (·.fenced)).length
  pack [(1, bitN (fenced ≠ 0)), (1, bitN (s.slotParcelIn t Reg.GL_PARCEL_LOST)), (1, bitN (s.lostDirty t)), (13, 0), (11, fenced),
    (11, (s.draining t).length)]

/-! ### Commands (R323 to R329) -/

/-- TAG is held by a valid entry mapped to the slot. -/
def State.mine (s : State) (t : Nat) (tag : BitVec 16) : Bool :=
  !s.isMgmt tag && (s.ctxOf tag).any (fun e => e.2.tenant == t)

/-- FENCED cleared in every entry of a list of tags; their queue pairs settle. -/
def State.unfence (s : State) (tags : List (BitVec 16)) : State :=
  let s : State :=
    { s with ctxs := s.ctxs.map (fun e => if e.2.valid ∧ tags.contains e.2.tag then (e.1, { e.2 with fenced := false }) else e) }
  s.forEach tags State.settleQps

/-- UNFENCE of tags of a slot. -/
def State.unfenceTags (s : State) (t : Nat) (tags : List (BitVec 16)) : State :=
  if s.drains.any (fun x => tags.contains x.tag) then s.done (fenceRegs t) 2
  else if s.lostDirty t then s.done (fenceRegs t) 3
  else (s.unfence tags).done (fenceRegs t) 0

/-- A write of TN_FENCE_CMD. -/
def State.fenceCommand (s : State) (t : Nat) (w : Word) : State :=
  let op := field w 0 4
  let tag := BitVec.ofNat 16 (field w 16 16)
  if op = 0 then s
  else s.command (fenceRegs t) (fun s =>
    let all := (s.tagsOf t).map (·.tag)
    if 4 < op then s.done (fenceRegs t) 5
    else if (op = 1 ∨ op = 3) ∧ !s.mine t tag then s.done (fenceRegs t) 1
    else if op = 1 then (s.fence tag).done (fenceRegs t) 0
    else if op = 2 then (s.forEach all State.fence).done (fenceRegs t) 0
    else if op = 3 then s.unfenceTags t [tag]
    else s.unfenceTags t all)

/-- The registers a tenant reset clears: queue pairs, the fault ring, gauges, the counters of Table 12-8. -/
def resetRegs (t off : Nat) : Bool :=
  let lo := 0x100_0000 + 0x1_0000 * t
  decide (lo ≤ off) && decide (off < lo + 0x1_0000) &&
    (let o := off - lo
     decide (o < 0x1800) || (decide (0x2000 ≤ o) && decide (o < 0x2900)) || (decide (0x4000 ≤ o) && decide (o < 0x4030)))

/-- RESET's effects (R329, R383, R407, R438). -/
def State.resetTenant (s : State) (t : Nat) : State :=
  let tags := (s.tagsOf t).map (·.tag)
  let s : State := { s with
    regs := s.regs.filter (fun e => !resetRegs t e.1)
    qps := s.qps.filter (fun e => e.1 / 64 != t)
    tables := s.tables.filter (fun e => e.2.tenant != t)
    indexes := s.indexes.filter (fun e => e.2.tenant != t)
    custody := s.custody.filter (fun e => e.1 / 2 ^ 64 != t)
    increments := s.increments.filter (fun e => e.1 != t) }
  (s.dropXlate (fun e => tags.contains e.tag)).raise 0x6022 fromController [(2, t)]

/-- A write of TN_RESET_CMD; it shares BUSY, DROPS and its results with TN_FENCE_CMD. -/
def State.resetCommand (s : State) (t : Nat) (w : Word) : State :=
  let op := field w 0 4
  if op = 0 then s
  else s.command (fenceRegs t) (fun s =>
    if op ≠ 1 then s.done (fenceRegs t) 5
    else if (s.draining t) ≠ [] then s.done (fenceRegs t) 2
    else if (s.tagsOf t).any (fun c => !c.fenced) then s.done (fenceRegs t) 4
    else (s.resetTenant t).done (fenceRegs t) 0)

end Sys2Proof.Machine
end

