-- ==== Sys2Proof/Machine/Thoit.lean ====
section
/-!
DEFINITION. The Thoit link to the companion (chapter 11): groups and their training, loss and rejoin, the transmit cycle with its flits,
receipts and credits, control halves, lane failures, the loss of the link. What the companion's messages do stands in
Messages.lean.
-/

namespace Sys2Proof.Machine

/-! ### States (Table 11-6) -/

def liDown : Nat := 0
def liBoot : Nat := 1
def liUp : Nat := 2
def liSingle : Nat := 3
def liLost : Nat := 4

def State.link (s : State) : Nat := s.rf Reg.GL_THOIT_STATE 0 3
def State.setLink (s : State) (x : Nat) : State := s.setRf Reg.GL_THOIT_STATE 0 3 x

/-- State of a group: 0 DOWN, 1 TRAINING, 2 UP, 3 UP with its spare used. -/
def State.groupState (s : State) (g : Nat) : Nat := s.rf Reg.GL_THOIT_STATE (3 + 3 * g) 3
def State.setGroupState (s : State) (g x : Nat) : State := s.setRf Reg.GL_THOIT_STATE (3 + 3 * g) 3 x
def State.groupUp (s : State) (g : Nat) : Bool := decide (2 ≤ s.groupState g)

/-- Receive lanes of a group in use. -/
def State.setLanes (s : State) (g : Nat) (m : BitVec 17) : State := s.setRf Reg.GL_THOIT_STATE (9 + 17 * g) 17 m.toNat
def State.lanesOf (s : State) (g : Nat) : BitVec 17 := BitVec.ofNat 17 (s.rf Reg.GL_THOIT_STATE (9 + 17 * g) 17)

def State.group (s : State) (g : Nat) : Group := mget {} s.thoit.groups g
def State.setGroup (s : State) (g : Nat) (x : Group) : State :=
  { s with thoit := { s.thoit with groups := mput {} s.thoit.groups g x } }

/-- The trust copy alone uses the link: boot mode, before an image has been accepted (R312). -/
def State.bootMode (s : State) : Bool := s.mode == .boot && !s.boot.accepted

/-- The group on the die of the running trust copy: A for B0, B for B2 (R312). -/
def State.bootGroup (s : State) : Nat := if s.boot.copies.getLsbD 0 then 0 else 1

/-- The lowest sixteen of the lanes that lock (R296, notes assumption 29). -/
def lowLanes (m : BitVec 17) : BitVec 17 := ((onesOf m).take 16).foldl withBit 0

/-! ### Training (R296, R297) -/

/-- A group starts to train; its counts and replay buffer stay (R310). -/
def State.trainGroup (s : State) (g : Nat) : State :=
  let s := ((s.bump Reg.GL_THOIT_REPLAYS 32 32 1).setGroupState g 1).setLanes g 0
  s.setGroup g { s.group g with usable := 0, locked := false, peerInit := false, rejoin := false, rejoinSent := false,
                                rejoinRx := false, hold := none, swapMask := none, receipts := [], unsure := [] }

/-- Training starts where ENABLE allows it: on both groups, in boot mode on the copy's own (R312). -/
def State.trainThoit (s : State) : State :=
  if s.thoit.loseRunning then { s with thoit := { s.thoit with want := true } }
  else
    let gs := if s.bootMode then [s.bootGroup] else [0, 1]
    s.forEach (gs.filter (fun g => s.groupState g == 0)) (fun s g =>
      (s.setGroup g { s.group g with fails := 0 }).trainGroup g)

/-- Training that waited for the LOSE of port 0 starts once it has ended (R301). -/
def State.thoitGo (s : State) : State :=
  if s.thoit.want && !s.thoit.loseRunning then ({ s with thoit := { s.thoit with want := false } }).trainThoit else s

/-- The link trains as a whole: port 0 is set, the companion's order record reset; event 0x4133 (R297, R224). -/
def State.linkTrains (s : State) (mode : Nat) : State :=
  let s := (s.setLink mode).setCport 0 { s.cport 0 with kind := 1, valid := true, lost := false }
  (s.orderReset 16384).raise 0x4133 fromController
    [(1, if mode = liUp then 0 else 1), (4, (s.lanesOf 0).toNat), (4, (s.lanesOf 1).toNat)]

/-- What a group sent and the companion has not acknowledged goes out again on the other one (R299). -/
def State.resendOnOther (s : State) (g : Nat) : State :=
  let x := s.group g
  let s := s.setGroup g { x with replay := [], resend := [], replaying := false };
  { s with thoit := { s.thoit with again := s.thoit.again ++ x.replay.flatMap (fun f => f.msgs) } }

/-- The state of the link after a group has come up or gone down (R297, R299, R312). -/
def State.linkSettle (s : State) : State :=
  let link := s.link
  if s.bootMode then s.setLink (if s.groupUp s.bootGroup then liBoot else liDown)
  else
    let a := s.groupUp 0
    let b := s.groupUp 1
    if a && b then if link = liUp ∨ link = liSingle then s else s.linkTrains liUp
    else if a || b then
      let down := if a then 1 else 0
      if s.groupState down ≠ 0 then s
      else
        let s := if link = liUp then s.setLink liSingle else if link = liSingle then s else s.linkTrains liSingle
        s.resendOnOther down
    else if s.groupState 0 = 0 ∧ s.groupState 1 = 0 ∧ link ≠ liLost then
      s.setLink liDown
    else s

/-- Both groups are DOWN from now on (R301). -/
def State.bothDown (s : State) : State :=
  if s.groupState 0 = 0 ∧ s.groupState 1 = 0 then { s with thoit := { s.thoit with lostSince := s.now } } else s

/-- A group goes DOWN: event 0x4131 with cause TRAINING (0) or LANES (1), the replacement request set (R299, Table 11-7). -/
def State.groupDown (s : State) (g cause : Nat) : State :=
  let s := ((s.setGroupState g 0).setLanes g 0).bothDown
  let s := s.setGroup g { s.group g with fails := 0, wasUp := false, locked := false, peerInit := false, receipts := [] }
  (s.raiseCause 0x4131 fromController [(1, g), (1, cause)] .thoit).linkSettle

/-- THOIT_TRAIN_TIMEOUT: 100 ms without UP; after three in a row the group is DOWN. -/
def State.thoitTrainTimeout (s : State) (g : Nat) : State :=
  if s.alive && s.groupState g == 1 then
    let n := (s.group g).fails + 1
    if 3 ≤ n then s.groupDown g 0 else (s.setGroup g { s.group g with fails := n }).trainGroup g
  else s

/-- THOIT_LANE_LOCK_DONE: the lanes that locked are usable; a group that retrains on fewer than 16 is DOWN (R296, R298). -/
def State.thoitLocked (s : State) (g : Nat) (usable : BitVec 17) : State :=
  if s.alive && s.groupState g == 1 && !(s.group g).locked then
    if popCount usable < 16 then if (s.group g).wasUp then s.groupDown g 1 else s
    else s.setGroup g { s.group g with usable := usable, locked := true }
  else s

/-- A group has received a control half with INIT clear after the exchange: it is UP, and replay resumes (R296, R310). -/
def State.groupComesUp (s : State) (g : Nat) : State :=
  let x := s.group g
  let m := lowLanes x.usable
  let s := (s.setGroupState g (if m.getLsbD 16 then 3 else 2)).setLanes g m
  (s.setGroup g { x with fails := 0, wasUp := true, replaying := !x.replay.isEmpty }).linkSettle

/-- ENABLE of GL_THOIT_CFG written: 0 holds both groups DOWN, 0 to 1 starts training (R296). -/
def State.thoitEnable (s : State) (v : Word) : State :=
  let was := s.rf Reg.GL_THOIT_CFG 0 1
  let s := s.setReg Reg.GL_THOIT_CFG (v &&& 1)
  if field v 0 1 = 0 then
    let were := s.groupState 0 = 0 ∧ s.groupState 1 = 0
    let s := s.forEach [0, 1] (fun s g => ((s.setGroupState g 0).setLanes g 0).setGroup g
      { s.group g with fails := 0, wasUp := false, locked := false, peerInit := false, receipts := [] })
    let s := if were then s else s.bothDown
    ({ s with thoit := { s.thoit with want := false } }).linkSettle
  else if was = 0 then s.trainThoit else s

/-! ### Which group a message takes (R295, R299, R300) -/

/-- The group that rejoins a link that runs as SINGLE. -/
def State.rejoining (s : State) : Option Nat :=
  if s.link = liSingle ∧ s.groupUp 0 ∧ s.groupUp 1 then
    (if (s.group 0).rejoin then some 0 else if (s.group 1).rejoin then some 1 else none) else none

/-- The group a message travels in now. -/
def State.groupOfMsg (s : State) (f : Frame) : Nat :=
  let byLine := f.addr.toNat / 128 % 2
  if s.link = liBoot then s.bootGroup
  else if s.link = liUp then byLine
  else match s.rejoining with
    | some r => if (s.group r).rejoinSent then byLine else 1 - r
    | none => if s.groupUp 0 ∧ s.groupUp 1 then (if (s.group 0).hold.isSome then 1 else 0) else if s.groupUp 0 then 0 else 1

/-- Data flits of a group the companion has acknowledged, by count. -/
def Group.acked (x : Group) : Nat := x.tx - x.replay.length

/-- What the rejoin holds back on its group: flits sent on the other before REJOIN are not all acknowledged (R300). -/
def State.heldBack (s : State) (g : Nat) : Bool :=
  match (s.group g).hold with
  | some c => decide ((s.group (1 - g)).acked < c)
  | none => false

/-- The rejoin ends: both REJOINs have gone both ways and nothing is held (R300). -/
def State.rejoinEnds (s : State) : State :=
  match s.rejoining with
  | some r =>
    let x := s.group r
    let y := s.group (1 - r)
    if x.rejoinSent && y.rejoinSent && (x.rejoinRx || y.rejoinRx) && !s.heldBack r then
      let clear (z : Group) : Group := { z with rejoin := false, rejoinSent := false, rejoinRx := false, hold := none }
      let s := ((s.setGroup r (clear x)).setGroup (1 - r) (clear y)).setLink liUp
      s.raise 0x4133 fromController [(1, 0), (4, (s.lanesOf 0).toNat), (4, (s.lanesOf 1).toNat)]
    else s
  | none => s

/-! ### The transmit cycle (R302, R305 to R310) -/

/-- Messages of the Golik that carry a payload (Table 11-3). -/
def thoitPayload (typ : Nat) : Bool := [0x40, 0x51, 0xA0, 0xA2, 0xA5, 0xA9].contains typ

/-- The replay buffer of a group: 64 KiB of flits (R310). -/
def replayFlits : Nat := 256

/-- The next message that may go out on a group: what a lost group had sent, answers, then each class with a credit (R299, R309).
A fault copy's credit was taken as it was queued. -/
def State.nextMsg (s : State) (g : Nat) : Option (Frame × State) :=
  let mine (f : Frame) : Bool := s.groupOfMsg f == g
  match s.thoit.again.find? mine with
  | some f => some (f, { s with thoit := { s.thoit with again := s.thoit.again.erase f } })
  | none =>
    match s.thoit.answers.find? mine with
    | some f => some (f, { s with thoit := { s.thoit with answers := s.thoit.answers.erase f } })
    | none =>
      let ready (w : Nat × Frame) : Bool := mine w.2 && (w.1 == 3 || decide (0 < mget 0 s.thoit.credits w.1))
      match [0, 2, 3, 4].findSome? (fun k => s.thoit.waiting.find? (fun w => w.1 == k && ready w)) with
      | some w =>
        let c := if w.1 = 3 then s.thoit.credits else mput 0 s.thoit.credits w.1 (mget 0 s.thoit.credits w.1 - 1)
        some (w.2, { s with thoit := { s.thoit with credits := c, waiting := s.thoit.waiting.erase w } })
      | none => none

/-- The messages of one flit: one with a payload stands first (R302). -/
def fillFlit (g : Nat) : Nat → List Frame → State → List Frame × State
  | 0, l, s => (l, s)
  | fuel + 1, l, s =>
    match s.nextMsg g with
    | none => (l, s)
    | some (f, s') =>
      if !l.isEmpty && thoitPayload f.typ.toNat then (l, s) else fillFlit g fuel (l ++ [f]) s'

/-- One data-flit slot of a cycle: a flit of a replay, a new one, or idle. -/
def State.sendFlit (s : State) (g : Nat) : State :=
  let x := s.group g
  match x.resend with
  | f :: rest => ((s.setGroup g { x with resend := rest }).bump Reg.GL_THOIT_REPLAYS 0 32 1).send (.flit g f)
  | [] =>
    if s.heldBack g || decide (replayFlits ≤ x.replay.length) then s
    else
      let (l, s') := fillFlit g 4 [] s
      if l.isEmpty then s
      else
        let f : Flit := { msgs := l }
        let x := s'.group g
        (s'.setGroup g { x with tx := x.tx + 1, replay := x.replay ++ [f] }).send (.flit g f)

/-- The receipts a group's cycle carries (R306). -/
def Group.due (x : Group) (cycle : Nat) : List (Nat × Receipt) :=
  (x.receipts.filter (fun r => r.1 / 12 == cycle)).map (fun r => (r.1 % 12, r.2))

/-- RETRY and REFUSED receipts counted as they are sent (Table 11-6). -/
def State.countReceipts (s : State) (l : List (Nat × Receipt)) : State :=
  let n (k : Nat) : Nat := (l.filter (fun r => r.2.code == k)).length
  (s.bump Reg.GL_THOIT_RECEIPTS 0 32 (n 2)).bump Reg.GL_THOIT_RECEIPTS 32 32 (n 4)

/-- The control half of a cycle. -/
def State.sendControl (s : State) (g : Nat) (replay : Bool) (start : Nat) : State :=
  let x := s.group g
  let up := s.groupUp g
  let rejoin := up && s.rejoining.isSome && !x.rejoinSent
  let m : CtlOut := { cycle := x.cycle, flitAck := x.rx % 65536, nak := x.nak, replay := replay, swap := x.swapMask.isSome,
                      init := !up && !x.peerInit, rejoin := rejoin, receipts := x.due x.cycle,
                      lanes := if up then x.swapMask.getD 0 else x.usable, start := start % 65536 }
  let s := s.countReceipts (x.due x.cycle)
  let first := up && s.link == liSingle && s.groupUp (1 - g) && s.rejoining.isNone && !(s.group (1 - g)).rejoin && x.hold.isSome
  let hold := match s.rejoining with
    | some r => if rejoin ∧ (s.group (1 - g)).rejoinSent = false then some (r, (s.group (1 - r)).tx) else none
    | none => none
  let s := s.setGroup g { x with nak := false, swapMask := none, receipts := x.receipts.filter (fun r => r.1 / 12 != x.cycle),
                                 rejoinSent := x.rejoinSent || rejoin,
                                 rejoin := x.rejoin || first }
  let s := match hold with
    | some (r, c) => s.setGroup r { s.group r with hold := some c }
    | none => s
  (s.send (.control g m)).rejoinEnds

/-- THOIT_CYCLE: 4 ns after the group's cycle before; three data-flit slots, then the control half, whose receipts answer the
companion's cycle of the same number, which began 44 ns before (R293, R294, R306). A group that trains sends control halves once its lanes have locked. -/
def State.thoitCycle (s : State) (g : Nat) : State :=
  let x := s.group g
  let go := s.groupUp g || (s.groupState g == 1 && x.locked)
  if s.alive && go then
    let s := s.atLeast (if x.at_ = 0 then s.now else x.at_ + 4)
    let replay := x.replaying
    let s := s.setGroup g { x with cycle := (x.cycle + 1) % 65536, at_ := max 1 s.now, replaying := false,
                                   resend := if replay then x.replay else x.resend }
    let s := if s.groupUp g then ((s.sendFlit g).sendFlit g).sendFlit g else s
    s.sendControl g replay x.acked
  else s

/-! ### What comes back (R305, R309, R310) -/

/-- Credits returned, cumulative modulo 65,536; while the link trains the advertisement is absolute (R309). -/
def State.takeCredits (s : State) (m : ControlHalf) : State :=
  let fields := [0, 2, 3, 4].zip (m.credit.toList.map BitVec.toNat)
  if m.init then
    if s.link = liUp ∨ s.link = liSingle then s
    else s.forEach fields (fun s k =>
      { s with thoit := { s.thoit with credits := mput 0 s.thoit.credits k.1 k.2, returned := mput 0 s.thoit.returned k.1 0 } })
  else s.forEach fields (fun s k =>
    let n := (k.2 + 65536 - mget 0 s.thoit.returned k.1) % 65536
    { s with thoit := { s.thoit with credits := mput 0 s.thoit.credits k.1 (mget 0 s.thoit.credits k.1 + n),
                                     returned := mput 0 s.thoit.returned k.1 k.2 } })

/-- Flits acknowledged leave the replay buffer; NAK starts a replay (R310). -/
def State.takeAcks (s : State) (g : Nat) (m : ControlHalf) : State :=
  let x := s.group g
  let left := (x.tx + 65536 - m.flitAck.toNat) % 65536
  let replay := if left ≤ x.replay.length then x.replay.drop (x.replay.length - left) else x.replay
  s.setGroup g { x with replay := replay, replaying := x.replaying || m.nak, resend := if m.nak then [] else x.resend }

/-- GrantAcks of a control half (R167, R305). -/
def State.takeGacks (s : State) (g : Nat) (m : ControlHalf) : State :=
  s.forEach (m.gacks.toList.filterMap id) (fun s n => s.grantAck { typ := 0x42, seq := n } (.group g))

/-- THOIT_CONTROL_HALF_RX: the numbers of the Golik's cycles follow the companion's from training on (R293, R306). -/
def State.controlHalf (s : State) (g : Nat) (m : ControlHalf) : State :=
  if !s.alive || s.groupState g == 0 then s
  else
    let x := s.group g
    let s := s.setGroup g { x with rejoinRx := x.rejoinRx || m.rejoin }
    let s := s.takeCredits m
    if s.groupState g = 1 then
      let s := s.setGroup g { s.group g with cycle := (m.cycle.toNat + 65536 - 11) % 65536 }
      if m.init then s.setGroup g { s.group g with peerInit := true }
      else if x.peerInit ∧ x.locked then
        let rejoins := s.link == liSingle && s.groupUp (1 - g) && !s.bootMode
        let s := (s.takeAcks g m).groupComesUp g
        if rejoins then s.setGroup g { s.group g with hold := some 0 } else s
      else s
    else ((s.takeAcks g m).takeGacks g m).rejoinEnds

/-! ### Lanes (R298) and the loss of the link (R301) -/

/-- THOIT_LANE_FAILURE: the spare takes the place of a lane in use, or the group retrains; a spare that fails is no spare. -/
def State.thoitLaneFailure (s : State) (g lane : Nat) : State :=
  let m := s.lanesOf g
  if !s.alive || !s.groupUp g then s
  else
    let x := s.group g
    let usable := withoutBit x.usable lane
    let s := s.setGroup g { x with usable := usable }
    if !m.getLsbD lane then s
    else if s.groupState g = 2 ∧ 16 ≤ popCount usable then
      let s := ((s.setGroupState g 3).setLanes g usable).setGroup g { s.group g with swapMask := some usable }
      s.raise 0x4130 fromController [(1, g), (1, lane)]
    else s.trainGroup g

/-- THOIT_LINK_LOSS_TIMEOUT: both groups have been DOWN for G:0x4050.01: the link is LOST, port 0 is lost, tier T2 accesses end,
undelivered fault copies and probes are dropped; event 0x4132. -/
def State.thoitLoss (s : State) : State :=
  if s.alive && !s.bootMode && s.groupState 0 == 0 && s.groupState 1 == 0 && s.link != liLost then
    let s := s.atLeast (s.thoit.lostSince + 1000 * s.gzv 0x4050 0x01)
    let down := (s.now - s.thoit.lostSince) / 1000
    let s := (s.setLink liLost).raise 0x4132 fromController [(8, down)]
    let s : State := { s with thoit := { s.thoit with
      loseRunning := true, waiting := s.thoit.waiting.filter (fun w => w.1 == 2), again := s.thoit.again.filter (fun f => f.typ != 0xA2) } }
    (s.losePort 0 0).t2Lost
  else s

end Sys2Proof.Machine
end

