-- ==== Sys2Proof/Machine/RegView.lean ====
section
/-!
DEFINITION. What a register reads (R7, R9): the stored register, or, where the register shows a table, a record or a
count, that table as it stands. Nothing here changes state; a read that clears (RC) is in RegWindow.lean.
-/

namespace Sys2Proof.Machine

/-! ### The attestation status (R504, R506) -/

/-- PFW: the power-fail warning stands (R477). -/
def State.pfw (s : State) : Bool := s.rf Reg.GL_PWR_STATE 5 1 == 1

/-- The attestation status (Table 20-5). -/
def State.attest (s : State) : Nat := s.rf Reg.GL_SEC_ATTEST 0 4
def State.setAttest (s : State) (x : Nat) : State := s.setRf Reg.GL_SEC_ATTEST 0 4 x

def atIdle : Nat := 0
def atBusy : Nat := 1
def atReady : Nat := 2
def atRate : Nat := 3
def atLeaves : Nat := 4
def atNoEpoch : Nat := 5
def atZeroized : Nat := 6
def atPower : Nat := 7
def atFuse : Nat := 8

/-- What STATUS reads: POWER while PFW is set, except on an erased identity (R504, R511). -/
def State.attestView (s : State) : Nat := if s.pfw && s.attest != atZeroized then atPower else s.attest

/-! ### The tables of the global block -/

/-- Word w of the parcel table entry of parcel p (Table 2-3, R47). -/
def State.parcelWord (s : State) (p w : Nat) : Word :=
  let x := s.parcel p
  let code := match x.state with
    | .free => 0 | .granted => 1 | .closing => 2 | .clearing => 3 | .commons => 4
  let owned := x.state == .granted || x.state == .closing
  let kept := x.state != .free
  if w = 0 then
    pack [(3, code), (1, 0), (10, if owned then x.tenant else 0), (2, 0),
      (4, if owned || x.state == .commons then x.rights.toNat else 0), (1, bitN (kept && x.broad)),
      (1, bitN (kept && x.guarded)), (2, if kept then x.tier else 0), (4, if kept then x.stack else 0), (4, 0),
      (32, x.gen.toNat)]
  else if kept then pack [(14, x.lender.toNat), (2, 0), (11, x.lenderParcel)] else 0

/-- A context-table entry (Table 3-1). -/
def Ctx.word (c : Ctx) : Word := pack [(16, c.tag.toNat), (10, c.tenant), (1, bitN c.valid), (1, bitN c.fenced)]

/-- A coherence-port table entry (Table 6-1); entry 0 reads KIND 1. -/
def cportWord (n : Nat) (c : CPort) : Word :=
  pack [(14, c.device.toNat), (2, if n = 0 then 1 else c.kind), (1, bitN c.valid), (1, bitN c.lost)]

/-- A member table entry (Table 7-1); entry 0 is the Golik's own remote-line cache, VALID while ENABLE is set (R188). -/
def State.memberWord (s : State) (n : Nat) : Word :=
  let c := s.member n
  if n = 0 then pack [(14, s.selfId.toNat), (2, 0), (1, bitN s.insetOn), (1, bitN c.lost)]
  else pack [(14, c.device.toNat), (1, c.kind), (1, 0), (1, bitN c.valid), (1, bitN c.lost)]

/-- A routing table entry (Table 10-3). -/
def Route.word (r : Route) : Word :=
  pack [(6, r.ports.getD 0 0), (6, r.ports.getD 1 0), (6, r.ports.getD 2 0), (6, r.ports.getD 3 0), (3, r.count), (1, bitN r.lost)]

/-- A lend table entry (R414). -/
def State.lendWord (s : State) (p : Nat) : Word := match mfind s.lends p with
  | some d => pack [(14, d.toNat), (1, 1)]
  | none => 0

/-- A borrow-list entry (R415). -/
def Borrow.word (b : Borrow) : Word :=
  pack [(14, b.lender.toNat), (11, b.parcel), (1, bitN b.valid), (6, 0), (32, b.used.toNat)]

/-- A relocation entry (Table 16-1). -/
def Reloc.word (e : Reloc) : Word :=
  pack [(2, e.place), (2, e.phase), (14, e.device.toNat), (11, e.parcel), (5, e.piece), (2, e.toPlace)]

/-- The four words of a table registry entry (Table 14-1). -/
def Table.words (x : Table) : List Word :=
  [pack [(2, x.state), (1, bitN x.replica), (1, bitN x.sparse), (4, x.fmt), (8, (x.scale % 256).toNat), (16, x.ctx.toNat),
     (10, x.tenant), (6, 0), (13, x.dim)],
   pack [(32, x.rows), (32, x.upd.length)],
   BitVec.ofNat 64 x.epoch,
   pack [(28, x.bufLines), (3, x.links.length), (1, 0), (4, x.snaps.length)]]

/-- The eight words of an index registry entry (Table 15-5). -/
def Index.words (x : Index) : List Word :=
  [pack [(2, x.state), (2, x.metric), (4, x.fmt), (1, bitN x.pq), (5, x.pqM), (2, 0), (16, x.ctx.toNat), (10, x.tenant), (6, 0),
     (13, x.dims)],
   pack [(32, x.nodes), (32, x.nextNode)],
   BitVec.ofNat 64 x.epoch,
   pack [(17, x.annexCount), (15, 0), (17, x.annexMax), (5, x.nentry)],
   pack [(16, x.searches.length)], 0, 0, 0]

/-! ### Telemetry views (Tables 18-3 and 18-5) -/

/-- The selected SEQ is in the ring. -/
def State.eventAt (s : State) (seq : Nat) : Option Event :=
  (mfind s.tele.log (seq % 4096)).filter (fun e => e.seq == seq)

/-- Word i of GL_EVT_ENTRY. -/
def State.eventWord (s : State) (i : Nat) : Word := match s.eventAt (s.reg Reg.GL_EVT_SEL).toNat with
  | some e => BitVec.ofNat 64 (natOfBytes ((e.bytes.drop (8 * i)).take 8))
  | none => 0

/-- The base, stride and size of a block kind of GL_SVY_SEL (Tables 2-8 and 18-3). -/
def surveyBlock : Nat → Option (Nat × Nat × Nat × Nat)
  | 0 => some (0, 0x10_0000, 1, 0x10_0000)
  | 1 => some (0x10_0000, 0x4_0000, 4, 0x4_0000)
  | 2 => some (0x20_0000, 0x1_0000, 12, 0x1_0000)
  | 3 => some (0x30_0000, 0x4000, 48, 0x4000)
  | 4 => some (0x40_0000, 0x1_0000, 104, 0x1_0000)
  | 5 => some (0x100_0000, 0x1_0000, 1024, 0x1_0000)
  | _ => none

/-- Word i of GL_SVY_DATA: the shadow line that GL_SVY_SEL names (R470). -/
def State.surveyWord (s : State) (i : Nat) : Word :=
  let sel := s.reg Reg.GL_SVY_SEL
  let line := field sel 16 13
  let inst := field sel 6 10
  let bank := if field sel 3 1 = 0 then s.tele.bank0 else s.tele.bank1
  match surveyBlock (field sel 0 3) with
  | none => 0
  | some (base, stride, count, size) =>
    if inst < count ∧ 128 * line < size then mget 0 bank (base + stride * inst + 128 * line + 8 * i) else 0

/-! ### Views of basin, jet and tenant blocks -/

/-- Echo records that live on a die (R266): pending, or still inside their 64 µs. -/
def State.echoCount (s : State) (d : Nat) : Nat := (s.echoes.filter (fun e => e.1 / 2 ^ 40 == d)).length

/-- Atlas-store entries in use on a die. -/
def State.tracked (s : State) (d : Nat) : Nat :=
  (s.atlas.filter (fun e => !isInsetKey e.1 && s.dieOfKey e.1 == d && e.2.state != .invalid)).length

/-- Inset entries in use on a die. -/
def State.insetEntries (s : State) (d : Nat) : Nat :=
  (s.atlas.filter (fun e => isInsetKey e.1 && s.dieOfKey e.1 == d && e.2.state != .invalid)).length

/-- Seal stores of a source that wait. -/
def State.sealsOf (s : State) (src : Nat) : Nat :=
  s.txns.foldl (fun a e => a + (e.2.filter (fun t => s.sealWaits t && t.sourceIs src)).length) 0

/-- GL_ORDER_VIEW: the record GL_ORDER_SEL names. -/
def State.orderView (s : State) : Word :=
  let sel := s.reg Reg.GL_ORDER_SEL
  let k := if field sel 14 1 = 1 then 16384 else field sel 0 14
  let r := s.order k
  pack [(24, r.ot.toNat), (9, popCount r.retired), (9, min (s.sealsOf k) 256)]

/-- The code of a task state (Table 13-12). -/
def TState.code : TState → Nat
  | .free => 0 | .ready => 1 | .running => 2 | .parked => 3

/-- Word 0 of a task record (Table 13-13). -/
def Task.word0 (t : Task) : Word :=
  if t.state = .free then 0
  else pack [(2, t.state.code), (4, t.cause), (10, t.tenant), (16, t.ctx.toNat), (6, t.qp), (16, t.desc), (7, t.pages)]

/-- The margin offset of record s of jet j (R361, Table 2-6). -/
def recordOffset (j s : Nat) : Nat := 0x06_8000_0000 + 4718592 * (17 * j + s)

/-- Bytes of a sparse register file, n registers of w bytes each. -/
def regBytes (w n : Nat) (get : Nat → Nat) : List Byte := (List.range n).flatMap (fun i => bytesOfNat w (get i))

/-- A parked task's record as it lies in the margin: offset and bytes of each part that is not zero (Table 13-13). The tasks of State are
the records; no agent addresses the margin. xlate is the virtual address awaited. -/
def Task.recordBytes (t : Task) (xlate : Nat) : List (Nat × List Byte) :=
  let g := t.regs
  [ (0, bytesOfNat 8 t.word0.toNat ++ bytesOfNat 8 t.legVa
      ++ bytesOfNat 8 (packNat [(16, if t.inLeg then t.resume else 0xFFFF), (8, t.resumeAccess), (4, t.step)])
      ++ bytesOfNat 8 xlate ++ bytesOfNat 8 t.gauge ++ bytesOfNat 8 t.deadline ++ bytesOfNat 8 t.threshold.toNat
      ++ bytesOfNat 8 t.readyAt ++ bytesOfNat 8 g.dirty.toNat),
    (0x100, regBytes 8 32 (fun i => (g.getX i).toNat)), (0x200, regBytes 64 8 (fun i => (g.getVm i).toNat)),
    (0x400, regBytes 16 8 (fun i => (g.getMs i).toNat)),
    (0x480, (List.range 4).flatMap (fun i =>
      let c := mget {} g.lc i
      bytesOfNat 8 c.count.toNat ++ bytesOfNat 4 c.first ++ bytesOfNat 4 c.last)),
    (0x4C0, bytesOfNat 4 g.fc.toNat ++ bytesOfNat 4 g.fpflags.toNat), (0x1000, regBytes 256 32 (fun i => (g.getV i).toNat)),
    (0x3000, regBytes 32 64 (fun i => (g.getAc i).saved)), (0x3800, regBytes 4 4096 (fun i => (g.getPq i).toNat)),
    (0x8_0000, g.bowlBytes 0 (65536 * t.pages)) ]

/-- Queue pairs of a slot for which a test of TN_QP_CTRL holds, one bit each. -/
def State.qpBits (s : State) (t : Nat) (p : Word → Bool) : Word :=
  BitVec.ofNat 64 ((List.range 64).foldl (fun a q => if p (s.reg (Reg.TN_QP_CTRL t q)) then a + 2 ^ q else a) 0)

/-- What the register at an offset of the register window reads. -/
def State.peek (s : State) (off : Nat) : Word :=
  if off < 0x10_0000 then
    if off = Reg.GL_BENCH then BitVec.ofNat 64 s.edges
    else if off = Reg.GL_EVT_HEAD then BitVec.ofNat 64 s.tele.head
    else if off = Reg.GL_EVT_STATE then (if (s.eventAt (s.reg Reg.GL_EVT_SEL).toNat).isSome then 1 else 0)
    else if 0x3180 ≤ off ∧ off < 0x3280 then s.eventWord ((off - 0x3180) / 8)
    else if 0x3080 ≤ off ∧ off < 0x3100 then s.surveyWord ((off - 0x3080) / 8)
    else if off = Reg.GL_SEC_ATTEST then withField (s.reg off) 0 4 s.attestView
    else if off = Reg.GL_ORDER_VIEW then s.orderView
    else if off = Reg.GL_RELOC_VIEW then
      (s.reloc (s.rf Reg.GL_RELOC_SEL 0 11) (s.rf Reg.GL_RELOC_SEL 11 5)).word
    else if 0x1_0000 ≤ off ∧ off < 0x3_0000 then (s.route ((off - 0x1_0000) / 8)).word
    else if 0x4_0000 ≤ off ∧ off < 0x4_2000 then (s.ctxEntry ((off - 0x4_0000) / 8)).word
    else if 0x4_2000 ≤ off ∧ off < 0x4_4000 then cportWord ((off - 0x4_2000) / 8) (s.cport ((off - 0x4_2000) / 8))
    else if 0x4_4000 ≤ off ∧ off < 0x4_6000 then s.memberWord ((off - 0x4_4000) / 8)
    else if 0x4_6000 ≤ off ∧ off < 0x4_A000 then s.lendWord ((off - 0x4_6000) / 8)
    else if 0x4_A000 ≤ off ∧ off < 0x4_A800 then (s.borrowAt ((off - 0x4_A000) / 8)).word
    else if 0x6_0000 ≤ off ∧ off < 0x8_0000 then
      (mget {} s.tables ((off - 0x6_0000) / 32)).words.getD ((off - 0x6_0000) % 32 / 8) 0
    else if 0x8_0000 ≤ off ∧ off < 0x8_8000 then s.parcelWord ((off - 0x8_0000) / 16) ((off - 0x8_0000) % 16 / 8)
    else if 0xA_0000 ≤ off ∧ off < 0xB_0000 then
      (mget {} s.indexes ((off - 0xA_0000) / 64)).words.getD ((off - 0xA_0000) % 64 / 8) 0
    else s.reg off
  else if off < 0x20_0000 then
    let d := (off - 0x10_0000) / 0x4_0000
    if off = Reg.BS_ATLAS_TRACKED d then BitVec.ofNat 64 (s.tracked d)
    else if off = Reg.BS_INSET_ENTRIES d then BitVec.ofNat 64 (s.insetEntries d)
    else if off = Reg.BS_ECHO_LIVE d then pack [(23, s.echoCount d), (24, s.echoCount d - 16384)]
    else s.reg off
  else if 0x40_0000 ≤ off ∧ off < 0xA8_0000 then
    let j := (off - 0x40_0000) / 0x1_0000
    if off = Reg.JT_TASK_VIEW j then (s.task j (s.rf (Reg.JT_TASK_SEL j) 0 5)).word0
    else if off = Reg.JT_TASK_LEG j then BitVec.ofNat 64 (s.task j (s.rf (Reg.JT_TASK_SEL j) 0 5)).legVa
    else s.reg off
  else if 0x100_0000 ≤ off ∧ off < 0x500_0000 then
    let t := (off - 0x100_0000) / 0x1_0000
    if off = Reg.TN_STATUS t then s.tnStatus t
    else if off = Reg.TN_QP_STOPPED t then s.qpBits t (fun w => decide (3 ≤ field w 1 3))
    else if off = Reg.TN_QP_CQFULL t then s.qpBits t (fun w => field w 12 1 == 1)
    else if off = Reg.TN_HOLD t then withField (s.reg off) 0 32 ((s.holdsOf t).filter (fun e => e.2.holds)).length
    else s.reg off
  else s.reg off

end Sys2Proof.Machine
end

