-- ==== Sys2Proof/Machine/Telemetry.lean ====
section
/-!
DEFINITION. Surveys (chapter 18): which registers hold a counter, scheduling, announcing, capturing and completing a survey.
-/

namespace Sys2Proof.Machine

/-! ### Counters (R463, Table 18-1) -/

/-- Offsets of the global registers that hold a counter. -/
def globalCounters : List Nat :=
  [0x2010, 0x2108, 0x2210, 0x2320, 0x2508, 0x2608, 0x2810, 0x2908, 0x2A08, 0x2B10, 0x2B18, 0x2B20, 0x2C10, 0x2D18, 0x2E10, 0x2F08,
   0x2FC8, 0x2FE0, 0x3010, 0x3410, 0x3510, 0x3520]

/-- Offsets within a basin block of the registers that hold a counter. -/
def basinCounters : List Nat :=
  [0x1008, 0x1018, 0x3000, 0x4000, 0x4008, 0x4010, 0x4018, 0x4030, 0x4038, 0x4048, 0x4050, 0x4058, 0x4100, 0x4108, 0x4110, 0x4118,
   0x4128, 0x4200, 0x4208, 0x4210, 0x4218, 0x4300, 0x4308, 0x4310, 0x4410, 0x4418, 0x4420, 0x4500]

/-- Offsets within a port block of the registers that hold a counter, PT_LANE_FEC and PT_SLU_AGED apart. -/
def portCounters : List Nat := [0x10, 0x18, 0x20, 0x28, 0x30, 0x80, 0x88, 0x1008, 0x1040, 0x1048]

/-- Offsets within a tenant block of the registers that hold a counter, Table 12-8 and later apart. -/
def tenantCounters : List Nat := [0x1008, 0x1018, 0x3010]

/-- The register at an offset of the register window holds a counter. -/
def isCounter (off : Nat) : Bool :=
  if off < 0x10_0000 then globalCounters.contains off
  else if off < 0x20_0000 then basinCounters.contains ((off - 0x10_0000) % 0x4_0000)
  else if off < 0x2C_0000 then
    let o := (off - 0x20_0000) % 0x1_0000
    (decide (0x300 ≤ o) && decide (o < 0x500) && decide (o % 32 < 24)) || (decide (0x500 ≤ o) && decide (o < 0x700))
  else if 0x30_0000 ≤ off ∧ off < 0x3C_0000 then
    let o := (off - 0x30_0000) % 0x4000
    portCounters.contains o || (decide (0x100 ≤ o) && decide (o < 0x148)) || (decide (0x1010 ≤ o) && decide (o < 0x1040))
  else if 0x40_0000 ≤ off ∧ off < 0xA8_0000 then [0x20, 0x28, 0x30, 0x48].contains ((off - 0x40_0000) % 0x1_0000)
  else if 0x100_0000 ≤ off ∧ off < 0x500_0000 then
    let o := (off - 0x100_0000) % 0x1_0000
    tenantCounters.contains o || (decide (0x4000 ≤ o) && decide (o ≤ 0x4080))
  else false

/-- The copy of every register that holds a counter, where it is not zero (R466). -/
def State.counters (s : State) : List (Nat × Word) :=
  let slots := (s.custody.map (fun e => e.1 / 2 ^ 64)).eraseDups
  let offs := (s.regs.map (·.1)).filter isCounter ++ slots.map Reg.TN_HOLD
  offs.foldl (fun m o => mput 0 m o (s.peek o)) []

/-! ### Scheduling (R467) -/

/-- A survey is pending. -/
def State.surveyPending (s : State) : Bool := s.tele.survey.isSome

/-- A survey scheduled for an edge: it takes the next number, and PENDING reads 1. -/
def State.schedule (s : State) (edge : Nat) : State :=
  let n := s.tele.surveys + 1
  let s : State := { s with tele := { s.tele with survey := some { edge := edge, number := n }, surveys := n } }
  ((s.setRf Reg.GL_SVY_STATUS 0 1 1).setReg Reg.GL_SVY_NEXT (BitVec.ofNat 64 edge)).setRf Reg.GL_SVY_STATUS 4 4 0

/-- A survey command: discarded and counted while a survey is pending. -/
def State.surveyCommand (s : State) (run : State → State) : State :=
  if s.surveyPending then s.bump Reg.GL_SVY_DROPS 0 32 1 else run s

/-- NOW. -/
def State.surveyNow (s : State) : State := s.surveyCommand (fun s => s.schedule (s.edges + 64))

/-- AT an edge, LATE where it is too near. -/
def State.surveyAt (s : State) (edge : Nat) : State :=
  s.surveyCommand (fun s => if edge < s.edges + 64 then s.setRf Reg.GL_SVY_STATUS 4 4 1 else s.schedule edge)

/-- A write of GL_SVY_CMD. -/
def State.svyCommand (s : State) (w : Word) : State := match field w 0 2 with
  | 0 => s
  | 1 => s.surveyNow
  | 2 => s.surveyAt (s.reg Reg.GL_SVY_AT).toNat
  | _ => s.surveyCommand (fun s => s.setRf Reg.GL_SVY_STATUS 4 4 2)

/-- The next periodic edge that can still be announced: the first multiple of the period after the last one and at least 64
edges away. -/
def State.periodEdge (s : State) (period : Nat) : Nat :=
  (max (s.edges + 64) (s.tele.periodAt + 1) + period - 1) / period * period

/-- SURVEY_PERIOD_EDGE: a periodic edge is 64 edges away; it is skipped while a survey is pending. -/
def State.surveyPeriod (s : State) : State :=
  let period := s.gzv 0x7010 0x02
  if s.alive && decide (0 < period) then
    let e := s.periodEdge period
    let s := s.atLeast (s.timeOfEdge (e - 64))
    let s : State := { s with tele := { s.tele with periodAt := e } }
    if s.surveyPending then s else s.schedule e
  else s

/-! ### The run of a survey (Table 18-2) -/

/-- SURVEY_ANNOUNCE, at E − 64. -/
def State.surveyAnnounce (s : State) : State := match s.tele.survey with
  | some v =>
    if v.announced then s
    else
      let s := s.atLeast (s.timeOfEdge (v.edge - 64))
      { s with tele := { s.tele with survey := some { v with announced := true } } }
  | none => s

/-- SURVEY_ABANDON, at E − 8: a die has not acknowledged. -/
def State.surveyAbandon (s : State) (die : Nat) : State := match s.tele.survey with
  | some v =>
    if v.announced && !v.captured then
      let s := s.atLeast (s.timeOfEdge (v.edge - 8))
      let s : State := { s with tele := { s.tele with survey := none } }
      (s.setRf Reg.GL_SVY_STATUS 0 1 0).raise 0x7102 fromController [(8, v.number), (8, v.edge), (1, die)]
    else s
  | none => s

/-- NUMBER of the bank of survey n. -/
def bankReg (n : Nat) : Nat := if n % 2 = 0 then Reg.GL_SVY_BANK0 else Reg.GL_SVY_BANK1

/-- EDGE of the bank of survey n. -/
def edgeReg (n : Nat) : Nat := if n % 2 = 0 then Reg.GL_SVY_EDGE0 else Reg.GL_SVY_EDGE1

/-- SURVEY_CAPTURE, at E: every counter copied into bank n mod 2, whose NUMBER reads 0 meanwhile. -/
def State.surveyCapture (s : State) : State := match s.tele.survey with
  | some v =>
    if v.announced && !v.captured then
      let s := s.atLeast (s.timeOfEdge v.edge)
      let c := s.counters
      let s : State := { s with tele := { s.tele with survey := some { v with captured := true } } }
      let s : State := if v.number % 2 = 0 then { s with tele := { s.tele with bank0 := c } }
        else { s with tele := { s.tele with bank1 := c } }
      s.setReg (bankReg v.number) 0
    else s
  | none => s

/-- SURVEY_COMPLETE, at E + 4. -/
def State.surveyComplete (s : State) : State := match s.tele.survey with
  | some v =>
    if v.captured then
      let s := s.atLeast (s.timeOfEdge (v.edge + 4))
      let s : State := { s with tele := { s.tele with survey := none, lastSurvey := v.number } }
      let s := (s.setReg (bankReg v.number) (BitVec.ofNat 64 v.number)).setReg (edgeReg v.number) (BitVec.ofNat 64 v.edge)
      (s.setRf Reg.GL_SVY_STATUS 0 1 0).bump Reg.GL_SVY_STATUS 32 32 1
    else s
  | none => s

end Sys2Proof.Machine
end

