-- ==== Sys2Proof/Machine/Security.lean ====
section
/-!
DEFINITION. The trust block (chapter 20): tamper trips and the alarm level, fuse pulses, erasure, attestation, the fuse-held
values, and the takeover by the standby copy.
-/

namespace Sys2Proof.Machine

/-! ### Fields -/

/-- ZEROIZED: the identity has been erased, or is being erased (R511). -/
def State.zeroized (s : State) : Bool := s.rf Reg.GL_SEC_STATE 3 1 == 1 || s.sec.erasing.isSome

def State.epochOpen (s : State) : Bool := s.rf Reg.GL_SEC_STATE 4 1 == 1
def State.epochsUsed (s : State) : Nat := s.rf Reg.GL_SEC_STATE 5 13
def State.leavesUsed (s : State) : Nat := s.rf Reg.GL_SEC_STATE 18 11
def State.svnMin (s : State) : Nat := s.rf Reg.GL_SEC_STATE 29 6
def State.policy (s : State) : Nat := s.rf Reg.GL_SEC_STATE 35 2

/-! ### Fuse pulses (R493, R502, R504, R511, R512) -/

/-- Bank B2 first, then B0 where it is readable. -/
def State.bothBanks (s : State) (p : Bool → List Pulse) : List Pulse := p true ++ (if s.sec.b0Readable then p false else [])

/-- The pulses of a try at epoch e. -/
def State.epochPulses (s : State) (e : Nat) : List Pulse := s.bothBanks (fun b => [.epoch b e])

/-- The pulses of an erasure. -/
def State.erasePulses (s : State) : List Pulse :=
  s.bothBanks (fun b => [.zeroized b]) ++ s.bothBanks (fun b => [.seeds b 0, .seeds b 1, .seeds b 2])

def Pulse.isEpoch : Pulse → Bool
  | .epoch _ _ => true
  | _ => false

/-- The pulse that runs, if it is an epoch-fuse pulse. -/
def State.runningEpoch (s : State) : List Pulse := (s.sec.pulses.take 1).filter Pulse.isEpoch

/-- An epoch fuse of the B2 bank is blown. -/
def State.blowEpoch (s : State) (e : Nat) : State := if s.epochsUsed = e then s.bump Reg.GL_SEC_STATE 5 13 1 else s

/-- What a pulse leaves behind. Whether the fuse of an epoch verifies is a free value: a pulse may fail (R502). -/
def State.pulseEffect (s : State) : Pulse → State
  | .epoch true e =>
    let (v, s) := s.fresh
    if v.getLsbD 0 then s else s.blowEpoch e
  | .epoch false e => { s with sec := { s.sec with epochsB0 := (e :: s.sec.epochsB0).eraseDups } }
  | .zeroized true => s.setRf Reg.GL_SEC_STATE 3 1 1
  | .zeroized false => { s with sec := { s.sec with zeroB0 := true } }
  | .seeds b i => { s with sec := { s.sec with seeds := withBit s.sec.seeds (i % 3 + (if b then 0 else 3)) } }

/-- The last pulse of a try at an epoch has ended: verified, tried again, or given up after four tries. -/
def State.epochTried (s : State) : State :=
  let e := s.sec.epoch
  if e < s.epochsUsed then s
  else if 4 ≤ s.sec.tries + 1 then
    let s : State := { s with sec := { s.sec with opening := false } }
    s.setAttest atFuse
  else { s with sec := { s.sec with tries := s.sec.tries + 1, pulses := s.epochPulses e } }

/-- FUSE_PULSE_DONE: the running pulse has ended; the next starts. -/
def State.pulseDone (s : State) : State := match s.sec.pulses with
  | [] => s
  | p :: rest =>
    let s := (s.atLeast (s.now + 100000)).pulseEffect p
    let s : State := { s with sec := { s.sec with pulses := rest } }
    if rest.isEmpty then match s.sec.erasing with
      | some c =>
        let s : State := { s with sec := { s.sec with erasing := none } }
        s.raise 0x9102 fromController [(1, c)]
      | none => if s.sec.opening then s.epochTried else s
    else s

/-- Every pulse waiting or running brought to its end, as a module reset or the hold-up leaves it (R477, R511, R546). -/
def finishPulses : Nat → State → State
  | 0, s => s
  | fuel + 1, s => if s.sec.pulses.isEmpty then s else finishPulses fuel s.pulseDone

/-- An interrupted pulse: an epoch fuse then reads either blown or unblown (R502), and so does any other. -/
def State.interruptPulse (s : State) : State := match s.sec.pulses with
  | [] => s
  | p :: _ =>
    let (v, s) := s.fresh
    if v.getLsbD 0 then s.pulseEffect p else s

/-! ### Power-fail warning (R504) -/

/-- PFW sets: a signature in progress is abandoned, a running epoch-fuse pulse completes, no other epoch pulse starts. -/
def State.trustPfw (s : State) : State :=
  if s.sec.erasing.isSome then s
  else
    let s : State := { s with sec := { s.sec with pulses := s.runningEpoch, opening := false } }
    if s.attest = atBusy then s.setAttest atPower else s

/-! ### Tamper and the alarm (R508, R509) -/

/-- The cause bit of Table 20-6. -/
def Tamper.bit : Tamper → Nat
  | .voltage => 0 | .clock => 1 | .cold => 2 | .mesh => 3 | .debug => 4 | .escalation => 5

/-- The policy covers a level-2 cause (R511). -/
def policyCovers (policy : Nat) (c : Tamper) : Bool :=
  policy == 2 || (policy == 1 && (c == .cold || c == .mesh || c == .debug))

/-- The identity is erased, once: STATUS becomes ZEROIZED at once, the pulses follow (R511, R512). -/
def State.erase (s : State) (c : Tamper) : State :=
  if s.zeroized then s
  else
    let s : State := { s with
      sec := { s.sec with pulses := s.runningEpoch ++ s.erasePulses, opening := false, erasing := some (Tamper.bit c) } }
    (s.setAttest atZeroized).setRf Reg.GL_SEC_STATE 4 1 0

/-- The alarm level raised to at least a level by a cause (Table 20-7). -/
def State.raiseAlarm (s : State) (level : Nat) (c : Tamper) : State :=
  if s.alarm < level then
    let s := s.setRf Reg.GL_SEC_STATE 0 2 level
    let payload := [(1, level), (1, Tamper.bit c)]
    if level = 2 then s.raiseCause 0x9101 fromController payload .security else s.raise 0x9101 fromController payload
  else s

/-- A cause latches and acts at its level. -/
def State.latchCause (s : State) (c : Tamper) (level : Nat) : State :=
  let s := (s.setRf Reg.GL_SEC_CAUSES (Tamper.bit c) 1 1).raiseAlarm level c
  if level = 2 ∧ policyCovers s.policy c then s.erase c else s

/-- The trip of a sensor counted in GL_SEC_TRIPS. -/
def State.countTrip (s : State) : Tamper → State
  | .voltage => s.bump Reg.GL_SEC_TRIPS 0 16 1
  | .clock => s.bump Reg.GL_SEC_TRIPS 16 16 1
  | .debug => s.bump Reg.GL_SEC_TRIPS 32 16 1
  | _ => s

/-- The level of a trip once it is counted: the third DEBUG trip and every later one gives level 2. -/
def State.tripLevel (s : State) : Tamper → Nat
  | .voltage | .clock => 1
  | .debug => if s.rf Reg.GL_SEC_TRIPS 32 16 ≤ 2 ∧ s.rf Reg.GL_SEC_TRIPS 32 16 ≠ 0 then 1 else 2
  | _ => 2

/-- TAMPER_TRIP. -/
def State.tamper (s : State) (c : Tamper) : State :=
  if s.power.running && s.boot.powered then
    let s := s.countTrip c
    let level := s.tripLevel c
    let s := if level = 1 then s.bump Reg.GL_SEC_TRIPS 48 16 1 else s
    let s := s.latchCause c level
    if level = 1 ∧ s.gzv 0x9010 0x02 ≤ s.rf Reg.GL_SEC_TRIPS 48 16 ∧ s.rf Reg.GL_SEC_CAUSES 5 1 = 0 then
      s.latchCause .escalation 2
    else s
  else s

/-! ### Attestation (R502 to R506) -/

/-- An epoch begins to open, or cannot. -/
def State.openEpoch (s : State) : State :=
  let e := s.epochsUsed
  if 4096 ≤ e then s.setAttest atNoEpoch
  else
    let s : State := { s with
      sec := { s.sec with opening := true, tries := 0, epoch := e, pulses := s.sec.pulses ++ s.epochPulses e } }
    s.setAttest atBusy

/-- A challenge taken: signing begins, in the open epoch or in one to be opened. -/
def State.acceptChallenge (s : State) (nonce : List Byte) : State :=
  let s : State := { s with sec := { s.sec with lastChallenge := some s.now, evidence := [], nonce := nonce } }
  if s.epochOpen then
    if 1024 ≤ s.leavesUsed then s.setAttest atLeaves
    else (s.bump Reg.GL_SEC_STATE 18 11 1).setAttest atBusy
  else s.openEpoch

/-- A challenge came before the interval of G:0x9030.06 had passed. -/
def State.tooSoon (s : State) : Bool := match s.sec.lastChallenge with
  | some t => decide (s.now < t + 1000000 * s.gzv 0x9030 0x06)
  | none => false

/-- A nonce written to G:0x9030.01. -/
def State.challenge (s : State) (nonce : List Byte) : State :=
  if s.attest = atBusy then s.bump Reg.GL_SEC_ATTEST 32 32 1
  else if s.zeroized then s.setAttest atZeroized
  else if s.pfw then s.setAttest atPower
  else if s.tooSoon then s.setAttest atRate
  else s.acceptChallenge nonce

/-- Bytes 0 to 127 of the evidence (Table 20-4). -/
def State.evidenceHead (s : State) : List Byte :=
  let bs := bytesOfNat 4 1 ++ bytesOfNat 4 s.sec.epoch ++ (s.sec.nonce ++ List.replicate 32 0).take 32
    ++ ((mget [] s.blobs (gzKey 0x1000 0x08)) ++ List.replicate 32 0).take 32 ++ bytesOfNat 4 (s.gzv 0x1000 0x05)
    ++ bytesOfNat 4 s.svnMin ++ (List.range 12).map Config.serialByte ++ bytesOfNat 2 s.devId16
    ++ bytesOfNat 1 s.mode.code ++ bytesOfNat 1 s.alarm ++ bytesOfNat 2 (s.rf Reg.GL_REPLACE 0 16)
    ++ bytesOfNat 1 (s.rf Reg.GL_SEC_CAUSES 0 6) ++ bytesOfNat 1 (s.rf Reg.GL_SEC_STATE 2 1) ++ bytesOfNat 8 s.edges
  bs ++ List.replicate 20 0

/-- The epoch under way is open (R502). -/
def State.epochOpened (s : State) : State :=
  let left := 4096 - s.epochsUsed
  let s : State := { s with sec := { s.sec with opening := false } }
  let s := (s.setRf Reg.GL_SEC_STATE 4 1 1).setRf Reg.GL_SEC_STATE 18 11 1
  let s := s.raise 0x9104 fromController [(2, s.sec.epoch), (2, left)]
  if left < 256 then s.raise 0x9105 fromController [(2, left)] else s

/-- EVIDENCE_READY: the epoch being opened, if one is, is open, and the evidence is signed (R505). -/
def State.evidenceReady (s : State) (signature : List Byte) : State :=
  if s.alive && s.attest == atBusy && s.sec.pulses.isEmpty then
    let s := if s.sec.opening then s.epochOpened else s
    let s : State := { s with
      sec := { s.sec with evidence := s.evidenceHead ++ (signature ++ List.replicate 5396 0).take 5396 } }
    (s.setAttest atReady).raise 0x9109 fromController [(2, s.sec.epoch), (2, s.leavesUsed - 1)]
  else s

/-! ### Fuse-held values (R499, R511); the answers are those of Table 17-7: none where the value is out of range -/

/-- SVN_COMMIT. -/
def State.svnCommit (s : State) (v : Nat) : Option State :=
  if s.boot.accepted ∧ v = s.boot.svn ∧ s.svnMin < v then
    some (if s.pfw then s else (s.setRf Reg.GL_SEC_STATE 29 6 v).raise 0x9106 fromController [(1, v)])
  else none

/-- KEY_SLOT_REVOKE. -/
def State.slotRevoke (s : State) (k : Nat) : Option State :=
  let programmed := s.rf Reg.GL_SEC_SLOTS 0 4
  let revoked := s.rf Reg.GL_SEC_SLOTS 4 4
  let left := (List.range 4).any (fun i => programmed.testBit i && !revoked.testBit i && i != k)
  if k ≤ 3 ∧ (k ≠ s.rf Reg.GL_SEC_SLOTS 8 2 ∨ !s.boot.accepted) ∧ left then
    some (if s.pfw then s else (s.setRf Reg.GL_SEC_SLOTS (4 + k) 1 1).raise 0x9107 fromController [(1, k)])
  else none

/-- POLICY_WRITE. -/
def State.policyWrite (s : State) (v : Nat) : Option State :=
  if v ≤ 2 ∧ s.policy ≤ v then some (if s.pfw then s else s.setRf Reg.GL_SEC_STATE 35 2 v) else none

/-! ### Takeover (R23, R494, R522) -/

/-- Boot fails, or no controller is left (R521): event 0x1113, and HALTED. -/
def State.bootFails (s : State) (cause which : Nat) : State := (s.raise 0x1113 fromController [(1, cause), (1, which)]).halt

/-- What goes with the copy that failed: its SRAM. -/
def State.loseCopy (s : State) : State :=
  let s := if s.sec.erasing.isSome then s
    else
      let s := s.interruptPulse
      { s with sec := { s.sec with pulses := [], opening := false } }
  let s := (s.setRf Reg.GL_SEC_STATE 4 1 0).setRf Reg.GL_SEC_STATE 18 11 0
  let s := if s.attest = atBusy then s.setAttest atIdle else s
  let s : State := { s with
    boot := { s.boot with buffer := 0, owner := .none, image := [], accepted := false, held := [] }
    mgmt := { s.mgmt with transfers := [], kept := [] } }
  if s.mode = .boot ∧ s.rf Reg.GL_MODE_STATUS 12 4 = 2 then s.setRf Reg.GL_MODE_STATUS 12 4 1 else s

/-- The running copy is declared failed: cause 0 SELFTEST, 1 WATCHDOG. B0's copy hands over to B2's; where B2's fails, none is
left and the Golik is silent on the buses (R521). -/
def State.takeover (s : State) (cause : Nat) : State :=
  if s.boot.copies.getLsbD 0 then
    let s : State := { s with boot := { s.boot with copies := withoutBit s.boot.copies 0 } }
    (s.loseCopy.setRf Reg.GL_SEC_STATE 2 1 1).raiseCause 0x9108 fromController [(1, cause)] .takeover
  else if s.boot.copies.getLsbD 1 then
    let s : State := { s with boot := { s.boot with copies := 0 } }
    s.bootFails 2 0xFF
  else s

end Sys2Proof.Machine
end

