-- ==== Sys2Proof/Machine/Power.lean ====
section
/-!
DEFINITION. Power, clocks and thermal limits (chapter 19), power-on, power-off and the module reset, and the sideband outputs
(R542, R544, R546 to R548). Voltages are in units of 10 mV, as VIN of GL_PWR_STATE.
-/

namespace Sys2Proof.Machine

/-! ### Sideband outputs (R544): true is released -/

/-- MOD_PG: released while every rail is in regulation. -/
def State.modPg (s : State) : Bool := s.power.running

/-- An open-drain output: released while MOD_PG is asserted, else asserted by its condition. -/
def State.output (s : State) (asserted : Bool) : Bool := !s.modPg || !asserted

def State.pfailN (s : State) : Bool := s.output s.pfw
def State.replaceN (s : State) : Bool := s.output (s.rf Reg.GL_REPLACE 16 1 == 1)
def State.alert1N (s : State) : Bool := s.output (decide (1 ≤ s.alarm))
def State.alert2N (s : State) : Bool := s.output (s.alarm == 2)

/-! ### Power-off and power-on (R445, R475 to R477, R545) -/

/-- The words that keep only the fields held in fuses. -/
def State.fuseRegs (s : State) : List (Nat × Word) :=
  let st := pack [(3, 0), (1, s.rf Reg.GL_SEC_STATE 3 1), (1, 0), (13, s.epochsUsed), (11, 0), (6, s.svnMin), (2, s.policy)]
  let sl := pack [(4, s.rf Reg.GL_SEC_SLOTS 0 4), (4, s.rf Reg.GL_SEC_SLOTS 4 4)]
  mput 0 (mput 0 [] Reg.GL_SEC_STATE st) Reg.GL_SEC_SLOTS sl

/-- What the fuse banks hold, in the trust block's own fields. -/
def Sec.fuses (x : Sec) : Sec := { b0Readable := x.b0Readable, zeroB0 := x.zeroB0, epochsB0 := x.epochsB0, seeds := x.seeds }

/-- What the stacks keep without power: the repair records of their fuse maps (R135). -/
def State.fuseMaps (s : State) : List (Nat × Stack) :=
  (s.stackTable.filter (fun e => e.2.records != [])).map (fun e => (e.1, { records := e.2.records }))

/-- The rails fall: everything but the fuses is lost. After the hold-up every fuse pulse has ended; otherwise one that runs
is interrupted (R477, R502, R511). -/
def State.powerOff (s : State) (heldUp overvoltage : Bool) : State :=
  let s := if heldUp then finishPulses 16 s else s.interruptPulse
  { State.reset with
    now := s.now, free := s.free, pending := s.pending, wire := s.wire, regs := s.fuseRegs, sec := s.sec.fuses, stackTable := s.fuseMaps
    power := { running := false, overvoltage := overvoltage }
    boot := { powered := false }
    mgmt := { address := s.mgmt.address } }

/-- INPUT_RISE: above the turn-on threshold the rails come up; above the overvoltage threshold they do not. -/
def State.inputRise (s : State) (vin : Nat) : State :=
  if s.power.running ∨ s.power.overvoltage ∨ vin ≤ 4550 then s
  else if 6400 < vin then { s with power := { s.power with overvoltage := true } }
  else { s with power := { s.power with running := true } }

/-- The straps of a power-on and what its fuse banks read, over what the model has itself blown: a fuse never heals. -/
def State.withFuses (s : State) (f : FuseRead) (straps : Straps) : State :=
  let s := s.setRf Reg.GL_SEC_STATE 3 1 (max (s.rf Reg.GL_SEC_STATE 3 1) (bitN f.zeroized))
  let s := s.setRf Reg.GL_SEC_STATE 5 13 (min 4096 (max s.epochsUsed f.epochsUsed.toNat))
  let s := s.setRf Reg.GL_SEC_STATE 29 6 (max s.svnMin f.svnMin.toNat)
  let s := s.setRf Reg.GL_SEC_STATE 35 2 (min 2 (max s.policy f.policy.toNat))
  let s := s.setRf Reg.GL_SEC_SLOTS 0 4 (s.rf Reg.GL_SEC_SLOTS 0 4 ||| f.slotsProgrammed.toNat)
  let s := s.setRf Reg.GL_SEC_SLOTS 4 4 (s.rf Reg.GL_SEC_SLOTS 4 4 ||| f.slotsRevoked.toNat)
  { s with sec := { s.sec with b0Readable := f.b0Readable }, mgmt := { s.mgmt with address := straps.busAddress } }

/-- POWER_ON_RESET_RELEASE: the machine of State.reset, with what the fuses and straps read. -/
def State.powerOn (s : State) (f : FuseRead) (straps : Straps) : State :=
  if s.power.running && !s.boot.powered then
    let z : State := { State.reset with
      free := s.free, pending := s.pending, wire := s.wire, regs := s.fuseRegs, sec := s.sec.fuses, stackTable := s.fuseMaps }
    z.withFuses f straps
  else s

/-- INPUT_BELOW_WARNING (R477, R504). -/
def State.inputWarning (s : State) (vin : Nat) : State :=
  if s.alive && !s.pfw && decide (vin < 4600) then
    ((s.setRf Reg.GL_PWR_STATE 32 16 vin).setRf Reg.GL_PWR_STATE 5 1 1).trustPfw.raise 0x8103 fromController [(2, vin)]
  else s

/-- INPUT_RECOVERED (R477). -/
def State.inputRecovered (s : State) (vin : Nat) : State :=
  if s.alive && s.pfw && decide (4600 < vin) then
    ((s.setRf Reg.GL_PWR_STATE 32 16 vin).setRf Reg.GL_PWR_STATE 5 1 0).raise 0x8104 fromController [(2, vin)]
  else s

/-- INPUT_BELOW_TURN_OFF: the stage stops once the hold-up has run, or at once below 40 V (Table 19-1). -/
def State.inputTurnOff (s : State) (vin : Nat) : State :=
  if s.power.running && decide (vin < 4450) then
    if vin < 4000 then s.powerOff false s.power.overvoltage
    else (s.atLeast (s.now + 1000000)).powerOff true s.power.overvoltage
  else s

/-- OVERVOLTAGE_SHUTDOWN, from 62 V. -/
def State.overvoltage (s : State) (vin : Nat) : State := if vin < 6200 then s else s.powerOff false true

/-- OVERVOLTAGE_RECOVERY: below 60 V the stage may start again; it does above the turn-on threshold. -/
def State.overvoltageOver (s : State) (vin : Nat) : State :=
  if s.power.overvoltage && decide (vin < 6000) then
    { s with power := { s.power with overvoltage := false, running := decide (4550 < vin) } }
  else s

/-! ### The module reset (R546) -/

/-- MOD_RST_ASSERT: fuse pulses complete first, then every die is held in reset. -/
def State.resetAssert (s : State) : State :=
  if s.alive then
    let s := finishPulses 16 s
    { s with boot := { s.boot with inReset := true } }
  else s

/-- Register words a module reset keeps: fuses, alarm state, replacement causes, the power stage's. -/
def State.keptRegs (s : State) : List (Nat × Word) :=
  let st := pack [(3, s.rf Reg.GL_SEC_STATE 0 3)]
  let pw := pack [(3, if s.power.forced then 5 else 0), (1, bitN s.power.forced), (1, 0), (1, s.rf Reg.GL_PWR_STATE 5 1),
    (1, s.rf Reg.GL_PWR_STATE 6 1), (9, 0), (16, s.rf Reg.GL_PWR_STATE 16 16), (16, s.rf Reg.GL_PWR_STATE 32 16)]
  let m := mput 0 s.fuseRegs Reg.GL_SEC_STATE (mget 0 s.fuseRegs Reg.GL_SEC_STATE ||| st)
  let m := mput 0 (mput 0 m Reg.GL_SEC_CAUSES (s.reg Reg.GL_SEC_CAUSES)) Reg.GL_SEC_TRIPS (s.reg Reg.GL_SEC_TRIPS)
  mput 0 (mput 0 m Reg.GL_REPLACE (s.reg Reg.GL_REPLACE)) Reg.GL_PWR_STATE pw

/-- MOD_RST_RELEASE: 1 ms after the pin rises the Golik is at step 2 of start-up, its bench count at zero. -/
def State.resetRelease (s : State) : State :=
  if s.boot.inReset then
    let t := s.now + 1000000
    { State.reset with
      now := t, benchBase := t, free := s.free, pending := s.pending, wire := s.wire, regs := s.keptRegs, sec := s.sec.fuses
      stackTable := s.fuseMaps
      power := { running := s.power.running, overvoltage := s.power.overvoltage, samples := s.power.samples,
                 measuredAt := s.power.measuredAt, forced := s.power.forced }
      boot := { powered := true, copies := s.boot.copies, jtag := s.boot.jtag }
      mgmt := { address := s.mgmt.address } }
  else s

/-! ### Test access (R547, R548) -/

/-- An instruction the test access port executes. -/
def jtagKnown (v : Byte) : Bool := v == 0xFF || v == 0x01 || v == 0x02 || v == 0x00

/-- JTAG_INSTRUCTION_LOAD. -/
def State.jtagLoad (s : State) (v : Byte) : State :=
  if s.power.running && s.boot.powered then
    let s : State := { s with boot := { s.boot with jtag := v } }
    if jtagKnown v then s else s.tamper .debug
  else s

/-- TRST_N_ASSERT: Test-Logic-Reset, in which the instruction is IDCODE. -/
def State.trst (s : State) : State := { s with boot := { s.boot with jtag := 0x01 } }

/-- IDCODE (R547). -/
def idcode : BitVec 32 := 0x111529CB

/-- EXTEST drives the pins (R548). -/
def State.pinsDriven (s : State) : Bool :=
  s.boot.jtag == 0x00 && s.power.running && (s.boot.inReset || (s.mode == .boot && !s.boot.accepted))

/-! ### The power cap (R485, R486) -/

/-- The throttle level in force. -/
def State.setLevel (s : State) : State :=
  let was := s.rf Reg.GL_PWR_STATE 0 3
  let l := if s.power.forced then 5 else s.power.capLevel
  let s := (s.setRf Reg.GL_PWR_STATE 0 3 l).setRf Reg.GL_PWR_STATE 3 1 (bitN (l ≠ 0))
  if l = was then s else s.raise 0x8101 fromController [(1, l), (2, s.rf Reg.GL_PWR_STATE 16 16)]

/-- The mean of the last n readings, of those there are. -/
def meanOf (l : List Nat) (n : Nat) : Nat :=
  let x := l.take n
  if x.isEmpty then 0 else (x.foldl (· + ·) 0) / x.length

/-- The cap controller's decision on new means. -/
def Power.capStep (x : Power) (now mean peak cap : Nat) : Power :=
  let low := decide (mean + 50 < cap)
  let x := { x with lowSince := if low then some (x.lowSince.getD now) else none }
  let mayRise := match x.lastRise with
    | some t => Nat.ble (t + 100000) now
    | none => true
  let lowLong := match x.lowSince with
    | some t => Nat.ble (t + 1000000) now
    | none => false
  if 3200 < peak then { x with capLevel := 5, lastRise := some now }
  else if cap < mean then (if mayRise then { x with capLevel := min 5 (x.capLevel + 1), lastRise := some now } else x)
  else if lowLong then { x with capLevel := x.capLevel - 1, lowSince := some now }
  else x

/-- POWER_MEASURE: one reading, each 10 µs. -/
def State.powerMeasure (s : State) (watts vin : Nat) : State :=
  if s.alive then
    let s := s.atLeast (s.power.measuredAt + 10000)
    let s := if s.rf Reg.GL_PWR_STATE 0 3 = 0 then s else s.bump Reg.GL_PWR_THROTTLED 0 64 1
    let l := (watts :: s.power.samples).take 100
    let mean := meanOf l 100
    let peak := meanOf l 10
    let s := ((s.setRf Reg.GL_PWR_STATE 16 16 mean).setRf Reg.GL_PWR_STATE 32 16 vin).raiseTo Reg.GL_PWR_PEAK 0 16 peak
    let x := { s.power with samples := l, measuredAt := s.now }
    let s : State := { s with power := x.capStep s.now mean peak (s.gzv 0x8010 0x01) }
    s.setLevel
  else s

/-- The name of a stage fault's place in Table 19-7. -/
def StageFault.code : StageFault → Nat
  | .phase => 0 | .rail => 1 | .current => 2

/-- POWER_STAGE_FAULT (R478). -/
def State.stageFault (s : State) (cause phasesLeft : Nat) (inRegulation : Bool) : State :=
  if s.alive then
    if inRegulation then
      let s : State := { s with power := { s.power with forced := true } }
      ((s.setRf Reg.GL_PWR_STATE 6 1 1).raiseCause 0x8105 fromController [(1, cause), (1, phasesLeft)] .power).setLevel
    else s.powerOff false s.power.overvoltage
  else s

/-! ### Clocks (R484) -/

/-- The place of a clock source in Table 19-7. -/
def ClockSource.code : ClockSource → Nat
  | .reference => 0 | .enginePll => 1 | .tidePll => 2

/-- CLOCK_LOST: a failure of the device; it behaves as HALTED. -/
def State.clockLost (s : State) (die src : Nat) : State :=
  if s.serving then (s.raise 0x8106 fromController [(1, die), (1, src)]).halt else s

/-! ### Temperature (R488 to R491) -/

/-- The larger of two signed readings. -/
def hotter (a b : Byte) : Byte := if a.toInt < b.toInt then b else a

/-- The highest of a list of readings that is not empty. -/
def hottest (l : List Byte) : Byte := l.tail.foldl hotter (l.headD 0)

/-- The temperature of a basin die. -/
def dieTemp (t : Temps) (d : Nat) : Byte := hottest ((t.basin.toList.drop (4 * d)).take 4)

/-- Basin die d holds its jets, or lets them go (R490). -/
def State.jetHold (s : State) (d : Nat) (t : Byte) : State :=
  let limit : Int := s.gzv 0x8030 0x03
  let held := s.power.thermal.getLsbD d
  let change (on : Bool) : State :=
    let m := if on then withBit s.power.thermal d else withoutBit s.power.thermal d
    let s : State := { s with power := { s.power with thermal := m } }
    (s.setRf Reg.GL_PWR_STATE 4 1 (bitN (m ≠ 0))).raise 0x8102 fromController [(1, d), (1, t.toNat), (1, bitN on)]
  if !held && decide (limit ≤ t.toInt) then change true
  else if held && decide (t.toInt ≤ limit - 5) then change false
  else s

/-- What trips: kind and number of the die, and its temperature (R491). -/
def tripOf (t : Temps) : Option (Nat × Nat × Byte) :=
  let first (kind limit : Nat) (l : List Byte) : Option (Nat × Nat × Byte) :=
    (l.findIdx? (fun b => decide ((limit : Int) ≤ b.toInt))).map (fun i => (kind, i, l.getD i 0))
  ((first 0 115 ((List.range 4).map (dieTemp t))).or (first 1 110 t.weir.toList)).or (first 2 95 t.stack.toList)

/-- Every channel in self-refresh, every jet stopped (R491). -/
def State.stopAll (s : State) : State :=
  let s := s.forEach (List.range 192) (fun s c => ((s.setRf (chanCfg c) 7 1 1).setRf (chanCfg c) 8 1 0).setRf (chanCfg c) 9 1 0)
  s.forEach (List.range 104) (fun s j => if s.jetEnabled j then s.setRf (Reg.JT_STATE j) 0 1 0 else s)

/-- SENSOR_READ. -/
def State.sensorRead (s : State) (t : Temps) : State :=
  if s.alive then
    let s := s.atLeast (s.power.sensedAt + 100000)
    let s : State := { s with power := { s.power with sensedAt := s.now } }
    let dies := (List.range 4).map (dieTemp t)
    let s := s.setReg Reg.GL_TEMP (pack [(8, (hottest dies).toNat), (8, (hottest t.weir.toList).toNat), (8, (hottest t.stack.toList).toNat)])
    let s := s.forEach (List.range 12) (fun s k =>
      let x := t.stack.toList.getD k 0
      let s := s.setRf (Reg.ST_TEMP k) 0 8 x.toNat
      s.setRf (Reg.ST_TEMP k) 8 8 (hotter (BitVec.ofNat 8 (s.rf (Reg.ST_TEMP k) 8 8)) x).toNat)
    let s := if (t.basin.toList ++ t.weir.toList ++ t.stack.toList).any (fun b => decide (b.toInt < -25)) then s.tamper .cold else s
    if s.mode = .halted then s
    else
      let s := s.forEach (List.range 12) State.tideCondition
      let s := s.forEach (List.range 4) (fun s d => s.jetHold d (dies.getD d 0))
      match tripOf t with
      | some (kind, n, b) => ((s.raise 0x8107 fromController [(1, kind), (1, n), (1, b.toNat)]).stopAll).halt
      | none => s
  else s

end Sys2Proof.Machine
end

