-- ==== Sys2Proof/Machine/Startup.lean ====
section
/-!
DEFINITION. Start-up, commons and recovery (chapter 21): the power-on sequence, the image buffer and its check, fabric join,
modes and commons; ring bridge failures (R20, R21).
-/

namespace Sys2Proof.Machine

/-- STEP of GL_MODE_STATUS (Table 21-2). -/
def State.step21 (s : State) : Nat := s.rf Reg.GL_MODE_STATUS 12 4
def State.setStep21 (s : State) (x : Nat) : State := s.setRf Reg.GL_MODE_STATUS 12 4 x

/-- Start-up stands at a step. -/
def State.atStep (s : State) (n : Nat) : Bool := s.alive && s.mode == .boot && s.step21 == n

/-! ### Steps 2 to 4 -/

/-- ROM_SELFCHECK: the running copy's group trains and the image is awaited, or the copy hands over (R494, R515). -/
def State.romSelfcheck (s : State) (ok : Bool) : State :=
  if s.alive then
    if !ok then s.takeover 0
    else if s.atStep 0 then (s.setStep21 1).trainThoit
    else s
  else s

/-! ### The image buffer (R312, R498, R518 to R520) -/

/-- The image buffer's states (G:0x1030.02). -/
def ibEmpty : Nat := 0
def ibLoading : Nat := 1
def ibChecking : Nat := 2
def ibAccepted : Nat := 3
def ibRefused : Nat := 4

/-- 16 MiB, the size of the image buffer. -/
def imageMax : Nat := 2 ^ 24

/-- A path may write the buffer: it is free, or the path owns it and loads. -/
def State.imageOpen (s : State) (o : ImageOwner) : Bool :=
  s.boot.buffer == ibEmpty || s.boot.buffer == ibRefused || (s.boot.buffer == ibLoading && s.boot.owner == o)

/-- The path's image begins, or goes on. -/
def State.ownBuffer (s : State) (o : ImageOwner) : State :=
  if s.boot.buffer = ibLoading then s
  else { s with boot := { s.boot with buffer := ibLoading, owner := o, image := [] } }

/-- The buffer empty, as it is after power-on. -/
def State.emptyBuffer (s : State) (state : Nat) : State :=
  { s with boot := { s.boot with buffer := state, owner := .none, image := [], length := 0 } }

/-- IMAGE_STATUS, where the companion delivered the image (R312). -/
def State.imageStatus (s : State) (reason : Nat) : State :=
  { s with thoit := { s.thoit with answers := s.thoit.answers ++ [{ typ := 0xAE, aux := BitVec.ofNat 64 reason }] } }

/-- G:0x1030.03. -/
def State.setReason (s : State) (r : Nat) : State := s.setGz 0x1030 0x03 r

/-- An image refused: the reason, event 0x9103, IMAGE_STATUS where the companion sent it, the buffer free again. -/
def State.imageRefused (s : State) (reason slot version : Nat) : State :=
  let thoit := s.boot.owner == .thoit
  let s := ((s.emptyBuffer ibRefused).setReason reason).raise 0x9103 fromController [(1, reason), (1, slot), (4, version)]
  if thoit then s.imageStatus reason else s

/-- The receipt of an IMAGE or IMAGE_END refused (R308). -/
def imageNo : Receipt := { code := 4, status := BitVec.ofNat 8 stNoParcel }

/-- The receipt of one taken. -/
def imageYes : Receipt := { code := 1 }

/-- IMAGE beyond 16 MiB, or IMAGE_END with more: reason TOO_LARGE, the buffer discarded (R312). -/
def State.imageTooLarge (s : State) : State × Receipt := ((s.ownBuffer .thoit).imageRefused 1 0xFF 0xFFFFFFFF, imageNo)

/-- An IMAGE message: 128 bytes at 128 × ADDR[29:7] (Table 11-3). -/
def State.imageMsg (s : State) (addr : BitVec 46) (data : Line) : State × Receipt :=
  let n := addr.toNat / 128 % 2 ^ 23
  if !s.imageOpen .thoit then (s, imageNo)
  else if imageMax ≤ 128 * n then s.imageTooLarge
  else
    let s := s.ownBuffer .thoit
    ({ s with boot := { s.boot with image := mset s.boot.image n data, lastImage := s.now } }, imageYes)

/-- The check begins. -/
def State.checkImage (s : State) (length : Nat) : State :=
  let s : State := { s with boot := { s.boot with buffer := ibChecking, length := length } }
  if s.atStep 1 then s.setStep21 2 else s

/-- An IMAGE_END message. -/
def State.imageEnd (s : State) (length : Nat) : State × Receipt :=
  if !s.imageOpen .thoit then (s, imageNo)
  else if imageMax < length then s.imageTooLarge
  else ((s.ownBuffer .thoit).checkImage length, imageYes)

/-- The slow path's whole value (R519). -/
def State.slowImage (s : State) (o : ImageOwner) (bytes : List Byte) : State :=
  let s := s.ownBuffer o
  let lines := (List.range ((bytes.length + 127) / 128)).map (fun i => (i, lineOfBytes ((bytes.drop (128 * i)).take 128)))
  let s : State := { s with boot := { s.boot with image := lines } }
  s.checkImage bytes.length

/-- IMAGE_BUFFER_TIMEOUT: 1 s without an IMAGE from an owning link (R518). -/
def State.imageTimeout (s : State) : State :=
  if s.alive && s.boot.buffer == ibLoading && s.boot.owner == .thoit then
    (s.atLeast (s.boot.lastImage + 1000000000)).emptyBuffer ibEmpty
  else s

/-! ### The image check (Tables 20-2 and 20-3) -/

/-- Byte i of the image in the buffer. -/
def State.imageByte (s : State) (i : Nat) : Byte := match mfind s.boot.image (i / 128) with
  | some l => lineByte l (i % 128)
  | none => Config.imageResidue i

/-- A field of the image's header. -/
def State.imageField (s : State) (off n : Nat) : Nat := natOfBytes ((List.range n).map (fun i => s.imageByte (off + i)))

/-- Every byte of a span of the image is zero. -/
def State.imageZero (s : State) (off n : Nat) : Bool := (List.range n).all (fun i => s.imageByte (off + i) == 0)

def State.imageSvn (s : State) : Nat := s.imageField 0x14 4
def State.imageSlot (s : State) : Nat := s.imageField 0x18 4
def State.imageVersion (s : State) : Nat := s.imageField 0x10 4

/-- "MILEFIMG", little-endian. -/
def imageMagic : Nat := natOfBytes [0x4D, 0x49, 0x4C, 0x45, 0x46, 0x49, 0x4D, 0x47]

/-- The header breaks Table 20-2, or its lengths do not agree: BAD_HEADER. -/
def State.headerBad20 (s : State) : Bool :=
  decide (s.boot.length < 8193) || s.imageField 0 8 != imageMagic || s.imageField 8 4 != 1
    || !s.imageZero 0x7C 388 || !s.imageZero 0x1714 2284 || decide (3 < s.imageSlot)
    || 0x2000 + s.imageField 0x1C 4 != s.boot.length

/-- The reason of the first check of Table 20-3 that fails, 0 for none. -/
def State.imageReason (s : State) (r : ImageFacts) : Nat :=
  let k := s.imageSlot
  if imageMax < s.boot.length then 1
  else if s.headerBad20 then 2
  else if s.imageField 0x0C 4 ≠ 0x1152 then 3
  else if s.rf Reg.GL_SEC_SLOTS k 1 = 0 ∨ s.rf Reg.GL_SEC_SLOTS (4 + k) 1 = 1 ∨ !r.keyMatches then 4
  else if !r.signatureOk then 5
  else if !r.bodyOk then 6
  else if s.imageSvn < s.svnMin then 7
  else 0

/-- The image accepted (R499, R520); in BOOT the dies are released and both Thoit groups train for service (R297, R515). -/
def State.imageAccepted (s : State) (digest : BitVec 256) : State :=
  let thoit := s.boot.owner == .thoit
  let s : State := { s with
    boot := { s.boot with buffer := ibAccepted, accepted := true, svn := s.imageSvn }
    blobs := mset s.blobs (gzKey 0x1000 0x08) (bytesOfNat 32 digest.toNat) }
  let v := s.imageVersion
  let s := ((s.setGz 0x1000 0x05 v).setRf Reg.GL_SEC_SLOTS 8 2 s.imageSlot).setReason 0
  let s := s.raise 0x1112 fromController [(4, v), (1, if thoit then 0 else 1), (1, s.rf Reg.GL_SEC_STATE 2 1)]
  let s := if thoit then s.imageStatus 0 else s
  if s.atStep 2 then (s.setStep21 3).trainThoit else s

/-- IMAGE_CHECK_DONE: within 20 ms the check ends. -/
def State.imageChecked (s : State) (r : ImageFacts) : State :=
  if s.alive && s.boot.buffer == ibChecking then
    let reason := s.imageReason r
    if reason = 0 then s.imageAccepted r.digest
    else
      let s := if s.atStep 2 then s.setStep21 1 else s
      s.imageRefused reason (if reason = 1 then 0xFF else s.imageSlot) (if reason = 1 then 0xFFFFFFFF else s.imageVersion)
  else s

/-! ### The ring (R20, R21) -/

/-- The place of an edge in Table 1-8. -/
def Edge.code : Edge → Nat
  | .b0b1 => 0 | .b1b3 => 1 | .b3b2 => 2 | .b2b0 => 3

/-- A ring edge fails: traffic goes round the other three; a second failure ends service. -/
def State.edgeFails (s : State) (e : Nat) : State :=
  if s.boot.edges.getLsbD e then s
  else
    let second := s.boot.edges != 0
    let m := withBit s.boot.edges e
    let s : State := { s with boot := { s.boot with edges := m } }
    let s := s.raiseCause 0x1120 fromController [(1, e), (1, m.toNat)] .bridge
    if second then s.halt else s

/-- BRIDGE_EDGE_FAIL. -/
def State.bridgeFail (s : State) (e : Edge) : State := if s.serving then s.edgeFails (Edge.code e) else s

/-! ### Steps 7 to 11 (R515, R516, R521) -/

/-- The jets of a die after the self-test: the 24 lowest that work are enabled, the rest are spares (R27). -/
def State.enableJets (s : State) (failed : BitVec 104) (d : Nat) : State :=
  let good := ((List.range 26).map (26 * d + ·)).filter (fun j => !failed.getLsbD j)
  let on := good.take 24
  let s := s.forEach ((List.range 26).map (26 * d + ·)) (fun s j =>
    (((s.setRf (Reg.JT_STATE j) 0 1 (bitN (on.contains j))).setRf (Reg.JT_STATE j) 1 1 (bitN (good.contains j && !on.contains j))).setRf
      (Reg.JT_STATE j) 2 1 (bitN (failed.getLsbD j))).syncJet j)
  if on.length < 24 then s.setCause .jets else s

/-- The first failed die. -/
def firstDie (m : BitVec 4) : Nat := (onesOf m).headD 0

/-- SELF_TESTS_DONE. -/
def State.selfTests (s : State) (r : SelfTest) : State :=
  if s.atStep 3 then
    let edges := s.boot.edges ||| r.failedEdges
    if r.failedDies ≠ 0 then s.bootFails 0 (firstDie r.failedDies)
    else if 2 ≤ popCount edges then s.bootFails 3 (firstDie r.failedEdges)
    else
      let s := s.forEach (onesOf r.failedEdges) State.edgeFails
      let s := s.forEach r.ways (fun s w => s.retireWay w.1.val w.2.val false)
      let s := s.forEach (List.range 4) (fun s d => s.enableJets r.failedJets d)
      s.setStep21 4
  else s

/-! ### The fuse map (R135 to R137, R151) -/

/-- Two places lie in one bank and call for the same kind of spare. -/
def sharesSpares (a b : ArrayPlace) : Bool :=
  a.stack == b.stack && a.chan == b.chan && a.bank == b.bank && (match a.part, b.part with
    | .row _, .row _ | .column _, .column _ => true
    | _, _ => false)

/-- Spares of its kind each bank holds (R135). -/
def sparesOf : ArrayPart → Nat
  | .row _ => 64
  | .column _ => 16
  | .other => 0

/-- Spares of the place's kind left in its bank under a fuse map. -/
def sparesLeft (l : List ArrayPlace) (a : ArrayPlace) : Nat := sparesOf a.part - (l.filter (fun b => sharesSpares b a)).length

/-- A failure that training finds on its stack, repaired for good by a record of the fuse map; none where the bank has no spare left,
the map no record, or no row or column describes it (R136). -/
def repairIn (l : List ArrayPlace) (a : ArrayPlace) : Option (List ArrayPlace) :=
  if sparesLeft l a = 0 ∨ 4096 ≤ l.length then none else some (a :: l)

/-- What training makes of a stack's fuse map, and whether the stack fails for it: the records of manufacture are applied, then each failure of
the test is repaired in turn until one cannot be. -/
def repairAll : List ArrayPlace → List ArrayPlace → List ArrayPlace × Bool
  | l, [] => (l, false)
  | l, a :: as => match repairIn l a with
    | some l => repairAll l as
    | none => (l, true)

/-- The fuse map of stack k after training, and whether the stack fails with cause FUSE. -/
def State.fuseMap (s : State) (r : TrainingResult) (k : Nat) : List ArrayPlace × Bool :=
  let own (l : List ArrayPlace) : List ArrayPlace := l.filter (fun a => a.stack.val == k)
  let held := (s.stack k).records
  repairAll ((own r.manufactured).filter (fun a => !held.contains a) ++ held) (own r.fails)

/-- The stacks training fails (Table 5-5, R136). -/
def State.failedStacks (s : State) (r : TrainingResult) : BitVec 12 :=
  (List.range 12).foldl (fun v k => if (s.fuseMap r k).2 then withBit v k else v) r.failed

/-- The repairs of training stand in the fuse maps for good. -/
def State.repairs (s : State) (r : TrainingResult) : State :=
  s.forEach (List.range 12) (fun s k => s.setStack k { s.stack k with records := (s.fuseMap r k).1 })

/-- ST_SPARES: the fewest spares of a kind left in any bank, and the records left. -/
def sparesWord (l : List ArrayPlace) : Nat :=
  let fewest (part : ArrayPart) : Nat :=
    l.foldl (fun m a => min m (sparesLeft l { a with part := part })) (sparesOf part)
  fewest (.row 0) + 2 ^ 7 * fewest (.column 0) + 2 ^ 12 * (4096 - l.length)

/-- A stack starts: its temperature, its first variant, spares, and its channels on the boot calendar (R104, R106, R489). -/
def State.startStack (s : State) (r : TrainingResult) (k : Nat) : State :=
  let t := r.temps.toList.getD k 0
  let hot := decide ((s.gzv 0x8030 0x01 : Int) ≤ t.toInt)
  let s := (s.setRf (Reg.ST_TEMP k) 0 8 t.toNat).setRf (Reg.ST_TEMP k) 8 8 (hotter (BitVec.ofNat 8 (s.rf (Reg.ST_TEMP k) 8 8)) t).toNat
  let s := (s.setRf (Reg.ST_TIDE_VAR k) 0 1 (bitN hot)).setStack k { s.stack k with hot := hot }
  let s := s.setRf (Reg.ST_SPARES k) 0 25 (sparesWord (s.stack k).records)
  s.forEach (List.range 16) (fun s c => ((s.setRf (chanCfg (16 * k + c)) 7 1 0).setRf (chanCfg (16 * k + c)) 9 1 1))

/-- The log exists: what was held is written to it (R517). -/
def State.openLog (s : State) : State :=
  let held := s.boot.held
  let s : State := { s with boot := { s.boot with logExists := true, held := [] } }
  s.forEach held State.logEvent

/-- RESERVOIR_TRAINING_DONE: tide controllers run, the margin is laid out, ports train and clearing starts. -/
def State.reservoirsDone (s : State) (r : TrainingResult) : State :=
  if s.atStep 4 then
    let failed := s.failedStacks r
    let s := s.repairs r
    if 2 ≤ popCount failed then s.bootFails 1 0xFF
    else
      let s := s.forEach (List.range 12) (fun s k => s.startStack r k)
      let s := s.forEach (List.range 4) (fun s d => s.setDie d { s.die d with running := true, lapEdge := s.edges })
      let s := s.forEach (onesOf failed) (fun s k =>
        ((s.setRf (Reg.ST_STACK_STATE k) 0 2 2).setRf (Reg.ST_STACK_STATE k) 4 4
          (if r.failed.getLsbD k then r.cause.toNat else 3)).setCause .stack)
      let s := s.openLog.setStep21 5
      s.forEach ((List.range 48).filter (fun p => s.rf (Reg.PT_LINK_CFG p) 0 1 == 1)) State.startTraining
  else s

/-- BOOT_CLEARING_DONE: every line of tier T0 backing is zero (R46). -/
def State.clearingDone (s : State) : State :=
  if s.atStep 5 then
    ({ s with mem := [], bad := [], parity := [], parityLines := [], boot := { s.boot with cleared := true } }).setStep21 6
  else s

/-! ### Commons (R527 to R532) -/

/-- The entry of a commons parcel. -/
def commonsParcel (x : Parcel) : Parcel := { state := .commons, rights := 0b1111, broad := true, guarded := true, gen := x.gen }

/-- The lowest FREE parcels become commons, up to n, stopping at the first that does not fit (R55, R527). -/
def commonsGo : List Nat → Nat → Nat → State → State × Nat
  | [], _, c, s => (s, c)
  | p :: ps, n, c, s =>
    if n ≤ c then (s, c)
    else if (s.parcel p).state ≠ .free then commonsGo ps n c s
    else
      let t := s.setParcel p (commonsParcel (s.parcel p))
      if t.fits && !(List.range 12).any s.stackFailed then commonsGo ps n (c + 1) t else (s, c)

/-- Entry to COMMONS or RECOVERY (R527). -/
def State.enterCommons (s : State) (m : Mode) : State :=
  let (s, n) := commonsGo (List.range 2048) (s.gzv 0x2060 0x01) 0 s
  (s.setGz 0x2060 0x02 n).enterMode m n

/-- COMMONS_ENTRY: boot clearing has ended and a device ID is assigned (R516). -/
def State.commonsEntry (s : State) : State :=
  if s.alive && s.mode == .boot && s.boot.cleared && s.boot.deviceId.isSome then (s.setStep21 7).enterCommons .commons else s

/-- ENTER_SERVICE (R532): marked parcels are granted to their slots, unmarked commons are closed. -/
def State.convertCommons (s : State) (p : Nat) : State :=
  let x := s.parcel p
  if x.state ≠ .commons then s
  else
    let keep := Reg.GL_COMMONS_KEEP p
    if s.rf keep 14 1 = 1 then
      (s.setParcel p { x with state := .granted, tenant := s.rf keep 0 10, rights := BitVec.ofNat 4 (s.rf keep 10 4),
                              gen := x.gen + 1 }).setReg keep 0
    else
      let s := s.setParcel p { x with state := .closing }
      s.forEach (s.linesInUse p) (fun s n => s.recall n .release)

/-- A write of GL_MODE_CMD. -/
def State.modeCommand (s : State) (w : Word) : State :=
  let op := field w 0 4
  if op = 0 then s
  else s.command modeRegs (fun s =>
    if op = 1 then
      if s.mode = .commons ∨ s.mode = .recovery then
        (s.forEach ((s.parcels.filter (fun e => e.2.state == .commons)).map (·.1)) State.convertCommons).keepBusy modeRegs w
      else s.done modeRegs 1
    else if op = 2 then
      if s.mode = .commons then (s.enterMode .test 0xFF).done modeRegs 0 else s.done modeRegs 1
    else if op = 3 then
      if s.mode = .service then (s.enterCommons .recovery).done modeRegs 0 else s.done modeRegs 1
    else s.done modeRegs 2)

/-- SERVICE_ENTRY_DONE: closing parcels that are quiet clear; with none left in COMMONS or CLOSING, MODE is SERVICE. -/
def State.serviceEntered (s : State) : State :=
  if s.busy modeRegs && field (s.runningWord modeRegs) 0 4 == 1 then
    let releasing := if s.busy parcelRegs then some (field (s.runningWord parcelRegs) 4 11) else none
    let l := (s.parcels.filter (fun e => e.2.state == .closing && releasing != some e.1)).map (·.1)
    let s := s.forEach l (fun s p => if s.parcelQuiet p then s.startClearing p else s)
    if s.parcels.any (fun e => e.2.state == .closing || e.2.state == .commons) then s
    else (s.enterMode .service 0xFF).done modeRegs 0
  else s

/-- A write of GL_COMMONS_CMD. -/
def State.commonsCommand (s : State) (w : Word) : State :=
  let op := field w 0 4
  let p := field w 4 11
  if op = 0 then s
  else s.command commonsRegs (fun s =>
    if 2 < op then s.done commonsRegs 3
    else if s.mode ≠ .commons ∧ s.mode ≠ .recovery then s.done commonsRegs 2
    else if (s.parcel p).state ≠ .commons then s.done commonsRegs 1
    else
      let v := if op = 1 then pack [(10, field w 16 10), (4, field w 32 4), (1, 1)] else 0
      (s.setReg (Reg.GL_COMMONS_KEEP p) v).done commonsRegs 0)

/-! ### Fabric join (R523 to R526) -/

/-- A device ID taken: path 0 ASSIGN_ID, 1 GAZETTEER; the port, all ones where none. -/
def State.takeId (s : State) (id : BitVec 14) (path port : Nat) : State :=
  let s : State := { s with boot := { s.boot with deviceId := some id } }
  s.raise 0x1111 fromController [(2, id.toNat), (1, path), (1, port)]

/-- DISCOVER_ANS in answer to a frame on a port (Table 21-4). -/
def State.answerJoin (s : State) (p : Nat) (f : Frame) (assigned : Bool) : State :=
  let bs := (List.range 12).map Config.serialByte ++ bytesOfNat 4 0x1152 ++ bytesOfNat 2 s.devId16 ++ bytesOfNat 1 p
    ++ bytesOfNat 1 0 ++ bytesOfNat 1 s.mode.code ++ bytesOfNat 1 (bitN assigned) ++ bytesOfNat 2 0 ++ bytesOfNat 6 s.portsUp.toNat
  s.egress p { typ := 0x81, vc := 5, src := s.selfId, aux := f.aux &&& 0xFFFFFFFF, data := lineOfBytes bs }

/-- DISCOVER_RX. -/
def State.discoverRx (s : State) (p : Nat) (f : Frame) : State :=
  s.arrive p { f with typ := 0x80 } (fun s => (s.answerJoin p f false, false))

/-- ASSIGN_ID_RX: applied only in BOOT, after acceptance, with no ID held. -/
def State.assignIdRx (s : State) (p : Nat) (f : Frame) : State :=
  s.arrive p { f with typ := 0x82 } (fun s =>
    if s.boot.deviceId.isNone ∧ s.mode = .boot ∧ s.boot.accepted then
      ((s.takeId (BitVec.ofNat 14 (field f.aux 32 14)) 0 p).answerJoin p f true, false)
    else (s.answerJoin p f false, false))

/-- A write of GL_JOIN_CMD. -/
def State.joinCommand (s : State) (w : Word) : State :=
  let op := field w 0 4
  let p := field w 4 6
  if op = 0 then s
  else s.command joinRegs (fun s =>
    if 2 < op ∨ 47 < p then s.done joinRegs 4
    else if !s.portUp p then s.done joinRegs 2
    else
      let token := Config.joinToken s.free
      let aux := pack [(32, token.toNat), (14, if op = 2 then field w 16 14 else 0)]
      let s : State := { s with
        free := s.free + 1
        boot := { s.boot with joinToken := token, joinAssign := op == 2, joinAt := s.now } }
      (s.egress p { typ := if op = 2 then 0x82 else 0x80, vc := 5, src := s.selfId, aux := aux }).keepBusy joinRegs w)

/-- DISCOVER_ANS_RX: the answer to the running join command, matched by TOKEN. -/
def State.discoverAnsRx (s : State) (p : Nat) (f : Frame) : State :=
  s.arrive p { f with typ := 0x81 } (fun s =>
    if s.busy joinRegs ∧ f.aux.toNat % 2 ^ 32 = s.boot.joinToken.toNat then
      let s := s.forEach (List.range 16) (fun s i => s.setReg (Reg.GL_JOIN_VIEW i) (lineWord f.data i))
      (s.done joinRegs (if s.boot.joinAssign ∧ lineByte f.data 21 ≠ 1 then 3 else 0), false)
    else (s, false))

/-- JOIN_ANSWER_TIMEOUT: 100 µs have passed. -/
def State.joinTimeout (s : State) : State :=
  if s.alive && s.busy joinRegs then (s.atLeast (s.boot.joinAt + 100000)).done joinRegs 1 else s

end Sys2Proof.Machine
end

