-- ==== Sys2Proof/Machine/Gazetteer.lean ====
section
/-!
DEFINITION. The gazetteer (chapter 17): its entries with type, right and range, reading and writing a value, the operations of a
message, the two management buses and the register window of Table 17-9.
-/

namespace Sys2Proof.Machine

/-! ### Results, types, rights, units (Tables 17-1, 17-2, 17-7, 17-8) -/

def gzOk : Nat := 0x00
def gzNoEntry : Nat := 0x01
def gzNoSub : Nat := 0x02
def gzAccess : Nat := 0x03
def gzNotStopped : Nat := 0x04
def gzRange : Nat := 0x05
def gzLength : Nat := 0x06
def gzSegment : Nat := 0x07
def gzRefused : Nat := 0x08
def gzNotReady : Nat := 0x09
def gzBadRequest : Nat := 0x0A

def tU8 : Nat := 0x01
def tU16 : Nat := 0x02
def tU32 : Nat := 0x03
def tU64 : Nat := 0x04
def tBool : Nat := 0x07
def tStr : Nat := 0x08
def tBlob : Nat := 0x09
def tRecord : Nat := 0x0A

def rRO : Nat := 0x1
def rRW : Nat := 0x2
def rWO : Nat := 0x3
def rRWS : Nat := 0x4
def rCONST : Nat := 0x5

/-- An entry: Table 17-8's TYPE, RIGHT, UNIT, MAXLEN, MIN, MAX, and its DEFAULT where the spec states one that is not among
gzDefaults. -/
structure GzEntry where
  typ : Nat
  right : Nat
  unit : Nat := 0
  maxlen : Nat
  min : Nat := 0
  max : Nat := 0
  dflt : Option Nat := none
deriving DecidableEq, Repr

/-- Bytes of a numeric type. -/
def typeBytes (t : Nat) : Nat := if t = tU16 then 2 else if t = tU32 then 4 else if t = tU64 then 8 else 1

/-- A numeric type: its value has a range (R444). -/
def isNumeric (t : Nat) : Bool := t == tU8 || t == tU16 || t == tU32 || t == tU64 || t == tBool

/-- A numeric entry over the whole of its type. -/
def gzNum (t right : Nat) (unit : Nat := 0) (dflt : Option Nat := none) : GzEntry :=
  { typ := t, right := right, unit := unit, maxlen := typeBytes t, max := if t = tBool then 1 else 256 ^ typeBytes t - 1, dflt := dflt }

/-- A numeric entry with a range. -/
def gzIn (t right lo hi : Nat) (unit : Nat := 0) (dflt : Option Nat := none) : GzEntry :=
  { typ := t, right := right, unit := unit, maxlen := typeBytes t, min := lo, max := hi, dflt := dflt }

/-- An entry of bytes. -/
def gzBytes (t right n : Nat) : GzEntry := { typ := t, right := right, maxlen := n }

/-- A writable entry whose default is among gzDefaults: the range and unit. -/
def gzRW (t lo hi : Nat) (unit : Nat := 0) : GzEntry := gzIn t rRW lo hi unit

/-- Entries 0x1000 to 0x2FFF by index, with their subindices. -/
def gzRowsLow : Nat → List (Nat × GzEntry)
  | 0x1000 => [(1, gzBytes tStr rCONST 5), (2, gzBytes tStr rCONST 8), (3, gzBytes tStr rCONST 12), (4, gzNum tU16 rCONST),
      (5, gzNum tU32 rRO 0 (some 0)), (6, gzIn tU16 rRO 0 0xFFFF 0 (some 0xFFFF)), (7, gzIn tU8 rRO 0 5 0 (some 0)),
      (8, gzBytes tBlob rRO 32)]
  | 0x1020 => [(1, gzNum tU8 rRO), (3, gzNum tBool rRW), (4, gzNum tBool rRW), (5, gzRW tU16 100 10000 3),
      (6, gzIn tU32 rRWS 125000 1000000), (7, gzIn tU32 rRWS 1000000 5000000),
      (8, gzIn tU64 rRWS 0x000F_4240_0001_E848 0x004C_4B40_000F_4240), (9, gzNum tU32 rRO 0 (some 0)),
      (0xA, gzNum tU32 rRO 0 (some 0)), (0xB, gzNum tU32 rRO 0 (some 0))]
  | 0x1030 => [(1, gzBytes tBlob rWO 16777216), (2, gzIn tU8 rRO 0 4 0 (some 0)), (3, gzNum tU8 rRO 0 (some 0)),
      (4, gzNum tU8 rRO 0 (some 0))]
  | 0x1040 => [(1, gzIn tU16 rWO 0 0x3FFF), (2, gzRW tU16 0 0xFFFF), (3, gzNum tU64 rWO), (4, gzIn tU8 rRO 0 7 0 (some 0))]
  | 0x2010 => (List.range 12).map (fun i => (i + 1, gzNum tU64 rRO 5))
  | 0x2011 => (List.range 5).map (fun i => (i + 1, gzNum tU64 rRO 5))
  | 0x2020 => [(1, gzNum tU64 rWO), (2, gzNum tU64 rRW), (3, gzNum tU64 rRO)]
  | 0x2030 => [(1, gzRW tU32 10 100000 2)]
  | 0x2040 => [(1, gzNum tBool rRW), (2, gzRW tU8 1 16), (3, gzRW tU32 16 65535), (4, gzRW tU32 10 60000 3),
      (5, gzBytes tRecord rRO 64)]
  | 0x2050 => [(1, gzRW tU32 100 3600000 3), (2, gzRW tU32 200 100000 2), (3, gzRW tU32 1 3600000 3)]
  | 0x2060 => [(1, gzRW tU8 0 64), (2, gzIn tU8 rRO 0 64 0 (some 0)), (3, gzBytes tRecord rRW 128), (4, gzNum tU64 rWO)]
  | _ => []

/-- Entries 0x3000 to 0x6FFF. -/
def gzRowsMid : Nat → List (Nat × GzEntry)
  | 0x3010 => [(1, gzRW tU32 64 4096 1), (2, gzRW tU32 5 10000 2)]
  | 0x3020 => [(1, gzNum tBool rRW), (2, gzIn tU8 rRWS 0 3)]
  | 0x3040 => [(1, gzRW tU32 10 10000 2)]
  | 0x4010 => [(1, gzRW tU32 1000 100000000)]
  | 0x4020 => (List.range 8).map (fun i => (i + 1, gzNum tU16 rRWS))
  | 0x4030 => [(1, gzRW tU32 5 1000 2), (2, gzRW tU8 1 16), (3, gzRW tU32 100 100000 1)]
  | 0x4040 => [(1, gzRW tU32 2 1000 2), (2, gzRW tU32 1024 16384 0xC), (3, gzRW tU16 8 1024 0xC), (4, gzRW tU16 4 256 0xC)]
  | 0x4050 => [(1, gzRW tU32 100 100000 2)]
  | 0x5000 => [(1, gzIn tU8 rRO 0 96 0 (some 96))]
  | 0x5010 => [(1, gzRW tU16 64 4095 7), (2, gzRW tU32 1 65535 8), (3, gzNum tU16 rRO 7)]
  | 0x5020 => [(1, gzRW tU32 1 1000000 2), (2, gzRW tU32 100 1000000 2), (3, gzRW tU32 1 3600000 3)]
  | 0x5030 => [(1, gzNum tU64 rRO 5), (2, gzIn tU16 rRO 0 4096)]
  | 0x5040 => [(1, gzIn tU16 rRO 0 1024), (2, gzNum tU32 rRO)]
  | 0x6000 => [(1, gzNum tU64 rRW)]
  | idx => if 0x6400 ≤ idx ∧ idx < 0x6800 then [(0x20, gzRW tU32 0 20480 6)] else []

/-- Entries 0x7000 to 0x9FFF; the range of G:0x8030.02 ends 3 °C below G:0x8030.01. -/
def State.gzRowsHigh (s : State) : Nat → List (Nat × GzEntry)
  | 0x7010 => [(1, gzNum tU64 rWO), (2, gzNum tU32 rRW), (3, gzNum tU64 rRO 0 (some 0))]
  | 0x7020 => [(1, gzNum tU64 rRO 0 (some 0))]
  | 0x7030 => [(1, gzNum tU16 rRO 0 (some 0))]
  | 0x8010 => [(1, gzRW tU32 800 2800 9), (2, gzNum tU16 rRO 9), (3, gzNum tU16 rRO 0xFF)]
  | 0x8020 => [(1, gzRW tU32 0 10000 2)]
  | 0x8030 => [(1, gzRW tU8 70 90 0xB), (2, gzRW tU8 60 (s.gzv 0x8030 0x01 - 3) 0xB), (3, gzRW tU8 85 105 0xB)]
  | 0x9000 => [(1, gzIn tU8 rRO 0 2 0 (some 0)), (2, gzBytes tBlob rCONST 60), (3, gzBytes tBlob rCONST 5472), (4, gzNum tBool rRO)]
  | 0x9010 => [(1, gzIn tU8 rRW 0 2 0 (some 0)), (2, gzRW tU8 2 255)]
  | 0x9020 => [(1, gzIn tU8 rRO 0 63), (2, gzIn tU8 rWO 0 63), (3, gzIn tU8 rWO 0 3), (4, gzBytes tBlob rCONST 128)]
  | 0x9030 => [(1, gzBytes tBlob rWO 32), (2, gzBytes tBlob rRO 5524), (3, gzIn tU8 rRO 0 8 0 (some 0)), (4, gzIn tU16 rRO 0 4096),
      (5, gzIn tU16 rRO 0 1024 0 (some 0)), (6, gzRW tU32 10 60000 3)]
  | _ => []

/-- The entries of an index. -/
def State.gzRows (s : State) (idx : Nat) : List (Nat × GzEntry) :=
  if idx < 0x3000 then gzRowsLow idx else if idx < 0x7000 then gzRowsMid idx else s.gzRowsHigh idx

/-- The highest subindex of an index's entries. -/
def topSub (l : List (Nat × GzEntry)) : Nat := l.foldl (fun a e => max a e.1) 0

/-- Subindex 0 of every index: CONST (R10, R442). -/
def gzSub0 : GzEntry := gzNum tU8 rCONST

/-- The entry of an index and subindex. -/
def State.gzEntry (s : State) (idx sub : Nat) : Option GzEntry :=
  if sub = 0 then some gzSub0 else mfind (s.gzRows idx) sub

/-- The vendor test range, whose entries the spec leaves to Milef (R460, R533). -/
def State.gzVendor (s : State) (idx : Nat) : Bool := s.mode == .test && decide (0xF000 ≤ idx)

/-! ### Reading a value (R446, R461 and the chapters' entry tables) -/

/-- The bytes of words. -/
def wordBytes (l : List Word) : List Byte := l.flatMap (fun w => bytesOfNat 8 w.toNat)

/-- A number read from the machine where it is not kept as a number of its own. -/
def State.gzNumber (s : State) (idx sub : Nat) : Nat := match idx with
  | 0x1000 => if sub = 4 then Config.siliconRevision.toNat else if sub = 6 then s.devId16 else if sub = 7 then s.mode.code
      else s.gzv idx sub
  | 0x1020 => if sub = 1 then s.mgmt.address.toNat else s.gzv idx sub
  | 0x1030 => if sub = 2 then s.boot.buffer else if sub = 4 then (match s.boot.owner with
      | .none => 0 | .thoit => 0xFF | .manager a => a) else s.gzv idx sub
  | 0x1040 => if sub = 4 then s.step21 else s.gzv idx sub
  | 0x2010 => s.unusedOn (sub - 1)
  | 0x2011 => match sub with
    | 1 => (List.range 12).foldl (fun a k => a + s.unusedOn k) 0
    | 2 => s.guardedTotal
    | 3 => s.stripes
    | 4 => 11 * s.stripes - s.guardedTotal
    | _ => s.clearingLines
  | 0x2020 => if sub = 2 then (s.reg Reg.GL_PARCEL_ARG).toNat else (s.reg Reg.GL_PARCEL_STATUS).toNat
  | 0x2040 => if sub = 1 then s.rf Reg.GL_TRV_MODE 0 1 else s.gzv idx sub
  | 0x3020 => if sub = 1 then s.rf Reg.GL_INSET_CFG 0 1 else s.rf Reg.GL_INSET_CFG 1 2
  | 0x5000 => ((List.range 104).filter (fun j => s.rf (Reg.JT_STATE j) 0 1 == 1)).length
  | 0x5010 => if sub = 3 then (fwaitOf (bootEntry 1) 16).getD 0 else s.gzv idx sub
  | 0x5030 => if sub = 1 then s.tables.foldl (fun a e => a + e.2.bufLines) 0 else (s.tables.filter (fun e => e.2.state != 0)).length
  | 0x5040 => if sub = 1 then (s.indexes.filter (fun e => e.2.state != 0)).length else s.indexes.foldl (fun a e => a + e.2.annexCount) 0
  | 0x6000 => (s.reg Reg.GL_MGMT_TAG).toNat
  | 0x7010 => if sub = 3 then s.tele.lastSurvey else s.gzv idx sub
  | 0x7020 => s.tele.head
  | 0x7030 => s.rf Reg.GL_REPLACE 0 16
  | 0x8010 => if sub = 2 then s.rf Reg.GL_PWR_STATE 16 16 else if sub = 3 then s.rf Reg.GL_PWR_STATE 32 16 else s.gzv idx sub
  | 0x9000 => if sub = 1 then s.alarm else s.rf Reg.GL_SEC_STATE 3 1
  | 0x9010 => if sub = 1 then s.policy else s.gzv idx sub
  | 0x9020 => s.svnMin
  | 0x9030 => if sub = 3 then s.attestView else if sub = 4 then 4096 - s.epochsUsed
      else if sub = 5 then (if s.epochOpen then 1024 - s.leavesUsed else 0) else s.gzv idx sub
  | _ => s.gzv idx sub

/-- "Milef" and "XG1152-M". -/
def makerName : List Byte := [0x4D, 0x69, 0x6C, 0x65, 0x66]
def productName : List Byte := [0x58, 0x47, 0x31, 0x31, 0x35, 0x32, 0x2D, 0x4D]

/-- The slot digests: an unprogrammed slot reads zero (R513). -/
def State.slotDigests (s : State) : List Byte :=
  (List.range 128).map (fun i => if s.rf Reg.GL_SEC_SLOTS (i / 32) 1 = 1 then Config.slotDigestByte i else 0)

/-- The certificate: key, serial, product, signature (R507). -/
def certificate : List Byte :=
  (List.range 60).map Config.identityKeyByte ++ (List.range 12).map Config.serialByte ++ bytesOfNat 4 0x1152
    ++ (List.range 5396).map Config.certificateByte

/-- The value of a readable entry. -/
def State.gzValue (s : State) (idx sub : Nat) (e : GzEntry) : List Byte :=
  if sub = 0 then [BitVec.ofNat 8 (topSub (s.gzRows idx))]
  else if isNumeric e.typ then bytesOfNat e.maxlen (s.gzNumber idx sub)
  else match gzKey idx sub with
    | 0x100001 => makerName
    | 0x100002 => productName
    | 0x100003 => (List.range 12).map Config.serialByte
    | 0x204005 => wordBytes ((List.range 8).map (fun i => s.reg (Reg.GL_TRV_SUMMARY i)))
    | 0x206003 => wordBytes ((List.range 16).map (fun i => s.reg (Reg.GL_COMMONS_LIST i)))
    | 0x900002 => (List.range 60).map Config.identityKeyByte
    | 0x900003 => certificate
    | 0x902004 => s.slotDigests
    | 0x903002 => s.sec.evidence
    | k => mget [] s.blobs k

/-! ### Writing a value (R443 to R446) -/

/-- An RWS entry's unit is stopped (R443). -/
def State.gzStopped (s : State) (idx sub : Nat) : Bool :=
  if idx = 0x1020 then s.gzv 0x1020 (if sub = 8 then 4 else 3) == 0
  else if idx = 0x4020 then (List.range 48).all (fun p => s.rf (Reg.PT_LINK_CFG p) 0 1 == 0)
  else if idx = 0x3020 then s.rf Reg.GL_INSET_CFG 0 1 == 0
  else true

/-- Rates of Table 17-3, nominal and data, the data rate not below the nominal. -/
def ratesOk (nominal data : Nat) : Bool :=
  [125000, 250000, 500000, 1000000].contains nominal && [1000000, 2000000, 4000000, 5000000].contains data && decide (nominal ≤ data)

/-- A bus enabled or disabled; both disabled is out of range (R458). path: 0 bus A, 1 bus B, 2 the window. -/
def State.enableBus (s : State) (u : Bus) (path v : Nat) : Option State :=
  let (sub, other, code) := match u with
    | .a => (3, 4, 0)
    | .b => (4, 3, 1)
  if v = 0 ∧ s.gzv 0x1020 other = 0 then none
  else
    let was := s.gzv 0x1020 sub
    let s := s.setGz 0x1020 sub v
    some (if v = 0 ∧ was = 1 then s.raise 0x1103 fromController [(1, code), (1, path)] else s)

/-- A value in range written to entries 0x1000 to 0x6FFF; none where it is out of range after all. -/
def State.gzApplyLow (s : State) (path addr idx sub n : Nat) (bytes : List Byte) : Option State :=
  match gzKey idx sub with
  | 0x102003 => s.enableBus .a path n
  | 0x102004 => s.enableBus .b path n
  | 0x102006 => if ratesOk n (s.gzv idx 7) then some (s.setGz idx sub n) else none
  | 0x102007 => if ratesOk (s.gzv idx 6) n then some (s.setGz idx sub n) else none
  | 0x102008 => if ratesOk (n % 2 ^ 32) (n / 2 ^ 32) then some (s.setGz idx sub n) else none
  | 0x103001 => some (s.slowImage (.manager addr) bytes)
  | 0x104001 => if s.boot.deviceId.isSome then none else some (s.takeId (BitVec.ofNat 14 n) 1 0xFF)
  | 0x104002 => if n ≤ 0x3FFF ∨ n = 0xFFFF then some (s.setGz idx sub n) else none
  | 0x104003 => some (s.modeCommand (BitVec.ofNat 64 n))
  | 0x202001 => some (s.parcelCommand (BitVec.ofNat 64 n))
  | 0x202002 => some (s.setReg Reg.GL_PARCEL_ARG (BitVec.ofNat 64 n &&& 0x7FF3FFF))
  | 0x204001 => some (s.trvModeWrite (n == 1))
  | 0x206003 => some (s.forEach (List.range 16) (fun s i =>
      s.setReg (Reg.GL_COMMONS_LIST i) (BitVec.ofNat 64 (natOfBytes ((bytes.drop (8 * i)).take 8)))))
  | 0x206004 => some (s.commonsCommand (BitVec.ofNat 64 n))
  | 0x302001 => some (s.insetCfgWrite (withField (s.reg Reg.GL_INSET_CFG) 0 1 n))
  | 0x302002 => some (s.insetCfgWrite (withField (s.reg Reg.GL_INSET_CFG) 1 2 n))
  | 0x404004 => if n < s.gzv idx 3 then some (s.setGz idx sub n) else none
  | 0x600001 => some (s.mgmtTagWrite (BitVec.ofNat 64 n))
  | _ => some (s.setGz idx sub n)

/-- A value in range written to entries 0x7000 to 0x9FFF. -/
def State.gzApplyHigh (s : State) (idx sub n : Nat) (bytes : List Byte) : Option State :=
  match gzKey idx sub with
  | 0x701001 => if n = 0 then some s.surveyNow else if n < s.edges + 64 then none else some (s.surveyAt n)
  | 0x701002 => if n = 0 ∨ 128 ≤ n then some (s.setGz idx sub n) else none
  | 0x802001 => if n = 0 ∨ 5 ≤ n then some (s.setGz idx sub n) else none
  | 0x803001 => if n - 3 < s.gzv idx 2 then none else some (s.setGz idx sub n)
  | 0x901001 => s.policyWrite n
  | 0x902002 => s.svnCommit n
  | 0x902003 => s.slotRevoke n
  | 0x903001 => some (s.challenge bytes)
  | _ => some (s.setGz idx sub n)

/-- A whole value performed: LENGTH, NOT_STOPPED, RANGE, or written (R444, R452). -/
def State.gzWrite (s : State) (path addr idx sub : Nat) (e : GzEntry) (bytes : List Byte) : State × Nat :=
  let n := natOfBytes bytes
  let badLength := if e.typ = tBlob ∨ e.typ = tStr then Nat.blt e.maxlen bytes.length else bytes.length != e.maxlen
  if badLength then (s, gzLength)
  else if e.right = rRWS ∧ !s.gzStopped idx sub then (s, gzNotStopped)
  else if isNumeric e.typ ∧ (n < e.min ∨ e.max < n) then (s, gzRange)
  else match if idx < 0x7000 then s.gzApplyLow path addr idx sub n bytes else s.gzApplyHigh idx sub n bytes with
    | some s => (s, gzOk)
    | none => (s, gzRange)

/-! ### Transfers and snapshots (R452, R518) -/

def State.transfer (s : State) (addr : Nat) : Option Transfer := mfind s.mgmt.transfers addr

def State.setTransfer (s : State) (addr : Nat) (t : Transfer) : State :=
  { s with mgmt := { s.mgmt with transfers := mset s.mgmt.transfers addr t } }

/-- A manager's transfer ended, by being performed. -/
def State.endTransfer (s : State) (addr : Nat) : State :=
  { s with mgmt := { s.mgmt with transfers := merase s.mgmt.transfers addr } }

/-- A manager's transfer or snapshot discarded; the image buffer is empty again where it was the slow path's (R518). -/
def State.dropTransfer (s : State) (addr : Nat) : State := match s.transfer addr with
  | none => s
  | some t =>
    let s := s.endTransfer addr
    if t.writing ∧ gzKey t.index t.sub = 0x103001 ∧ s.boot.buffer = ibLoading ∧ s.boot.owner = .manager addr then s.emptyBuffer ibEmpty
    else s

/-- GZ_TRANSFER_TIMEOUT: 1 s without a request from its manager. -/
def State.transferTimeout (s : State) (addr : Nat) : State := match s.transfer addr with
  | none => s
  | some t => (s.atLeast (t.at_ + 1000000000)).dropTransfer addr

/-! ### A message (R451, R452, R457) -/

/-- What a message asks. -/
structure GzMsg where
  op : Nat
  idx : Nat
  sub : Nat
  seg : Nat := 0
  last : Bool := false
  count : Nat := 0
  rsv : Bool := false
  data : List Byte := []
deriving DecidableEq, Repr

/-- What it is answered with. -/
structure GzAns where
  result : Nat
  last : Bool := false
  data : List Byte := []
deriving DecidableEq, Repr

def opRead : Nat := 0x1
def opWrite : Nat := 0x2
def opInfo : Nat := 0x3
def opAbort : Nat := 0x4

/-- An index and subindex the Golik performs accesses to before an image has been accepted (R457). -/
def slowPath (idx sub : Nat) : Bool := idx == 0x1000 || idx == 0x1020 || (idx == 0x1030 && 1 ≤ sub && sub ≤ 4)

/-- NOT_READY: before acceptance, in HALTED, or another path's image buffer (R457, R518). -/
def State.gzNotReadyNow (s : State) (addr : Nat) (m : GzMsg) : Bool :=
  (!s.boot.accepted && !slowPath m.idx m.sub) || (s.mode == .halted && m.op == opWrite)
    || (m.op == opWrite && gzKey m.idx m.sub == 0x103001 && !s.imageOpen (.manager addr))

/-- The checks up to REFUSED, in the order of R452; 0 where they pass. -/
def State.gzCheck (s : State) (addr : Nat) (m : GzMsg) : Nat :=
  if m.rsv ∨ 48 < m.count ∨ m.op = 0 ∨ 4 < m.op then gzBadRequest
  else if m.op = opAbort then gzOk
  else if s.gzNotReadyNow addr m then gzNotReady
  else if (s.gzRows m.idx).isEmpty then gzNoEntry
  else match s.gzEntry m.idx m.sub with
    | none => gzNoSub
    | some e =>
      if m.op = opRead ∧ e.right = rWO then gzAccess
      else if m.op = opWrite ∧ (e.right = rRO ∨ e.right = rCONST) then gzAccess
      else if m.op = opWrite ∧ 1 ≤ s.alarm ∧ gzKey m.idx m.sub ≠ 0x903001 then gzRefused
      else gzOk

/-- READ. -/
def State.gzRead (s : State) (addr : Nat) (m : GzMsg) (e : GzEntry) : State × GzAns :=
  let seg (bytes : List Byte) (n : Nat) : GzAns :=
    { result := gzOk, last := Nat.ble bytes.length (48 * n + 48), data := (bytes.drop (48 * n)).take 48 }
  if m.seg = 0 then
    let bytes := s.gzValue m.idx m.sub e
    let s := (s.dropTransfer addr).setTransfer addr
      { writing := false, index := m.idx, sub := m.sub, next := 0, data := bytes, at_ := s.now }
    (s, seg bytes 0)
  else match s.transfer addr with
    | some t =>
      if !t.writing && t.index == m.idx && t.sub == m.sub && decide (48 * m.seg < t.data.length) then (s, seg t.data m.seg)
      else (s, { result := gzSegment })
    | none => (s, { result := gzSegment })

/-- The transfer a WRITE segment goes on: opened anew by segment 0. -/
def State.gzOpen (s : State) (addr : Nat) (m : GzMsg) : State × Option Transfer :=
  if m.seg = 0 then
    let s := s.dropTransfer addr
    let s := if gzKey m.idx m.sub = 0x103001 then s.ownBuffer (.manager addr) else s
    (s, some { writing := true, index := m.idx, sub := m.sub, next := 0, data := [], at_ := s.now })
  else (s, (s.transfer addr).filter (fun t => t.writing && t.index == m.idx && t.sub == m.sub && t.next == m.seg))

/-- WRITE. -/
def State.gzSegmentIn (s : State) (path addr : Nat) (m : GzMsg) (e : GzEntry) : State × GzAns :=
  match s.gzOpen addr m with
  | (s, none) => (match s.transfer addr with
      | some t => if t.writing then s.dropTransfer addr else s
      | none => s, { result := gzSegment })
  | (s, some t) =>
    let s := s.setTransfer addr t
    let bytes := (m.data ++ List.replicate 48 0).take m.count
    if m.last then
      let (s, r) := s.gzWrite path addr m.idx m.sub e (t.data ++ bytes)
      (if r = gzOk then s.endTransfer addr else s.dropTransfer addr, { result := r })
    else if m.count ≠ 48 then (s, { result := gzLength })
    else (s.setTransfer addr { t with next := t.next + 1, data := t.data ++ bytes }, { result := gzOk })

/-- INFO (Table 17-8). A DEFAULT the spec does not state is a free value. -/
def gzInfo (m : GzMsg) (e : GzEntry) : GzAns :=
  let k := gzKey m.idx m.sub
  let unit := if e.unit = 0xFF then Config.infoUnit.toNat else e.unit
  let dflt := if e.right = rCONST ∨ !isNumeric e.typ then 0
    else if e.right = rRW ∨ e.right = rRWS then gzDefault k
    else match e.dflt with
      | some d => d
      | none => (Config.infoDefault k).toNat % 256 ^ e.maxlen
  { result := gzOk
    data := bytesOfNat 1 e.typ ++ bytesOfNat 1 e.right ++ bytesOfNat 1 unit ++ bytesOfNat 1 0 ++ bytesOfNat 4 e.maxlen
      ++ bytesOfNat 8 e.min ++ bytesOfNat 8 e.max ++ bytesOfNat 8 dflt }

/-- A message performed for a manager (0 the window) that came by a path. -/
def State.gzPerform (s : State) (path addr : Nat) (m : GzMsg) : State × GzAns :=
  let s := match s.transfer addr with
    | some t => s.setTransfer addr { t with at_ := s.now }
    | none => s
  let r := s.gzCheck addr m
  if r ≠ gzOk then (s, { result := r })
  else if m.op = opAbort then (s.dropTransfer addr, { result := gzOk })
  else match s.gzEntry m.idx m.sub with
    | none => (s, { result := gzNoSub })
    | some e =>
      if m.op = opRead then s.gzRead addr m e
      else if m.op = opWrite then s.gzSegmentIn path addr m e
      else (s, gzInfo m e)

/-! ### The buses (R448 to R454) -/

/-- The length a CAN FD frame carries n bytes in (Table 17-3). -/
def canLength (n : Nat) : Nat :=
  if n ≤ 8 then n else if n ≤ 12 then 12 else if n ≤ 16 then 16 else if n ≤ 20 then 20 else if n ≤ 24 then 24
  else if n ≤ 32 then 32 else if n ≤ 48 then 48 else 64

/-- A response frame (Tables 17-5 and 17-6). -/
def State.busReply (s : State) (op : Nat) (m : BusMsg) (a : GzAns) : BusFrame :=
  let bs := bytesOfNat 1 (op + 0x10 + 0x20 * bitN a.last) ++ bytesOfNat 1 a.data.length ++ bytesOfNat 1 a.result
    ++ bytesOfNat 1 m.sub.toNat ++ bytesOfNat 2 m.index.toNat ++ bytesOfNat 3 m.seg.toNat ++ bytesOfNat 7 0 ++ a.data
  { id := busId 1 1 m.src.toNat s.mgmt.address.toNat m.txn.toNat, data := bs ++ List.replicate (canLength bs.length - bs.length) 0 }

/-- The code of a bus, and of the path a write on it comes by. -/
def busCode : Bus → Nat
  | .a => 0 | .b => 1

/-- ADDRESS_CONFLICT: a frame with the own address as SRC; the first raises event 0x1104 (R449). -/
def State.addressConflict (s : State) (u : Bus) : State :=
  if s.busOn u then
    let n := s.gzv 0x1020 0x09
    let s := s.setGz 0x1020 0x09 ((n + 1) % 2 ^ 32)
    if n = 0 then s.raise 0x1104 fromController [(1, busCode u), (1, s.mgmt.address.toNat)] else s
  else s

/-- The message of a bus request. -/
def gzMsgOf (op : Nat) (m : BusMsg) : GzMsg :=
  { op := op, idx := m.index.toNat, sub := m.sub.toNat, seg := m.seg.toNat, last := m.last, count := m.count.toNat, rsv := m.rsv,
    data := m.data }

/-- The same request again (R454): TXN and header alike. -/
def Kept.matches (k : Kept) (op : Nat) (m : BusMsg) : Bool := k.op == op && decide ({ k.msg with data := [] } = { m with data := [] })

/-- A request frame received on a bus: ignored where it is not for this Golik or not from a manager; a repeat is answered
with the kept response; any other is performed and answered, on the bus where it came. -/
def State.busRequest (s : State) (u : Bus) (op : Nat) (m : BusMsg) : State :=
  if !s.busOn u then s
  else if m.src = s.mgmt.address then s.addressConflict u
  else if m.dest ≠ s.mgmt.address ∨ m.src = 0 ∨ 0x0F < m.src.toNat then s
  else match (mfind s.mgmt.kept m.src.toNat).filter (fun k => k.matches op m) with
    | some k => s.send (.bus u k.reply)
    | none =>
      let (s, a) := s.gzPerform (busCode u) m.src.toNat (gzMsgOf op m)
      let f := s.busReply op m a
      let s : State := { s with mgmt := { s.mgmt with kept := mset s.mgmt.kept m.src.toNat { op := op, msg := m, reply := f } } }
      s.send (.bus u f)

/-- The bus would ask the vendor test range in TEST. -/
def State.busVendor (s : State) (u : Bus) (m : BusMsg) : Bool :=
  s.busOn u && m.dest == s.mgmt.address && s.gzVendor m.index.toNat

/-- CHALLENGE on a bus (R505, R510): the WRITE of a nonce to G:0x9030.01. -/
def State.busChallenge (s : State) (u : Bus) (m : BusMsg) : State :=
  s.busRequest u opWrite { m with index := 0x9030, sub := 1 }

/-! ### Beacons and bus-off (R456, R458) -/

/-- BEACON_TIMER. -/
def State.beaconTimer (s : State) : State :=
  if s.alive && s.boot.copies != 0 then
    let s := s.atLeast (s.mgmt.beaconAt + 1000000 * s.gzv 0x1020 0x05)
    ({ s with mgmt := { s.mgmt with beaconAt := s.now } }).sendBeacon
  else s

/-- BUS_OFF: event 0x1101, which goes out on the other bus; counted in G:0x1020.0B. -/
def State.busOff (s : State) (u : Bus) : State :=
  if s.busOn u then
    let n := s.gzv 0x1020 0x0B
    let n := match u with
      | .a => n / 65536 * 65536 + (n % 65536 + 1) % 65536
      | .b => (n / 65536 + 1) % 65536 * 65536 + n % 65536
    let s := (s.setBus u { s.bus u with off := true, offSince := s.now }).setGz 0x1020 0x0B n
    s.raise 0x1101 fromController [(1, busCode u)]
  else s

/-- BUS_RECOVERED: event 0x1102 with the time off in milliseconds. -/
def State.busRecovered (s : State) (u : Bus) : State :=
  if s.alive && (s.bus u).off then
    let t := (s.now - (s.bus u).offSince) / 1000000
    (s.setBus u { s.bus u with off := false, offSince := 0 }).raise 0x1102 fromController [(1, busCode u), (4, t)]
  else s

/-- The event frame each bus sends next, where one waits (R455). -/
def State.drainBus (s : State) (u : Bus) : State := match (s.bus u).queue with
  | [] => s
  | f :: rest => if s.busOn u then (s.setBus u { s.bus u with queue := rest }).send (.bus u f) else s

/-! ### The register window (R459, Table 17-9) -/

/-- The message GL_GZ_SEL, GL_GZ_CMD and GL_GZ_DATA hold. -/
def State.gzWindowMsg (s : State) (w : Word) : GzMsg :=
  { op := field w 0 4, idx := s.rf Reg.GL_GZ_SEL 0 16, sub := s.rf Reg.GL_GZ_SEL 16 8, seg := s.rf Reg.GL_GZ_SEL 24 24,
    last := field w 4 1 == 1, count := field w 8 6, data := wordBytes ((List.range 6).map (fun i => s.reg (Reg.GL_GZ_DATA i))) }

/-- Bytes put in GL_GZ_DATA. -/
def State.setGzData (s : State) (bytes : List Byte) : State :=
  s.forEach (List.range 6) (fun s i => s.setReg (Reg.GL_GZ_DATA i) (BitVec.ofNat 64 (natOfBytes ((bytes.drop (8 * i)).take 8))))

/-- A write of GL_GZ_CMD. -/
def State.gzCommand (s : State) (w : Word) : State :=
  if field w 0 4 = 0 then s
  else s.command gzRegs (fun s =>
    let (s, a) := s.gzPerform 2 0 (s.gzWindowMsg w)
    let s := if a.data.isEmpty then s else s.setGzData a.data
    s.setReg Reg.GL_GZ_STATUS (pack [(1, 0), (1, bitN a.last), (6, 0), (8, a.result), (6, a.data.length), (10, 0),
      (32, s.rf Reg.GL_GZ_STATUS 32 32 + 1)]))

/-- The window command names the vendor test range in TEST. -/
def State.windowVendor (s : State) : Bool := s.gzVendor (s.rf Reg.GL_GZ_SEL 0 16)

end Sys2Proof.Machine
end

