-- ==== Sys2Proof/Machine/RegWindow.lean ====
section
/-!
DEFINITION. Reads and writes of the register window (R6 to R9, R56 to R58): which writes start a command or have an effect of their
own, the access codes of every other register, register requests of the fabric and register messages of the companion.
-/

namespace Sys2Proof.Machine

/-! ### Reading (R7) -/

/-- What a register reads, and the state with its RC fields cleared. -/
def State.readReg (s : State) (off : Nat) : Word × State :=
  let v := s.peek off
  match Reg.rowOf off with
  | none => (v, s)
  | some r =>
    if r.rc = 0 then (v, s)
    else
      let s := s.setReg off (s.reg off &&& ~~~ BitVec.ofNat 64 r.rc)
      let d := (off - 0x10_0000) / 0x4_0000
      (v, if 0x10_0000 ≤ off ∧ off = Reg.BS_SLU_BUF d ∧ d < 4 then
          { s with sluice := { s.sluice with lowRead := withBit s.sluice.lowRead d } } else s)

/-- The sixteen registers of a line read in ascending offset. -/
def State.readRegLine (s : State) (off : Nat) : Line × State :=
  let base := off / 128 * 128
  let (ws, s) := (List.range 16).foldl (fun (a : List Word × State) i =>
    let (v, s) := a.2.readReg (base + 8 * i)
    (a.1 ++ [v], s)) ([], s)
  (lineOfWords ws, s)

/-! ### Writing -/

/-- RW bits take the value, W1C bits written 1 clear, every other bit stays (R7, R9). -/
def State.plainWrite (s : State) (off : Nat) (v : Word) : State := match Reg.rowOf off with
  | none => s
  | some r =>
    let rw := BitVec.ofNat 64 r.rw
    let w1c := BitVec.ofNat 64 r.w1c
    if r.rw = 0 ∧ r.w1c = 0 then s else s.setReg off (((s.reg off &&& ~~~ rw) ||| (v &&& rw)) &&& ~~~ (v &&& w1c))

/-- Registers of the global block whose write does more than Table 0-1 says. -/
def State.writeGlobal (s : State) (off : Nat) (v : Word) : State :=
  match off with
  | 0x2000 => s.parcelCommand v
  | 0x2100 => s.ctxCommand v
  | 0x2118 => s.mgmtTagWrite v
  | 0x2218 => s.xinvCommand v
  | 0x2300 => s.trvModeWrite (field v 0 1 == 1)
  | 0x2318 => s.trvCommand v
  | 0x2500 => s.cportCommand v
  | 0x2600 => s.atlasCommand v
  | 0x2800 => s.insetCfgWrite v
  | 0x2808 => s.memberCommand v
  | 0x2900 => s.orderCommand v
  | 0x2A00 => s.routeCommand v
  | 0x2B08 => s.thoitEnable v
  | 0x2C00 => s.moveCommand v
  | 0x2C38 => s.lendCommand v
  | 0x2D00 => s.custodyCommand v
  | 0x2E08 => s.gzCommand v
  | 0x2F00 => s.joinCommand v
  | 0x2FC0 => s.modeCommand v
  | 0x2FD8 => s.commonsCommand v
  | 0x3000 => s.svyCommand v
  | _ => s.plainWrite off v

/-- Registers of a tenant block: the queue pairs of Table 12-1, fences and the reset of Table 12-7. -/
def State.writeTenant (s : State) (off : Nat) (v : Word) : State :=
  let t := (off - 0x100_0000) / 0x1_0000
  let o := (off - 0x100_0000) % 0x1_0000
  let q := o / 64
  if o < 0x1000 then
    match o % 64 with
    | 0x00 | 0x08 | 0x10 => match Reg.rowOf off with
      | some r => s.qpConfigWrite t off q v (BitVec.ofNat 64 r.rw)
      | none => s
    | 0x18 => s.qpCtrlWrite t q (field v 0 1 == 1)
    | 0x20 => s.doorbell t q (field v 0 16)
    | 0x30 => s.cqHeadWrite t q (field v 0 16)
    | _ => s
  else if o = 0x3000 then s.fenceCommand t v
  else if o = 0x3008 then s.resetCommand t v
  else s.plainWrite off v

/-- A register written by an admitted writer. -/
def State.writeReg (s : State) (off : Nat) (v : Word) : State :=
  if off % 8 ≠ 0 then s
  else if off < 0x10_0000 then s.writeGlobal off v
  else if off < 0x20_0000 then
    let d := (off - 0x10_0000) / 0x4_0000
    let o := (off - 0x10_0000) % 0x4_0000
    if o = 0x1000 then s.tideCommand d v
    else if 0x2_0000 ≤ o ∧ o < 0x3_0000 then s.mapEntryWrite d ((o - 0x2_0000) / 8) v
    else s.plainWrite off v
  else if off < 0x2C_0000 then
    let k := (off - 0x20_0000) / 0x1_0000
    let o := (off - 0x20_0000) % 0x1_0000
    if 0x100 ≤ o ∧ o < 0x180 then s.chanCfgWrite (16 * k + (o - 0x100) / 8) (field v 0 3) (field v 3 1 == 1)
    else if o = 0x200 then s.forceHotWrite k (field v 3 1 == 1)
    else s.plainWrite off v
  else if 0x30_0000 ≤ off ∧ off < 0x3C_0000 then
    let p := (off - 0x30_0000) / 0x4000
    let o := (off - 0x30_0000) % 0x4000
    if o = 8 then s.linkCfgWrite p (field v 0 1 == 1) (field v 1 1 == 1)
    else if 0x2000 ≤ o then (s.plainWrite off v).floorCheck p
    else s.plainWrite off v
  else if 0x100_0000 ≤ off ∧ off < 0x500_0000 then s.writeTenant off v
  else s.plainWrite off v

/-- The offset lies in 0x3000 to 0x3FFF of a tenant block, which only the management tag and the companion write (R323). -/
def privileged (off : Nat) : Bool :=
  decide (0x100_0000 ≤ off) && decide (off < 0x500_0000) && decide (0x3000 ≤ (off - 0x100_0000) % 0x1_0000) &&
    decide ((off - 0x100_0000) % 0x1_0000 < 0x4000)

/-- The writer is one of a slot's own tags, not the management tag. -/
def State.slotWriter (s : State) : Writer → Bool
  | .tag t => !s.isMgmt t
  | _ => false

/-- A write made by an admitted writer: a slot's own write to the privileged range is discarded and counted in PRIV (R323). -/
def State.writeBy (s : State) (w : Writer) (off : Nat) (run : State → State) : State :=
  if s.slotWriter w && privileged off then s.bump (Reg.TN_CNT_DROPS ((off - 0x100_0000) / 0x1_0000)) 32 32 1 else run s

/-- The registers of a line in the order a write applies them: ascending (R57), GL_PARCEL_ARG before the command it belongs
to (R48). -/
def lineOrder (base : Nat) : List Nat :=
  if base = Reg.GL_PARCEL_CMD then 1 :: 0 :: (List.range 14).map (· + 2) else List.range 16

/-- A masked line write: the registers with all eight byte-enables set, in order (R48, R57). -/
def State.writeRegLine (s : State) (w : Writer) (off : Nat) (data : Line) (mask : Mask) : State :=
  let base := off / 128 * 128
  s.forEach (lineOrder base) (fun s i =>
    if wordMask mask i = 0xFF then s.writeBy w (base + 8 * i) (fun s => s.writeReg (base + 8 * i) (lineWord data i)) else s)

/-- A writer's path works: ports and the Thoit link outside HALTED (R131), the Thoit link outside boot mode (R312), the
management bus under the checks of a gazetteer WRITE (R457, R509). -/
def State.pathWorks (s : State) : Writer → Bool
  | .tag _ => s.serving
  | .companion => s.serving && !s.bootMode
  | .bus => s.serving && s.boot.accepted && s.alarm == 0

/-- The register of a command row written by its writer, where R49 and R58 allow it (mirror: the management bus reaches it
through a gazetteer entry). -/
def State.writeAs (s : State) (w : Writer) (off : Nat) (mirror : Bool) (run : State → State) : State :=
  if s.pathWorks w && s.admits w off mirror then s.writeBy w off run else s

/-! ### Register requests (R57, R58) -/

/-- The offset within the register window a request names. -/
def regOffset (f : Frame) : Nat := f.addr.toNat - regBase

/-- A request of the register window past its arrival: class, flag rules, who may (R58), which type (R57), then performed. -/
def State.checkRegReq (s : State) (f : Frame) (o : Origin) : State × Receipt :=
  let cls := s.classify f o
  let off := regOffset f
  if cls = .beyond then (s.bump (Reg.BS_ORDER_BEYOND o.die) 0 64 1).refuseReq f o stRetry true
  else if flagsBad f then s.refuseReq f o stNoParcel false
  else match s.checkRegister f.ctx off with
  | .refuse st => s.refuseReq f o st true
  | .allow _ =>
    if f.typ = 0x12 then
      let (l, s) := s.readRegLine off
      (s.respond f o 0x51 stOk 0 l, { code := 1 })
    else if f.typ = 0x19 then
      let s := s.writeRegLine (.tag f.ctx) off f.data f.mask
      let s := if cls = .window then s.retire (sourceKey f o) f.seq
               else if cls = .behind then s.bump (Reg.BS_ORDER_REISSUE o.die) 0 64 1 else s
      (s.respond f o 0x50 stOk 0 0, { code := 1 })
    else s.refuseReq f o stNoParcel false

/-- A request for this Golik, from its arrival: the register window or the memory window. -/
def State.request (s : State) (f : Frame) (o : Origin) : State × Receipt :=
  if f.ver = 1 && inRegisters f then
    if s.fromLost f o then s.refuseReq f o stContext false else s.checkRegReq f o
  else s.homeRequest f o

/-- The request would write GL_GZ_CMD with a vendor test index in TEST (R460, R533). -/
def State.regVendor (s : State) (off : Nat) (data : Line) (mask : Mask) : Bool :=
  let idx := if wordMask mask 0 = 0xFF then field (lineWord data 0) 0 16 else s.rf Reg.GL_GZ_SEL 0 16
  decide (off / 128 = Reg.GL_GZ_CMD / 128) && wordMask mask 1 == 0xFF && decide (field (lineWord data 1) 0 4 ≠ 0) && s.gzVendor idx

/-- The vendor case of a fabric request. -/
def State.requestVendor (s : State) (f : Frame) : Bool :=
  f.typ == 0x19 && f.ver == 1 && inRegisters f && s.isMgmt f.ctx && s.regVendor (regOffset f) f.data f.mask

/-! ### Register messages (R311) -/

/-- The offset of a register message lies in the register window. -/
def regMsgIn (f : Frame) : Bool := decide (f.addr.toNat < 2 ^ 28)

/-- An answer of the register window to the companion. -/
def State.regAnswer (s : State) (f : Frame) (typ status : Nat) (data : Line) : State :=
  { s with thoit := { s.thoit with
      answers := s.thoit.answers ++ [{ typ := BitVec.ofNat 8 typ, seq := f.seq, addr := f.addr, status := BitVec.ofNat 8 status, data := data }] } }

/-- REG_READ. -/
def State.regRead (s : State) (f : Frame) : State :=
  if regMsgIn f then
    let (l, s) := s.readRegLine f.addr.toNat
    s.regAnswer f 0xA5 stOk l
  else s.regAnswer f 0xA5 stNoParcel 0

/-- REG_WRITE. -/
def State.regWrite (s : State) (f : Frame) : State :=
  if regMsgIn f then (s.writeRegLine .companion f.addr.toNat f.data f.mask).regAnswer f 0xA6 stOk 0
  else s.regAnswer f 0xA6 stNoParcel 0

end Sys2Proof.Machine
end

