-- ==== Sys2Proof/Machine/Messages.lean ====
section
/-!
DEFINITION. What arrives from outside: frames on a Speger port, taken by their type where they are for this Golik (R244, R255,
R272), and the companion's messages with the receipts they get (R302 to R308, R312).
-/

namespace Sys2Proof.Machine

/-! ### Frames on a port -/

/-- A request taken at a port keeps its credits until it is admitted (R112, R247); finish returns them. -/
def State.holdCredits (s : State) (p : Nat) (f : Frame) : State :=
  let x := s.port p
  s.setPort p { x with held := mput 0 x.held f.vc.toNat (mget 0 x.held f.vc.toNat + f.credits) }

/-- A frame for this Golik, by its type; whether its credits stay held. -/
def State.ownFrame (s : State) (p : Nat) (f : Frame) : State × Bool :=
  let t := f.typ.toNat
  let o : Origin := .port p
  if 0x10 ≤ t ∧ t ≤ 0x1C then (((s.request f o).1).holdCredits p f, true)
  else if t = 0x42 then (s.grantAck f o, false)
  else if t = 0x46 ∨ t = 0x47 then (s.probeAnswer f o, false)
  else if t = 0x43 ∨ t = 0x44 ∨ t = 0x45 then (s.probeArrives f, false)
  else if t = 0x60 then (s.offerArrives f o, false)
  else if t = 0x62 then (s.releaseArrives f o, false)
  else if t = 0x83 then (s, false)
  else (s.responseArrives f o, false)

/-- A frame that has passed the port: for this Golik, or for the sluice, which switches it or carries it to the inset (R190, R272). -/
def State.takeFrame (s : State) (p : Nat) (f : Frame) : State × Bool :=
  if s.isSelf f.dst then s.ownFrame p f else s.sluiceEnter p f

/-- Nothing of an input and VC is on its way to an internal output or waits in the port buffer. -/
def State.wayIdle (s : State) (p o v : Nat) : Bool :=
  let q := s.voq (voqKey p o v)
  q.chip.isEmpty && q.cist.isEmpty && !(s.sluice.fly ++ s.sluice.cross).any (fun c => c.key == voqKey p o v)
    && !s.sluice.blocked.any (fun x => x.1 == p && x.2.vc.toNat == v)

/-- A captured frame taken with its crossing: where its way through the sluice is idle the four cell times of it are over as the command
is performed (notes assumption 30); behind other frames it waits its turn there (R274). -/
def State.takeMember (s : State) (p : Nat) (f : Frame) : State × Bool :=
  if s.isSelf f.dst || !s.captures f || !s.wayIdle p (48 + f.line % 4) f.vc.toNat then s.takeFrame p f else (s.capture p f, false)

/-- A MASK on a port: it completes the data frame that waits for it, or is discarded (R245). -/
def State.maskIn (s : State) (p : Nat) (f : Frame) : State :=
  let x := s.port p
  match x.half with
  | some d =>
    if s.portTakes p && d.vc == f.vc then
      let s : State := s.setPort p { x with half := none }
      s.arriveAs p { d with mask := f.mask } 1 (fun s => s.takeFrame p { d with mask := f.mask })
    else badTypeFrameRxStep p 0x1F f.vc s
  | none => badTypeFrameRxStep p 0x1F f.vc s

/-- A frame of a type received on a port. -/
def State.frameIn (s : State) (p : Nat) (f : Frame) : State :=
  let t := f.typ.toNat
  if t = 0x80 then s.discoverRx p f
  else if t = 0x81 then s.discoverAnsRx p f
  else if t = 0x82 then s.assignIdRx p f
  else if t = 0x1F then s.maskIn p f
  else if !knownType (decide (s.mode = .test)) t then badTypeFrameRxStep p t f.vc s
  else s.arrive p f (fun s => s.takeFrame p f)

/-! ### The companion's messages -/

/-- Receipts of Table 11-5. -/
def accepted : Receipt := { code := 1 }
def refusedMsg : Receipt := { code := 4, status := BitVec.ofNat 8 stNoParcel }

/-- A message of a type of Table 11-3 that travels to the Golik. -/
def toGolik (t : Nat) : Bool :=
  isRequest t && t != 0x16 && t != 0x17 || [0x46, 0x47, 0xA1, 0xA3, 0xA4, 0xAA, 0xAC, 0xAD].contains t

/-- Messages to the Golik that carry a payload. -/
def carriesPayload (t : Nat) : Bool := [0x14, 0x18, 0x19, 0x1A, 0x1B, 0x1C, 0x47, 0xA1, 0xA4, 0xAA, 0xAC].contains t

/-- A message that is followed by its MASK. -/
def maskedMsg (t : Nat) : Bool := t == 0x19 || t == 0x1B || t == 0xA4

/-- A message discarded and counted (R303, R304). -/
def State.badMsg (s : State) : State := s.bump Reg.GL_THOIT_COUNTS 0 16 1

/-- The translation answers of an XANS (Table 3-7). -/
def State.xansMsg (s : State) (f : Frame) : State :=
  s.forEach (List.range (min 4 (f.aux.toNat % 8))) (fun s i =>
    let w := lineWord f.data (4 * i)
    s.xanswer (field w 0 16) (field w 16 2) (field w 18 1 == 1) (BitVec.ofNat 4 (field w 20 4)) (lineWord f.data (4 * i + 1)).toNat)

/-- A message in boot mode: image messages, and REG_READ of the global block (R312). -/
def State.bootMsg (s : State) (f : Frame) : State × Receipt :=
  let t := f.typ.toNat
  if t = 0xAC then s.imageMsg f.addr f.data
  else if t = 0xAD then s.imageEnd (f.aux.toNat % 2 ^ 32)
  else if t = 0xA3 ∧ f.addr.toNat < 0x10_0000 then (s.regRead f, accepted)
  else (s, refusedMsg)

/-- A message of a type the companion may send, in service. -/
def State.serviceMsg (s : State) (g : Nat) (f : Frame) : State × Receipt :=
  let t := f.typ.toNat
  if isRequest t then s.request { f with src := 0, dst := s.selfId, vc := 0 } (.group g)
  else if t = 0x46 ∨ t = 0x47 then (s.probeAnswer f (.group g), accepted)
  else if t = 0xA1 then (s.xansMsg f, accepted)
  else if t = 0xA3 then (s.regRead f, accepted)
  else if t = 0xA4 then (s.regWrite f, accepted)
  else if t = 0xAA then (s.t2Answer f, accepted)
  else if t = 0xAC then s.imageMsg f.addr f.data
  else s.imageEnd (f.aux.toNat % 2 ^ 32)

/-- A message, and its receipt. -/
def State.message (s : State) (g : Nat) (f : Frame) : State × Option Receipt :=
  if !toGolik f.typ.toNat then (s.badMsg, none)
  else
    let (s, r) := if s.bootMode then s.bootMsg f else s.serviceMsg g f
    (s, some r)

/-- The companion's running cycle: the Golik's cycle of a number begins 44 ns, eleven cycles, after the companion's (R306). -/
def Group.rxCycle (x : Group) : Nat := (x.cycle + 11) % 65536

/-- A receipt owed for entry i of the companion's running cycle. -/
def State.owe (s : State) (g i : Nat) (r : Receipt) : State :=
  let x := s.group g
  s.setGroup g { x with receipts := mset x.receipts (12 * x.rxCycle + i) r }

/-- The messages of a flit from position i on: one with a payload stands at M0, a MASK takes the position after its data
message, and a position of zeros is empty (R302, R303). -/
def flitGo (g slot : Nat) : Nat → List Frame → State → State
  | _, [], s => s
  | i, f :: rest, s =>
    let t := f.typ.toNat
    let next := i + (if maskedMsg t then 2 else 1)
    if 4 ≤ i then s
    else if t = 0 then flitGo g slot next rest s
    else if carriesPayload t && decide (0 < i) then flitGo g slot next rest s.badMsg
    else match s.message g f with
      | (s, some r) => flitGo g slot next rest (s.owe g (4 * slot + i) r)
      | (s, none) => flitGo g slot next rest s

/-- A good flit counted and its messages taken; a masked write without its MASK is discarded and counted (R303). -/
def State.flitTaken (s : State) (g slot : Nat) (m : Flit) : State :=
  let x := s.group g
  let s := s.setGroup g { x with rx := x.rx + 1 }
  match m.msgs with
  | f :: rest => if m.noMask && maskedMsg f.typ.toNat then flitGo g slot 1 rest s.badMsg else flitGo g slot 0 m.msgs s
  | [] => s

/-- THOIT_FLIT_RX (R302, R310): an idle flit is not sequenced; a bad one, and every one after it until a replay, is
discarded. A replay resends from slot 0 of the cycle whose control half announces it, so flits of the running cycle are kept until then. -/
def State.flitIn (s : State) (g slot : Nat) (m : Flit) : State :=
  if !s.serving || !s.groupUp g then s
  else
    let x := s.group g
    let kept := if x.discarding then mset x.unsure slot m else x.unsure
    if !m.good then s.setGroup g { x with discarding := true, nak := true, unsure := kept, fresh := x.fresh || !x.discarding }
    else if m.msgs.isEmpty || m.msgs.head?.any (fun f => f.typ == 0) then s
    else if x.discarding then s.setGroup g { x with unsure := kept }
    else s.flitTaken g slot m

/-- Kept flits accepted again in slot order, up to a bad one. -/
def unsureGo (g : Nat) : List (Nat × Flit) → State → State
  | [], s => s.setGroup g { s.group g with discarding := false }
  | e :: rest, s => if e.2.good then unsureGo g rest (s.flitTaken g e.1 e.2) else s

/-- A control half ends a cycle: a REPLAY whose START is the own count as the cycle began has its flits accepted again from slot 0
on; with another START they are discarded (R310). -/
def State.replayIn (s : State) (g : Nat) (m : ControlHalf) : State :=
  if s.serving && s.groupUp g then
    let x := s.group g
    let s := s.setGroup g { x with unsure := [] }
    let s :=
      if !m.replay then s
      else if m.start.toNat ≠ x.cycleRx % 65536 then s.setGroup g { s.group g with discarding := true }
      else if x.discarding && !x.fresh then unsureGo g x.unsure s
      else s
    s.setGroup g { s.group g with cycleRx := (s.group g).rx, fresh := false }
  else s

/-- The first free receipt entry of a group's running cycle. -/
def State.freeEntry (s : State) (g : Nat) : Nat :=
  let x := s.group g
  ((List.range 12).find? (fun i => (mfind x.receipts (12 * x.rxCycle + i)).isNone)).getD 12

/-- One message on a group, outside the flit that carries it (notes assumption 31). -/
def State.messageIn (s : State) (g : Nat) (f : Frame) : State :=
  if s.serving && s.groupUp g then
    let i := s.freeEntry g
    match s.message g f with
    | (s, some r) => if i < 12 then s.owe g i r else s
    | (s, none) => s
  else s

/-- A request, probe answer or GrantAck that arrives by a port or a group. -/
def State.arriveVia (s : State) (v : Via) (f : Frame) : State := match v with
  | .port p => s.frameIn p f
  | .group g => if f.typ = 0x42 then (if s.serving && s.groupUp g then s.grantAck f (.group g) else s) else s.messageIn g f

/-- The group a register message takes (R295, R311). -/
def regGroup (f : Frame) : Nat := f.addr.toNat / 128 % 2

/-- The group a message with no line takes: A where it is up (R295). -/
def State.anyGroup (s : State) : Nat := if s.groupUp 0 then 0 else 1

end Sys2Proof.Machine
end

