-- ==== Sys2Proof/Machine/Finish.lean ====
section
/-!
DEFINITION. What follows from a command before the next one: everything the Golik does on its own with what the command left to
be done, until nothing is left; and a period of idling.
-/

namespace Sys2Proof.Machine

/-- What the array has done, handed to whom it concerns. -/
def State.actOn (s : State) : Act → State
  | .eread b data ue => s.eReturned b data ue
  | .erefused b kind => s.eRefused b kind
  | .again f o => (s.homeRequest f o).1
  | .returned r data ue => if r.use = .copyRead then s.copyReturned r.line data ue else s.onAct (.returned r data ue)
  | .failed r status =>
    if r.use = .copyRead ∨ r.use = .copyWrite then s.copyFailed r.line status else s.onAct (.failed r status)
  | a => s.onAct a

/-- Every act taken. -/
def State.actsGo (s : State) : State :=
  let l := s.acts
  if l.isEmpty then s else ({ s with acts := [] }).forEach l State.actOn

/-- Every line with a transaction carried on. -/
def State.linesGo (s : State) : State :=
  s.forEach (s.txns.map (·.1)) (fun s k => if isInsetKey k then s.insetAdvance k else s.advance k)

/-- The issuer inside whose request a frame is. -/
def State.issuerOf (s : State) (f : Frame) : Option Eng :=
  (s.out.find? (fun r => r.f == f)).bind (fun r => match r.purpose with
    | .eng e => some e
    | _ => none)

/-- An ACCEPT of this Golik to itself goes to the offer it answers. -/
def State.selfAccept (s : State) (e : Eng) : State := match s.ans.find? (fun a => !a.settled && a.f.typ == 0x61) with
  | some a => ({ s with ans := s.ans.erase a }).responseArrives a.f (.eng e)
  | none => s

/-- A frame the internal output of a die has delivered. -/
def State.delivered (s : State) (f : Frame) : State :=
  let t := f.typ.toNat
  match s.issuerOf f with
  | some e =>
    if t = 0x60 then (s.offerArrives f (.eng e)).selfAccept e
    else if t = 0x62 then s.releaseArrives f (.eng e)
    else (s.request f (.eng e)).1
  | none =>
    if t = 0x43 ∨ t = 0x44 ∨ t = 0x45 then s.probeArrives f
    else match (s.matchOut f).map OutReq.purpose with
      | some (.eng e) => s.responseArrives f (.eng e)
      | some _ => s.responseArrives f (.eng (.move 0 0))
      | none => s

/-- Every frame the internal outputs delivered taken: a captured one by the inset (R272), one of the Golik's own by the Golik. -/
def State.deliveredGo (s : State) : State :=
  let l := s.sluice.deliver
  if l.isEmpty then s
  else ({ s with sluice := { s.sluice with deliver := [] } }).forEach l (fun s x => if x.1 < 48 then s.capture x.1 x.2 else s.delivered x.2)

/-- Credits of a VC that requests of a port hold while they wait at their channels' ingress (R112, R247). -/
def State.creditsWanted (s : State) (p v : Nat) : Nat :=
  s.txns.foldl (fun a e =>
    if e.1 < 2 ^ 34 ∧ s.waitsAtIngress e.1 then
      a + e.2.foldl (fun b t => match t.work with
        | .req f (.port p') _ _ => if p' = p ∧ f.vc.toNat = v then b + f.credits else b
        | _ => b) 0
    else a) 0

/-- Credits of requests that have moved on returned. -/
def State.creditsGo (s : State) : State :=
  s.forEach (s.ports.filter (fun e => !e.2.held.isEmpty)) (fun s e =>
    s.forEach e.2.held (fun s h =>
      let want := min h.2 (s.creditsWanted e.1 h.1)
      let s := s.setPort e.1 { s.port e.1 with held := mput 0 (s.port e.1).held h.1 want }
      s.freeCredits e.1 h.1 (h.2 - want)))

/-- What is still to be done. -/
def State.unfinished (s : State) : Bool := !s.acts.isEmpty || !s.sluice.deliver.isEmpty || s.ans.any (fun a => !a.settled)

/-- One round of everything. -/
def State.round (s : State) : State :=
  let s := s.actsGo.uprobesGo.linesGo.settleAns.ringAnswers.deliveredGo
  let s := s.offersGo.cascadesGo.movesGo.gaugesGo.jetsGo.parkedGo
  let s := s.fencesGo.fencedGo.thoitGo.cportSweep.memberSweep
  let s := s.forEach (s.qps.map (·.1)) (fun s k => s.qpSettle (k / 64) (k % 64))
  s.creditsGo

/-- Rounds until nothing is left. -/
def finishGo : Nat → State → State
  | 0, s => s
  | fuel + 1, s =>
    let s := s.round
    if s.unfinished then finishGo fuel s else s

/-- The end of a command. -/
def State.finish (s : State) : State := if s.alive then finishGo 64 s else s

/-- The next state a command leaves. -/
def ends (s : State) : Host.Outcome State Fault Refusal := .next s.finish

/-! ### Idling (notes assumption 1) -/

/-- A bench-clock period on an empty queue: 40 ns pass, and each bus sends an event frame that waits (R455). -/
def State.idle (s : State) : State :=
  let s : State := { s with now := s.now + 40 }
  if s.alive then (s.drainBus .a).drainBus .b else s

end Sys2Proof.Machine
end

