-- ==== Sys2Proof/Machine/Rows.lean ====
section
/-!
DEFINITION. What the meanings of the commands share: when a command has an effect at all, the words of the command registers
with several fields, the message of a single translation answer, and the vendor test cases of R533.
-/

namespace Sys2Proof.Machine

/-- The command has its effect while the Golik serves (R21, R131, R484, R491); HALTED or unpowered, nothing follows. -/
def whileServing (s : State) (run : State → State) : Host.Outcome State Fault Refusal := ends (if s.serving then run s else s)

/-- The command has its effect while the Golik is powered and out of reset. -/
def whileAlive (s : State) (run : State → State) : Host.Outcome State Fault Refusal := ends (if s.alive then run s else s)

/-- The number a source's records stand under (R218): the device ID, or 16384 for the companion. -/
def sourceNumber : Source → Nat
  | .device d => d.toNat
  | .companion => 16384

/-- A probe type (Table 9-3): ProbeInv 0x43, ProbeShare 0x44, ProbeFetch 0x45; any other number is read as ProbeInv. -/
def probeType (t : BitVec 8) : BitVec 8 := if t = 0x44 then 0x44 else if t = 0x45 then 0x45 else 0x43

/-- The word of GL_PARCEL_CMD GRANT (Table 2-4). -/
def grantWord (g : GrantArgs) : Word :=
  pack [(4, 1), (11, g.parcel.val), (1, 0), (10, g.tenant.val), (6, 0), (4, g.rights.toNat), (1, bitN g.broad), (1, bitN g.guarded),
    (2, g.tier.toNat), (4, g.stack.toNat)]

/-- An XANS with one answer (Table 3-7). -/
def xansFrame (reqId : BitVec 16) (result : BitVec 2) (size : Bool) (perm : BitVec 4) (base : Word) : Frame :=
  { typ := 0xA1, aux := 1,
    data := lineOfWords [pack [(16, reqId.toNat), (2, result.toNat), (1, bitN size), (1, 0), (4, perm.toNat)], base] }

/-- The group a register or T2 message comes by: the one its line names, or the other where that one is not up (R295). -/
def State.msgGroup (s : State) (f : Frame) : Nat := if s.groupUp (regGroup f) then regGroup f else 1 - regGroup f

/-- LUI: IMM goes to the upper half of X(D). -/
def State.jetLui (s : State) (j r : Nat) (f : ScalarSlot) : State :=
  s.jetScalar j r 1 f (fun _ _ => f.imm ++ ((s.task j r).regs.getX f.d.toNat).setWidth 32)

/-- A frame of a vendor test type that a port takes in TEST (R244, R533). -/
def State.vendorFrame (s : State) (p typ : Nat) : Bool := s.mode == .test && decide (0xF0 ≤ typ) && s.portTakes p

/-- A message the companion sends on a group would name a vendor test index in TEST. -/
def State.messageVendor (s : State) (g : Nat) (f : Frame) : Bool :=
  s.serving && s.groupUp g && !s.bootMode
    && ((f.typ == 0xA4 && regMsgIn f && s.regVendor f.addr.toNat f.data f.mask) || s.requestVendor { f with vc := 0 })

/-- The same of a frame that arrives by a port or a group. -/
def State.frameVendor (s : State) (v : Via) (f : Frame) : Bool := match v with
  | .port p => s.portTakes p && s.isSelf f.dst && s.requestVendor f
  | .group g => s.messageVendor g f

/-- The same of the messages of a flit. -/
def State.flitVendor (s : State) (g : Nat) (m : Flit) : Bool :=
  m.good && !(s.group g).discarding && m.msgs.any (fun f => s.messageVendor g f)

/-- The writer reaches the window registers of the gazetteer (R459). -/
def State.windowOpen (s : State) (w : Writer) : Bool := s.pathWorks w && s.admits w Reg.GL_GZ_CMD false

/-- A register write that would start a window command on a vendor test index in TEST. -/
def State.registerVendor (s : State) (w : Writer) (off : Nat) (v : Word) : Bool :=
  s.windowOpen w && decide (off = Reg.GL_GZ_CMD) && decide (field v 0 4 ≠ 0) && s.windowVendor

/-- Registers the gazetteer mirrors whole (R458, Table 17-7). -/
def mirrored (off : Nat) : Bool :=
  [Reg.GL_PARCEL_CMD, Reg.GL_MGMT_TAG, Reg.GL_TRV_MODE, Reg.GL_INSET_CFG, Reg.GL_MODE_CMD, Reg.GL_COMMONS_CMD].contains off
    || (List.range 16).any (fun i => off == Reg.GL_COMMONS_LIST i)

/-- A whole gazetteer value written in one segment by a writer, under the checks of R452 and R457, with no transfer left
open (R499, R511, R526): the management bus as bus A and manager 1, any other writer as the window. -/
def State.entryWrite (s : State) (w : Writer) (idx sub : Nat) (bytes : List Byte) : State :=
  let bus := w == .bus
  let m : GzMsg := { op := opWrite, idx := idx, sub := sub, last := true, count := bytes.length, data := bytes }
  if !(if bus then s.busOn .a else s.windowOpen w) then s
  else if s.gzCheck (bitN bus) m ≠ gzOk then s
  else match s.gzEntry idx sub with
    | none => s
    | some e => (s.gzWrite (if bus then 0 else 2) (bitN bus) idx sub e bytes).1

end Sys2Proof.Machine
end

