-- ==== Sys2Proof/Machine/RowsControl.lean ====
section
/-!
DEFINITION. Meanings of the commands of the control slot of a bundle.
-/

namespace Sys2Proof.Machine

/-- BR (R347, R345): Unconditional branch within the leg. -/
def execBr (j : Fin 104) (f : ControlSlot) (s : State) : Host.Outcome State Fault Refusal :=
  whileServing s (fun s => s.jetIssue j.val 3 (controlBits 0x01 f).toNat (fun s r => s.jetBr j.val r f (fun _ => true)))

/-- BNZ (R347): Branch if a scalar register is non-zero. -/
def execBnz (j : Fin 104) (f : ControlSlot) (s : State) : Host.Outcome State Fault Refusal :=
  whileServing s (fun s => s.jetIssue j.val 3 (controlBits 0x02 f).toNat (fun s r => s.jetBr j.val r f (fun x => decide (x ≠ 0))))

/-- BZ (R347): Branch if a scalar register is zero. -/
def execBz (j : Fin 104) (f : ControlSlot) (s : State) : Host.Outcome State Fault Refusal :=
  whileServing s (fun s => s.jetIssue j.val 3 (controlBits 0x03 f).toNat (fun s r => s.jetBr j.val r f (fun x => decide (x = 0))))

/-- LOOP (R347): Start a counted loop. -/
def execLoop (j : Fin 104) (f : ControlSlot) (s : State) : Host.Outcome State Fault Refusal :=
  whileServing s (fun s => s.jetIssue j.val 3 (controlBits 0x04 f).toNat (fun s r => s.jetLoop j.val r f))

/-- LEGEND (R352, R347, R356, R357): End the leg, with optional yield and choice of next leg or task end. -/
def execLegend (j : Fin 104) (f : ControlSlot) (s : State) : Host.Outcome State Fault Refusal :=
  whileServing s (fun s => s.jetIssue j.val 3 (controlBits 0x08 f).toNat (fun s r => s.jetLegend j.val r f))

/-- GWAIT (R359, R228, R352): End the leg and wait on a gauge threshold with a timeout. -/
def execGwait (j : Fin 104) (f : ControlSlot) (s : State) : Host.Outcome State Fault Refusal :=
  whileServing s (fun s => s.jetIssue j.val 3 (controlBits 0x09 f).toNat (fun s r => s.jetGwait j.val r f))

/-- WAITFC (R334): Hold the next bundle until the fetch counter reaches a value. -/
def execWaitfc (j : Fin 104) (f : ControlSlot) (s : State) : Host.Outcome State Fault Refusal :=
  whileServing s (fun s => s.jetIssue j.val 3 (controlBits 0x0A f).toNat (fun s r => s.jetWaitfc j.val r f))

end Sys2Proof.Machine
end

