-- ==== Sys2Proof/Machine/RowsEmb.lean ====
section
/-!
DEFINITION. Meanings of the commands of embedding tables.
-/

namespace Sys2Proof.Machine

/-- TABLE_OPEN (R371, R366): Open an embedding table and bind it to the queue pair's tag. -/
def execTableOpen (t : Fin 1024) (q : Fin 64) (s : State) : Host.Outcome State Fault Refusal :=
  whileServing s (fun s => s.tableOpen t.val q.val)

/-- TABLE_CLOSE (R383): Close a table, discarding its update buffer, links and snapshots. -/
def execTableClose (t : Fin 1024) (q : Fin 64) (s : State) : Host.Outcome State Fault Refusal :=
  whileServing s (fun s => s.tableClose t.val q.val)

/-- GATHER (R376, R366, R367, R368, R370, R372, R373, R374): Gather rows in coalesced rounds and write pooled outputs as GWRITEs.
-/
def execGather (t : Fin 1024) (q : Fin 64) (s : State) : Host.Outcome State Fault Refusal :=
  whileServing s (fun s => s.gather t.val q.val)

/-- SCATTER_ADD (R378, R367, R370, R372, R377, R379, R384): Add gradients exactly into update-buffer accumulators. -/
def execScatterAdd (t : Fin 1024) (q : Fin 64) (s : State) : Host.Outcome State Fault Refusal :=
  whileServing s (fun s => s.scatterAdd t.val q.val)

/-- STEP_COMMIT (R380, R367, R381, R384): Hold the table and run tenant batch tasks that apply the step's updates. -/
def execStepCommit (t : Fin 1024) (q : Fin 64) (s : State) : Host.Outcome State Fault Refusal :=
  whileServing s (fun s => s.commitGo t.val q.val true)

/-- COMMIT_BATCH_END (R382, R380, R381, R384, R385, R388): A commit batch task ends; the commit proceeds, completes the epoch, or
fails the table. -/
def execCommitBatchEnd (t : Fin 1024) (q : Fin 64) (s : State) : Host.Outcome State Fault Refusal :=
  whileServing s (fun s => s.commitGo t.val q.val false)

/-- REPLICA_LINK (R385): Fill a replica link with all K rows and seal its epoch line, or unlink it. -/
def execReplicaLink (t : Fin 1024) (q : Fin 64) (s : State) : Host.Outcome State Fault Refusal :=
  whileServing s (fun s => s.replicaLink t.val q.val)

/-- SNAPSHOT (R388): Set, take or cancel a snapshot of listed rows. -/
def execSnapshot (t : Fin 1024) (q : Fin 64) (s : State) : Host.Outcome State Fault Refusal :=
  whileServing s (fun s => s.snapshot t.val q.val)

end Sys2Proof.Machine
end

