-- ==== Sys2Proof/Machine/RowsHome.lean ====
section
/-!
DEFINITION. Meanings of the commands of requests at the home, gauges, probes and coherence ports.
-/

namespace Sys2Proof.Machine

/-- READ_SHARED (R164, R16, R18, R31, R33, R36, R37, R39): A ReadShared request is checked at the home and granted, probed or
refused under Table 6-7. -/
def execReadShared (via : Via) (f : Frame) (s : State) : Host.Outcome State Fault Refusal :=
  whileServing s (fun s => s.arriveVia via { f with typ := 0x10 })

/-- READ_OWN (R164, R16, R37, R64, R66, R155, R163, R166): A ReadOwn request is checked at the home and performed on the atlas
state. -/
def execReadOwn (via : Via) (f : Frame) (s : State) : Host.Outcome State Fault Refusal :=
  whileServing s (fun s => s.arriveVia via { f with typ := 0x11 })

/-- UPGRADE (R164, R64, R66, R155, R163, R166, R167, R177): An Upgrade request is checked and granted dataless, or served as
ReadOwn. -/
def execUpgrade (via : Via) (f : Frame) (s : State) : Host.Outcome State Fault Refusal :=
  whileServing s (fun s => s.arriveVia via { f with typ := 0x13 })

/-- READ_ONCE (R164, R7, R9, R16, R18, R31, R33, R36): A ReadOnce request is checked and served from the array or a probe, or
reads a register line. -/
def execReadOnce (via : Via) (f : Frame) (s : State) : Host.Outcome State Fault Refusal :=
  whileServing s (fun s => s.arriveVia via { f with typ := 0x12 })

/-- WRITE_BACK (R164, R51, R64, R66, R155, R163, R260, R326): A WriteBack returns a line held in M or O to the home. -/
def execWriteBack (via : Via) (f : Frame) (s : State) : Host.Outcome State Fault Refusal :=
  whileServing s (fun s => s.arriveVia via { f with typ := 0x14 })

/-- EVICT_CLEAN (R164, R64, R66, R155, R163, R183, R326): An EvictClean drops a line held in S or E at the home. -/
def execEvictClean (via : Via) (f : Frame) (s : State) : Host.Outcome State Fault Refusal :=
  whileServing s (fun s => s.arriveVia via { f with typ := 0x15 })

/-- WRITE_LINE (R164, R16, R18, R36, R37, R39, R57, R58): A full-line WriteLine is checked, invalidates holders and is written in
an F slot. -/
def execWriteLine (via : Via) (f : Frame) (s : State) : Host.Outcome State Fault Refusal :=
  whileServing s (fun s => s.arriveVia via { f with typ := 0x18, isSeal := false })

/-- MASKED_WRITE_LINE (R116, R7, R8, R9, R16, R31, R37, R39): A masked WriteLine with its MASK is checked and written whole-word
or accepted into the merge buffer, or writes registers. -/
def execMaskedWriteLine (via : Via) (f : Frame) (s : State) : Host.Outcome State Fault Refusal :=
  let g : Frame := { f with typ := 0x19 };
  if s.frameVendor via g then .refused .vendorTest else whileServing s (fun s => s.arriveVia via g)

/-- SEAL_STORE (R220, R64, R66, R119, R164, R217, R218, R219): A seal store waits until its series has retired up to its number,
then is written. -/
def execSealStore (via : Via) (f : Frame) (s : State) : Host.Outcome State Fault Refusal :=
  whileServing s (fun s => s.arriveVia via { f with typ := if f.typ = 0x1A then 0x1A else 0x18, isSeal := true })

/-- GWRITE (R225, R57, R64, R66, R217, R218, R219, R233): A gauge-tagged full-line write is performed and counts in its gauge on
retirement. -/
def execGwrite (via : Via) (f : Frame) (s : State) : Host.Outcome State Fault Refusal :=
  whileServing s (fun s => s.arriveVia via { f with typ := 0x1A, isSeal := false })

/-- GMWRITE (R225, R57, R64, R66, R116, R218, R245, R257): A gauge-tagged masked write is performed and counts in its gauge on
retirement. -/
def execGmwrite (via : Via) (f : Frame) (s : State) : Host.Outcome State Fault Refusal :=
  whileServing s (fun s => s.arriveVia via { f with typ := 0x1B })

/-- ATOMIC (R231, R16, R37, R39, R57, R58, R64, R65): An atomic is looked up in the echo table and otherwise performed as one
read-modify-write. -/
def execAtomic (via : Via) (f : Frame) (s : State) : Host.Outcome State Fault Refusal :=
  whileServing s (fun s => s.arriveVia via { f with typ := 0x1C })

/-- GAUGE_INCREMENT (R226, R225, R227, R228, R359): A gauge increment reaches the gauge's die and adds to COUNT, waking gauge
waiters that reach their threshold. -/
def execGaugeIncrement (t : Fin 1024) (g : Fin 256) (s : State) : Host.Outcome State Fault Refusal :=
  whileServing s (fun s => s.gaugeIncrement t.val g.val)

/-- GAUGE_COUNT_WRITE (R226, R227): A write to TN_GAUGE_COUNT sets the gauge, taking effect before a same-cycle increment. -/
def execGaugeCountWrite (w : Writer) (t : Fin 1024) (g : Fin 256) (v : Word) (s : State) : Host.Outcome State Fault Refusal :=
  ends (s.writeAs w (Reg.TN_GAUGE_COUNT t.val g.val) false (fun s => s.plainWrite (Reg.TN_GAUGE_COUNT t.val g.val) v))

/-- SEAL_WAIT_TIMEOUT (R222): A seal store waits past the seal wait limit and is answered RETRY. -/
def execSealWaitTimeout (line : BitVec 39) (s : State) : Host.Outcome State Fault Refusal :=
  whileServing s (fun s => s.sealTimeout line.toNat)

/-- ECHO_RECORD_EXPIRY (R264): A completed echo record reaches 64 µs after its response and is dropped. -/
def execEchoRecordExpiry (die : Fin 4) (src : Source) (seq : BitVec 24) (s : State) : Host.Outcome State Fault Refusal :=
  whileServing s (fun s => s.echoExpiry die.val (sourceNumber src) seq)

/-- PROBE_ANSWER_RX (R159, R18, R51, R156, R165, R166, R174, R183): A probe answer reaches the home and advances the waiting
transaction on its line. -/
def execProbeAnswerRx (via : Via) (f : Frame) (s : State) : Host.Outcome State Fault Refusal :=
  whileServing s (fun s => s.arriveVia via { f with typ := if f.typ = 0x47 then 0x47 else 0x46 })

/-- GRANT_ACK_RX (R167, R168, R200, R203, R255): A GrantAck reaches the home and releases probes held for the grant, or is
discarded as unmatched. -/
def execGrantAckRx (via : Via) (f : Frame) (s : State) : Host.Outcome State Fault Refusal :=
  whileServing s (fun s => s.arriveVia via { f with typ := 0x42 })

/-- HOLD_END_EXPIRY (R168, R203): A line's HOLD_END passes; a request waiting to probe may proceed. -/
def execHoldEndExpiry (line : BitVec 39) (s : State) : Host.Outcome State Fault Refusal :=
  whileServing s (fun s => s.holdEndExpiry line.toNat)

/-- PROBE_OVERDUE (R169): A probe answer or GrantAck has been awaited for the overdue time; event 0x3103 is raised once. -/
def execProbeOverdue (line : BitVec 39) (port : Fin 1024) (s : State) : Host.Outcome State Fault Refusal :=
  whileServing s (fun s => s.probeOverdue line.toNat port.val)

/-- PIN_SWEEP_DONE (R176, R350): A basin die's sweep of an engine-pinned piece reaches census zero and confirms the pin. -/
def execPinSweepDone (die : Fin 4) (piece : BitVec 16) (s : State) : Host.Outcome State Fault Refusal :=
  whileServing s (fun s => s.pinSweepDone die.val piece.toNat)

/-- CPORT_SET (R156, R154): GL_CPORT_CMD SET admits a coherence port. -/
def execCportSet (w : Writer) (entry : Fin 1024) (device : BitVec 14) (kind : BitVec 2) (s : State) : Host.Outcome State Fault Refusal :=
  ends (s.writeAs w Reg.GL_CPORT_CMD false (fun s => s.cportCommand (pack [(4, 1), (10, entry.val), (2, 0), (14, device.toNat), (2, 0), (2, kind.toNat)])))

/-- CPORT_CLEAR (R156): GL_CPORT_CMD CLEAR starts recalling every line a port holds. -/
def execCportClear (w : Writer) (entry : Fin 1024) (s : State) : Host.Outcome State Fault Refusal :=
  ends (s.writeAs w Reg.GL_CPORT_CMD false (fun s => s.cportCommand (pack [(4, 2), (10, entry.val)])))

/-- CPORT_LOSE (R182, R183): GL_CPORT_CMD LOSE marks a port lost and starts the walk of Table 6-10. -/
def execCportLose (w : Writer) (entry : Fin 1024) (s : State) : Host.Outcome State Fault Refusal :=
  ends (s.writeAs w Reg.GL_CPORT_CMD false (fun s => s.cportCommand (pack [(4, 3), (10, entry.val)])))

/-- CPORT_WALK_DONE (R182, R156, R301): The store walk of CLEAR or LOSE ends; VALID clears and event 0x3102 is raised. -/
def execCportWalkDone (s : State) : Host.Outcome State Fault Refusal :=
  whileServing s (fun s => s.cportWalkEnd)

/-- CLEAR_LOST (R184): GL_ATLAS_CMD CLEAR_LOST starts walking the store to free a parcel's LOST lines. -/
def execClearLost (w : Writer) (parcel : Fin 2048) (s : State) : Host.Outcome State Fault Refusal :=
  ends (s.writeAs w Reg.GL_ATLAS_CMD false (fun s => s.atlasCommand (pack [(4, 1), (11, parcel.val)])))

/-- CLEAR_LOST_DONE (R184): The CLEAR_LOST walk ends and the parcel's lost-dirty bit clears. -/
def execClearLostDone (s : State) : Host.Outcome State Fault Refusal :=
  whileServing s (fun s => s.clearLostEnd)

end Sys2Proof.Machine
end

