-- ==== Sys2Proof/Machine/RowsInset.lean ====
section
/-!
DEFINITION. Meanings of the commands of the inset and grants, probes and responses that come to the Golik.
-/

namespace Sys2Proof.Machine

/-- INSET_CFG_WRITE (R189, R188): A write of GL_INSET_CFG enables or configures the inset, or is discarded. -/
def execInsetCfgWrite (w : Writer) (enable : Bool) (level : BitVec 2) (s : State) : Host.Outcome State Fault Refusal :=
  ends (s.writeAs w Reg.GL_INSET_CFG true (fun s => s.insetCfgWrite (pack [(1, bitN enable), (2, level.toNat)])))

/-- MEMBER_SET (R189, R188): GL_MEMBER_CMD SET admits a member. -/
def execMemberSet (w : Writer) (entry : Fin 1024) (device : BitVec 14) (kind : Bool) (s : State) : Host.Outcome State Fault Refusal :=
  ends (s.writeAs w Reg.GL_MEMBER_CMD false (fun s => s.memberCommand (pack [(4, 1), (10, entry.val), (2, 0), (14, device.toNat), (2, 0), (1, bitN kind)])))

/-- MEMBER_CLEAR (R189, R196): GL_MEMBER_CMD CLEAR starts releasing every entry that records a member. -/
def execMemberClear (w : Writer) (entry : Fin 1024) (s : State) : Host.Outcome State Fault Refusal :=
  ends (s.writeAs w Reg.GL_MEMBER_CMD false (fun s => s.memberCommand (pack [(4, 2), (10, entry.val)])))

/-- MEMBER_LOSE (R206, R199): GL_MEMBER_CMD LOSE marks a member lost and applies Table 6-10 to local entries. -/
def execMemberLose (w : Writer) (entry : Fin 1024) (s : State) : Host.Outcome State Fault Refusal :=
  ends (s.writeAs w Reg.GL_MEMBER_CMD false (fun s => s.memberCommand (pack [(4, 3), (10, entry.val)])))

/-- FLUSH_LOST (R207): GL_MEMBER_CMD FLUSH_LOST sends EvictClean upstream for locally LOST entries of a tag. -/
def execFlushLost (w : Writer) (tag : BitVec 16) (s : State) : Host.Outcome State Fault Refusal :=
  ends (s.writeAs w Reg.GL_MEMBER_CMD false (fun s => s.memberCommand (pack [(4, 4), (44, 0), (16, tag.toNat)])))

/-- MEMBER_WALK_DONE (R189, R206, R207): The walk of a member CLEAR, LOSE or FLUSH_LOST ends and event 0x3110 is raised. -/
def execMemberWalkDone (s : State) : Host.Outcome State Fault Refusal :=
  whileServing s (fun s => s.memberWalkEnd)

/-- MEMBER_CAPTURE (R198, R190, R191, R193, R194, R195, R196, R197): An inset captures a member's caching request and serves it on
its local entry. A frame of another kind is taken as it arrives. -/
def execMemberCapture (port : Fin 48) (f : Frame) (s : State) : Host.Outcome State Fault Refusal :=
  whileServing s (fun s => if s.captures f then s.arrive port.val f (fun s => s.takeMember port.val f) else s.frameIn port.val f)

/-- UPSTREAM_PROBE_RX (R201, R160, R191, R203): An upstream probe reaches the inset and is answered for the group under Table 7-5.
-/
def execUpstreamProbeRx (port : Fin 48) (f : Frame) (s : State) : Host.Outcome State Fault Refusal :=
  whileServing s (fun s => s.frameIn port.val { f with typ := probeType f.typ })

/-- GRANT_RX (R180, R167, R193, R194, R198): A grant arrives for a request the Golik made as a caching agent and is installed and
acknowledged. -/
def execGrantRx (port : Fin 48) (f : Frame) (s : State) : Host.Outcome State Fault Refusal :=
  whileServing s (fun s => s.frameIn port.val { f with typ := if f.typ = 0x41 then 0x41 else 0x40 })

/-- PROBE_RX (R179, R159, R160, R204): A probe from another home reaches the remote-line cache and is answered from its current
state. -/
def execProbeRx (port : Fin 48) (f : Frame) (s : State) : Host.Outcome State Fault Refusal :=
  whileServing s (fun s => s.frameIn port.val { f with typ := probeType f.typ })

/-- RESPONSE_RX (R255, R86, R87, R88, R90, R193, R196, R261): A response reaches the Golik as source and is matched to its
outstanding request, or discarded. -/
def execResponseRx (port : Fin 48) (f : Frame) (s : State) : Host.Outcome State Fault Refusal :=
  whileServing s (fun s => s.frameIn port.val { f with typ := if f.typ = 0x51 then 0x51 else 0x50 })

/-- REDIRECT_RX (R423): A REDIRECT reaches the Golik's own requester, which reissues the request to the new home. -/
def execRedirectRx (port : Fin 48) (f : Frame) (s : State) : Host.Outcome State Fault Refusal :=
  whileServing s (fun s => s.frameIn port.val { f with typ := 0x52 })

end Sys2Proof.Machine
end

