-- ==== Sys2Proof/Machine/RowsLeg.lean ====
section
/-!
DEFINITION. Meanings of the commands of tasks and legs on the jets.
-/

namespace Sys2Proof.Machine

/-- LEG_ADMISSION (R350, R64, R66, R70, R72, R73, R75, R87): A task begins or resumes admitting its next leg through the steps of
R350. -/
def execLegAdmission (j : Fin 104) (s : State) : Host.Outcome State Fault Refusal :=
  whileServing s (fun s => s.legAdmit j.val)

/-- LEG_START (R350, R345): An admitted leg reaches its anchor frame, or the next cycle for an open leg, and issues its first
bundle. -/
def execLegStart (j : Fin 104) (s : State) : Host.Outcome State Fault Refusal :=
  whileServing s (fun s => s.legStart j.val)

/-- LEG_END (R352, R74, R81, R176, R350, R355, R356, R357): Every access of a leg has completed; pins and leases are released and
NEXT is acted on. -/
def execLegEnd (j : Fin 104) (s : State) : Host.Outcome State Fault Refusal :=
  whileServing s (fun s => s.legEnds j.val)

/-- LEG_OVERRUN (R352): A leg runs past the leg limit and its task ends with LEG_OVERRUN. -/
def execLegOverrun (j : Fin 104) (s : State) : Host.Outcome State Fault Refusal :=
  whileServing s (fun s => s.legOverrun j.val)

/-- TASK_SWITCH_IN (R358, R84, R357, R360, R362, R480): A ready task is switched in; its state loads and its tag is checked. -/
def execTaskSwitchIn (j : Fin 104) (s : State) : Host.Outcome State Fault Refusal :=
  whileServing s (fun s => s.switchIn j.val)

/-- GWAIT_TIMEOUT (R359): A task parked at GWAIT reaches its timeout and becomes ready. -/
def execGwaitTimeout (j : Fin 104) (record : Fin 17) (s : State) : Host.Outcome State Fault Refusal :=
  whileServing s (fun s => s.gwaitTimeout j.val record.val)

/-- JET_FAILED (R364, R27, R473): A jet's self-check declares it failed; its running task ends and event 0x5201 is raised. -/
def execJetFailed (j : Fin 104) (s : State) : Host.Outcome State Fault Refusal :=
  whileServing s (fun s => s.jetFails j.val)

/-- JET_SPARE_ENABLED (R364, R27): Firmware enables a spare jet and moves the failed jet's waiting tasks to it. -/
def execJetSpareEnabled (failed : Fin 104) (spare : Fin 104) (s : State) : Host.Outcome State Fault Refusal :=
  whileServing s (fun s => s.spareEnabled failed.val spare.val)

end Sys2Proof.Machine
end

