-- ==== Sys2Proof/Machine/RowsLink.lean ====
section
/-!
DEFINITION. Meanings of the commands of a port's link and the join frames.
-/

namespace Sys2Proof.Machine

/-- LINK_INIT_RX (R237, R238, R239, R247): A LINK_INIT is received during training and the port reaches UP once both ends have
acknowledged. -/
def execLinkInitRx (port : Fin 48) (m : LinkInit) (s : State) : Host.Outcome State Fault Refusal :=
  whileServing s (fun s => linkInitRxStep port.val m s)

/-- PMD_TRAINING_DONE (R237, R236, R540): 802.3dj PMD training ends and usable receive lanes are marked. -/
def execPmdTrainingDone (port : Fin 48) (usable : BitVec 9) (s : State) : Host.Outcome State Fault Refusal :=
  whileServing s (fun s => pmdTrainingDoneStep port.val usable s)

/-- TRAINING_TIMEOUT (R237, R252, R254, R526): A port does not reach UP within 600 ms; it retrains, or goes DOWN after three
failures. -/
def execTrainingTimeout (port : Fin 48) (s : State) : Host.Outcome State Fault Refusal :=
  whileServing s (fun s => s.trainingTimeout port.val)

/-- PORT_ENABLE_WRITE (R237): A write of PT_LINK_CFG ENABLE disables the port or starts training. -/
def execPortEnableWrite (w : Writer) (port : Fin 48) (enable : Bool) (allowHalf : Bool) (s : State) : Host.Outcome State Fault Refusal :=
  ends (s.writeAs w (Reg.PT_LINK_CFG port.val) false (fun s => s.linkCfgWrite port.val enable allowHalf))

/-- BAD_FRAME_RX (R249, R243, R245, R250): A frame fails CRC or FEC; it and later frames are discarded and a NAK is sent. -/
def execBadFrameRx (port : Fin 48) (b : BadFrame) (s : State) : Host.Outcome State Fault Refusal :=
  whileServing s (fun s => badFrameRxStep port.val b.fec b.half s)

/-- LINK_ACK_RX (R251, R247, R248): A LINK_ACK acknowledges frames, returns credits and may start a replay. -/
def execLinkAckRx (port : Fin 48) (m : LinkAck) (s : State) : Host.Outcome State Fault Refusal :=
  whileServing s (fun s => linkAckRxStep port.val m s)

/-- REPLAY_RX (R249, R245): A REPLAY is received and frames are accepted again from START. -/
def execReplayRx (port : Fin 48) (start : BitVec 16) (s : State) : Host.Outcome State Fault Refusal :=
  whileServing s (fun s => replayRxStep port.val start s)

/-- LANE_SWAP_RX (R253, R239, R481): A LANE_SWAP moves transmission to new lanes, or grants lane-sleep consent. -/
def execLaneSwapRx (port : Fin 48) (lanes : BitVec 9) (s : State) : Host.Outcome State Fault Refusal :=
  whileServing s (fun s => laneSwapRxStep port.val lanes s)

/-- LANE_FAILURE (R253, R236, R252): A receive lane loses lock or exceeds its corrected-symbol threshold and is spared. -/
def execLaneFailure (port : Fin 48) (lane : Fin 9) (s : State) : Host.Outcome State Fault Refusal :=
  whileServing s (fun s => laneFailureStep port.val lane.val s)

/-- ACK_TIMER (R250): A LINK_ACK send condition of R250 is reached and a LINK_ACK is sent. -/
def execAckTimer (port : Fin 48) (s : State) : Host.Outcome State Fault Refusal :=
  whileServing s (fun s => ackTimerStep port.val s)

/-- REPLAY_TIMEOUT (R251): 2 µs pass without progress in ACK and a replay is started. -/
def execReplayTimeout (port : Fin 48) (s : State) : Host.Outcome State Fault Refusal :=
  whileServing s (fun s => replayTimeoutStep port.val s)

/-- LINK_SILENCE_TIMEOUT (R251, R252): A port receives nothing for 10 µs, or replays 8 times without progress, and retrains. -/
def execLinkSilenceTimeout (port : Fin 48) (s : State) : Host.Outcome State Fault Refusal :=
  whileServing s (fun s => linkSilenceTimeoutStep port.val s)

/-- REALIGN_TIMEOUT (R253, R252): Realignment is not done within 20 µs and the port retrains. -/
def execRealignTimeout (port : Fin 48) (s : State) : Host.Outcome State Fault Refusal :=
  whileServing s (fun s => realignTimeoutStep port.val s)

/-- LANE_SLEEP_CONSENT (R481): A receiver sees no sequenced frame for the idle time and sends consent to sleep. -/
def execLaneSleepConsent (port : Fin 48) (s : State) : Host.Outcome State Fault Refusal :=
  whileServing s (fun s => laneSleepConsentStep port.val s)

/-- LANE_WAKE (R481, R479): A sleeping port direction gets a frame to send and wakes its lanes. -/
def execLaneWake (port : Fin 48) (s : State) : Host.Outcome State Fault Refusal :=
  whileServing s (fun s => laneWakeStep port.val s)

/-- DISCOVER_RX (R524, R523): A DISCOVER is received on an UP port and answered with DISCOVER_ANS. -/
def execDiscoverRx (port : Fin 48) (f : Frame) (s : State) : Host.Outcome State Fault Refusal :=
  whileServing s (fun s => s.frameIn port.val { f with typ := 0x80 })

/-- ASSIGN_ID_RX (R524, R516, R523): An ASSIGN_ID is received and applied if no ID is held, then answered. -/
def execAssignIdRx (port : Fin 48) (f : Frame) (s : State) : Host.Outcome State Fault Refusal :=
  whileServing s (fun s => s.frameIn port.val { f with typ := 0x82 })

/-- DISCOVER_ANS_RX (R525, R523): A DISCOVER_ANS answers the running join command and is copied to GL_JOIN_VIEW. -/
def execDiscoverAnsRx (port : Fin 48) (f : Frame) (s : State) : Host.Outcome State Fault Refusal :=
  whileServing s (fun s => s.frameIn port.val { f with typ := 0x81 })

/-- LINK_INIT_TIMER (R237): During training each end sends a LINK_INIT frame every 1 µs carrying its lane mask, credits,
generations and INIT_ACK. -/
def execLinkInitTimer (port : Fin 48) (s : State) : Host.Outcome State Fault Refusal :=
  whileServing s (fun s => linkInitTimerStep port.val s)

/-- LANE_REALIGN_DONE (R253, R481): A receiver completes realignment on its new or woken lanes and sends LINK_ACK with NAK set,
which starts the replay. -/
def execLaneRealignDone (port : Fin 48) (s : State) : Host.Outcome State Fault Refusal :=
  whileServing s (fun s => laneRealignDoneStep port.val s)

/-- BAD_TYPE_FRAME_RX (R244): A good frame of reserved type, or a vendor test type outside test mode, arrives and is discarded
without response and counted in BAD_TYPE. -/
def execBadTypeFrameRx (port : Fin 48) (x : StrayFrame) (s : State) : Host.Outcome State Fault Refusal :=
  if s.vendorFrame port.val x.typ.toNat then .refused .vendorTest else whileServing s (fun s => badTypeFrameRxStep port.val x.typ.toNat x.vc s)

end Sys2Proof.Machine
end

