-- ==== Sys2Proof/Machine/RowsManage.lean ====
section
/-!
DEFINITION. Meanings of the commands of the gazetteer, surveys, attestation, joining, modes and registers.
-/

namespace Sys2Proof.Machine

/-- GZ_BUS_READ (R452, R446, R447, R450, R451, R453, R454, R457): A management-bus READ snapshots an entry and returns one
segment. -/
def execGzBusRead (bus : Bus) (m : BusMsg) (s : State) : Host.Outcome State Fault Refusal :=
  if s.busVendor bus m then .refused .vendorTest else whileAlive s (fun s => s.busRequest bus opRead m)

/-- GZ_BUS_WRITE (R452, R48, R61, R443, R444, R446, R447, R450): A management-bus WRITE segment is stored, and on LAST the whole
value is applied. -/
def execGzBusWrite (bus : Bus) (m : BusMsg) (s : State) : Host.Outcome State Fault Refusal :=
  if s.busVendor bus m then .refused .vendorTest else whileAlive s (fun s => s.busRequest bus opWrite m)

/-- GZ_BUS_INFO (R452): A management-bus INFO returns an entry's type, right, unit and range. -/
def execGzBusInfo (bus : Bus) (m : BusMsg) (s : State) : Host.Outcome State Fault Refusal :=
  if s.busVendor bus m then .refused .vendorTest else whileAlive s (fun s => s.busRequest bus opInfo m)

/-- GZ_BUS_ABORT (R452): A management-bus ABORT discards the manager's open transfer or snapshot. -/
def execGzBusAbort (bus : Bus) (m : BusMsg) (s : State) : Host.Outcome State Fault Refusal :=
  if s.busVendor bus m then .refused .vendorTest else whileAlive s (fun s => s.busRequest bus opAbort m)

/-- GZ_TRANSFER_TIMEOUT (R452, R518): An open transfer or snapshot idle for 1 s is discarded. -/
def execGzTransferTimeout (manager : Fin 16) (s : State) : Host.Outcome State Fault Refusal :=
  whileAlive s (fun s => s.transferTimeout manager.val)

/-- GZ_WINDOW_READ (R459, R447): GL_GZ_CMD READ performs a gazetteer read through the window. -/
def execGzWindowRead (w : Writer) (s : State) : Host.Outcome State Fault Refusal :=
  if s.windowOpen w && s.windowVendor then .refused .vendorTest
  else ends (s.writeAs w Reg.GL_GZ_CMD false (fun s => s.gzCommand (pack [(4, 1)])))

/-- GZ_WINDOW_WRITE (R459, R48, R61, R443, R444, R446, R447, R458): GL_GZ_CMD WRITE performs a gazetteer write segment through the
window. -/
def execGzWindowWrite (w : Writer) (last : Bool) (count : BitVec 6) (s : State) : Host.Outcome State Fault Refusal :=
  if s.windowOpen w && s.windowVendor then .refused .vendorTest
  else ends (s.writeAs w Reg.GL_GZ_CMD false (fun s => s.gzCommand (pack [(4, 2), (1, bitN last), (3, 0), (6, count.toNat)])))

/-- GZ_WINDOW_INFO (R459): GL_GZ_CMD INFO returns entry information through the window. -/
def execGzWindowInfo (w : Writer) (s : State) : Host.Outcome State Fault Refusal :=
  if s.windowOpen w && s.windowVendor then .refused .vendorTest
  else ends (s.writeAs w Reg.GL_GZ_CMD false (fun s => s.gzCommand (pack [(4, 3)])))

/-- GZ_WINDOW_ABORT (R459): GL_GZ_CMD ABORT discards the window's open transfer or snapshot. -/
def execGzWindowAbort (w : Writer) (s : State) : Host.Outcome State Fault Refusal :=
  if s.windowOpen w && s.windowVendor then .refused .vendorTest
  else ends (s.writeAs w Reg.GL_GZ_CMD false (fun s => s.gzCommand (pack [(4, 4)])))

/-- BEACON_TIMER (R456, R450): The beacon period expires and a beacon is sent on each active bus. -/
def execBeaconTimer (s : State) : Host.Outcome State Fault Refusal :=
  whileAlive s (fun s => s.beaconTimer)

/-- BUS_OFF (R458, R448): A bus goes bus-off and event 0x1101 is raised. -/
def execBusOff (bus : Bus) (s : State) : Host.Outcome State Fault Refusal :=
  whileAlive s (fun s => s.busOff bus)

/-- BUS_RECOVERED (R458, R448): A bus recovers from bus-off and event 0x1102 is raised. -/
def execBusRecovered (bus : Bus) (s : State) : Host.Outcome State Fault Refusal :=
  whileAlive s (fun s => s.busRecovered bus)

/-- ADDRESS_CONFLICT (R449): A frame bearing this Golik's own address as SRC is received and counted. -/
def execAddressConflict (bus : Bus) (s : State) : Host.Outcome State Fault Refusal :=
  whileAlive s (fun s => s.addressConflict bus)

/-- SVY_NOW (R467): GL_SVY_CMD NOW schedules a survey 64 edges ahead. -/
def execSvyNow (w : Writer) (s : State) : Host.Outcome State Fault Refusal :=
  ends (s.writeAs w Reg.GL_SVY_CMD true (fun s => s.svyCommand (pack [(2, 1)])))

/-- SVY_AT (R467): GL_SVY_CMD AT schedules a survey at a given edge, or reports LATE. -/
def execSvyAt (w : Writer) (s : State) : Host.Outcome State Fault Refusal :=
  ends (s.writeAs w Reg.GL_SVY_CMD false (fun s => s.svyCommand (pack [(2, 2)])))

/-- SURVEY_PERIOD_EDGE (R467): A periodic survey edge comes round and a survey is scheduled unless one is pending. -/
def execSurveyPeriodEdge (s : State) : Host.Outcome State Fault Refusal :=
  whileAlive s (fun s => s.surveyPeriod)

/-- SURVEY_ANNOUNCE (R468): At E − 64 the survey edge is announced to all four dies. -/
def execSurveyAnnounce (s : State) : Host.Outcome State Fault Refusal :=
  whileAlive s (fun s => s.surveyAnnounce)

/-- SURVEY_ABANDON (R468): At E − 8 a die has not acknowledged; the survey is abandoned and event 0x7102 is raised. -/
def execSurveyAbandon (die : Fin 4) (s : State) : Host.Outcome State Fault Refusal :=
  whileAlive s (fun s => s.surveyAbandon die.val)

/-- SURVEY_CAPTURE (R468, R466, R469): At edge E every unit copies its counters into the shadow bank. -/
def execSurveyCapture (s : State) : Host.Outcome State Fault Refusal :=
  whileAlive s (fun s => s.surveyCapture)

/-- SURVEY_COMPLETE (R468): At E + 4 the bank's NUMBER and EDGE are written and PENDING clears. -/
def execSurveyComplete (s : State) : Host.Outcome State Fault Refusal :=
  whileAlive s (fun s => s.surveyComplete)

/-- CHALLENGE (R505, R493, R501, R502, R503, R504, R506, R510): A nonce written to G:0x9030.01 starts attestation, or is refused
for rate or state. -/
def execChallenge (bus : Bus) (m : BusMsg) (s : State) : Host.Outcome State Fault Refusal :=
  whileAlive s (fun s => s.busChallenge bus m)

/-- EVIDENCE_READY (R505, R495, R503, R506): The evidence is signed; STATUS becomes READY and event 0x9109 is raised. -/
def execEvidenceReady (signature : List Byte) (s : State) : Host.Outcome State Fault Refusal :=
  whileAlive s (fun s => s.evidenceReady signature)

/-- SVN_COMMIT (R499): A write of G:0x9020.02 raises the SVN fuse minimum. -/
def execSvnCommit (w : Writer) (svn : Byte) (s : State) : Host.Outcome State Fault Refusal :=
  ends (s.entryWrite w 0x9020 0x02 [svn])

/-- KEY_SLOT_REVOKE (R499): A write of G:0x9020.03 revokes a firmware key slot. -/
def execKeySlotRevoke (w : Writer) (slot : Byte) (s : State) : Host.Outcome State Fault Refusal :=
  ends (s.entryWrite w 0x9020 0x03 [slot])

/-- POLICY_WRITE (R511): A write of G:0x9010.01 raises the erasure policy. -/
def execPolicyWrite (w : Writer) (policy : Byte) (s : State) : Host.Outcome State Fault Refusal :=
  ends (s.entryWrite w 0x9010 0x01 [policy])

/-- JOIN_DISCOVER (R525): GL_JOIN_CMD DISCOVER sends DISCOVER on a port. -/
def execJoinDiscover (w : Writer) (port : BitVec 6) (s : State) : Host.Outcome State Fault Refusal :=
  ends (s.writeAs w Reg.GL_JOIN_CMD false (fun s => s.joinCommand (pack [(4, 1), (6, port.toNat)])))

/-- JOIN_ASSIGN (R525): GL_JOIN_CMD ASSIGN sends ASSIGN_ID on a port. -/
def execJoinAssign (w : Writer) (port : BitVec 6) (newId : BitVec 14) (s : State) : Host.Outcome State Fault Refusal :=
  ends (s.writeAs w Reg.GL_JOIN_CMD false (fun s => s.joinCommand (pack [(4, 2), (6, port.toNat), (6, 0), (14, newId.toNat)])))

/-- JOIN_ANSWER_TIMEOUT (R525): No DISCOVER_ANS arrives within 100 µs and the join command completes NO_ANSWER. -/
def execJoinAnswerTimeout (s : State) : Host.Outcome State Fault Refusal :=
  whileServing s (fun s => s.joinTimeout)

/-- DEVICE_ID_WRITE (R526, R516): A write of G:0x1040.01 assigns this Golik's device ID. -/
def execDeviceIdWrite (w : Writer) (id : BitVec 16) (s : State) : Host.Outcome State Fault Refusal :=
  ends (s.entryWrite w 0x1040 0x01 (bytesOfNat 2 id.toNat))

/-- ENTER_SERVICE (R532, R47, R53): GL_MODE_CMD ENTER_SERVICE converts kept commons and clears the rest. -/
def execEnterService (w : Writer) (s : State) : Host.Outcome State Fault Refusal :=
  ends (s.writeAs w Reg.GL_MODE_CMD true (fun s => s.modeCommand (pack [(4, 1)])))

/-- SERVICE_ENTRY_DONE (R532, R514): No parcel remains in COMMONS or CLOSING; MODE becomes SERVICE. -/
def execServiceEntryDone (s : State) : Host.Outcome State Fault Refusal :=
  whileServing s (fun s => s.serviceEntered)

/-- ENTER_TEST (R533, R514): GL_MODE_CMD ENTER_TEST enters TEST from COMMONS. -/
def execEnterTest (w : Writer) (s : State) : Host.Outcome State Fault Refusal :=
  ends (s.writeAs w Reg.GL_MODE_CMD true (fun s => s.modeCommand (pack [(4, 2)])))

/-- RECOVER (R534, R53, R514, R527): GL_MODE_CMD RECOVER enters RECOVERY from SERVICE and creates commons. -/
def execRecover (w : Writer) (s : State) : Host.Outcome State Fault Refusal :=
  ends (s.writeAs w Reg.GL_MODE_CMD true (fun s => s.modeCommand (pack [(4, 3)])))

/-- KEEP (R532): GL_COMMONS_CMD KEEP marks a commons parcel for conversion. -/
def execKeep (w : Writer) (parcel : Fin 2048) (tenant : Fin 1024) (rights : BitVec 4) (s : State) : Host.Outcome State Fault Refusal :=
  ends (s.writeAs w Reg.GL_COMMONS_CMD true (fun s => s.commonsCommand (pack [(4, 1), (11, parcel.val), (1, 0), (10, tenant.val), (6, 0), (4, rights.toNat)])))

/-- UNKEEP (R532): GL_COMMONS_CMD UNKEEP clears a commons parcel's mark. -/
def execUnkeep (w : Writer) (parcel : Fin 2048) (s : State) : Host.Outcome State Fault Refusal :=
  ends (s.writeAs w Reg.GL_COMMONS_CMD true (fun s => s.commonsCommand (pack [(4, 2), (11, parcel.val)])))

/-- REGISTER_WRITE (R7, R8, R49, R227, R284, R292, R323): A write to a register with no behaviour of its own applies its access
codes. -/
def execRegisterWrite (w : Writer) (off : BitVec 28) (v : Word) (s : State) : Host.Outcome State Fault Refusal :=
  if s.registerVendor w off.toNat v then .refused .vendorTest
  else ends (s.writeAs w off.toNat (mirrored off.toNat) (fun s => s.writeReg off.toNat v))

end Sys2Proof.Machine
end

