-- ==== Sys2Proof/Machine/RowsMemorySlot.lean ====
section
/-!
DEFINITION. Meanings of the commands of the memory slot of a bundle.
-/

namespace Sys2Proof.Machine

/-- ELD (R107, R25, R34, R97, R105, R108, R109, R110): An E-slot line read into a vector register. -/
def execEld (j : Fin 104) (m : MemSlot) (s : State) : Host.Outcome State Fault Refusal :=
  whileServing s (fun s => s.jetIssue j.val 0 (memoryBits 0x01 m).toNat (fun s r => s.jetEaccess j.val r m false))

/-- EST (R107, R25, R97, R105, R108, R109, R118, R346): An E-slot write of enabled words from a vector register. -/
def execEst (j : Fin 104) (m : MemSlot) (s : State) : Host.Outcome State Fault Refusal :=
  whileServing s (fun s => s.jetIssue j.val 0 (memoryBits 0x02 m).toNat (fun s r => s.jetEaccess j.val r m true))

/-- FLD (R346, R70, R71, R72, R75, R83, R86, R97): An open-leg line read by ReadOnce or the remote-line cache. -/
def execFld (j : Fin 104) (m : MemSlot) (s : State) : Host.Outcome State Fault Refusal :=
  whileServing s (fun s => s.jetIssue j.val 0 (memoryBits 0x08 m).toNat (fun s r => s.jetFld j.val r m))

/-- FST (R346, R70, R71, R72, R83, R116, R178, R180): An open-leg line write by WriteLine or masked WriteLine. -/
def execFst (j : Fin 104) (m : MemSlot) (s : State) : Host.Outcome State Fault Refusal :=
  whileServing s (fun s => s.jetIssue j.val 0 (memoryBits 0x09 m).toNat (fun s r => s.jetFst j.val r m false false))

/-- FGST (R346, R223): An open-leg gauge-tagged line write. -/
def execFgst (j : Fin 104) (m : MemSlot) (s : State) : Host.Outcome State Fault Refusal :=
  whileServing s (fun s => s.jetIssue j.val 0 (memoryBits 0x0A m).toNat (fun s r => s.jetFst j.val r m true false))

/-- FSEAL (R346, R223): An open-leg seal store. -/
def execFseal (j : Fin 104) (m : MemSlot) (s : State) : Host.Outcome State Fault Refusal :=
  whileServing s (fun s => s.jetIssue j.val 0 (memoryBits 0x0B m).toNat (fun s r => s.jetFst j.val r m false true))

/-- FATOM (R346, R72, R178, R223): An open-leg atomic whose old value returns to the vector register. -/
def execFatom (j : Fin 104) (m : MemSlot) (s : State) : Host.Outcome State Fault Refusal :=
  whileServing s (fun s => s.jetIssue j.val 0 (memoryBits 0x0C m).toNat (fun s r => s.jetFatom j.val r m))

/-- FETCHB (R346, R335): A block fetch of lines into the bowl, counting FC. -/
def execFetchb (j : Fin 104) (m : MemSlot) (s : State) : Host.Outcome State Fault Refusal :=
  whileServing s (fun s => s.jetIssue j.val 0 (memoryBits 0x10 m).toNat (fun s r => s.jetBlock j.val r m false))

/-- FETCHG (R346, R83, R362): A gathered fetch of rows into the bowl, counting FC. -/
def execFetchg (j : Fin 104) (m : MemSlot) (s : State) : Host.Outcome State Fault Refusal :=
  whileServing s (fun s => s.jetIssue j.val 0 (memoryBits 0x11 m).toNat (fun s r => s.jetFetchg j.val r m))

/-- STOREB (R346): A block store of lines from the bowl, counting FC. -/
def execStoreb (j : Fin 104) (m : MemSlot) (s : State) : Host.Outcome State Fault Refusal :=
  whileServing s (fun s => s.jetIssue j.val 0 (memoryBits 0x12 m).toNat (fun s r => s.jetBlock j.val r m true))

/-- BLD (R346, R335, R336): A 256-byte bowl load into a vector register. -/
def execBld (j : Fin 104) (m : MemSlot) (s : State) : Host.Outcome State Fault Refusal :=
  whileServing s (fun s => s.jetIssue j.val 0 (memoryBits 0x20 m).toNat (fun s r => s.jetBld j.val r m))

/-- BST (R346, R335, R336): A 256-byte bowl store from a vector register. -/
def execBst (j : Fin 104) (m : MemSlot) (s : State) : Host.Outcome State Fault Refusal :=
  whileServing s (fun s => s.jetIssue j.val 0 (memoryBits 0x21 m).toNat (fun s r => s.jetBst j.val r m))

/-- BGATH (R336, R335): A bowl gather of 4-byte lanes. -/
def execBgath (j : Fin 104) (m : MemSlot) (s : State) : Host.Outcome State Fault Refusal :=
  whileServing s (fun s => s.jetIssue j.val 0 (memoryBits 0x22 m).toNat (fun s r => s.jetBgath j.val r m))

/-- BSCAT (R336, R335): A bowl scatter of 4-byte lanes. -/
def execBscat (j : Fin 104) (m : MemSlot) (s : State) : Host.Outcome State Fault Refusal :=
  whileServing s (fun s => s.jetIssue j.val 0 (memoryBits 0x23 m).toNat (fun s r => s.jetBscat j.val r m))

/-- PQLOAD (R341, R336): A copy of 16 KiB from the bowl into the PQ table store. -/
def execPqload (j : Fin 104) (m : MemSlot) (s : State) : Host.Outcome State Fault Refusal :=
  whileServing s (fun s => s.jetIssue j.val 0 (memoryBits 0x24 m).toNat (fun s r => s.jetPqload j.val r m))

/-- BACCLD (R346): A load of eight exact accumulators from the bowl. -/
def execBacld (j : Fin 104) (m : MemSlot) (s : State) : Host.Outcome State Fault Refusal :=
  whileServing s (fun s => s.jetIssue j.val 0 (memoryBits 0x25 m).toNat (fun s r => s.jetBacld j.val r m))

/-- BACCST (R346, R344): A store of eight exact accumulators to the bowl. -/
def execBacst (j : Fin 104) (m : MemSlot) (s : State) : Host.Outcome State Fault Refusal :=
  whileServing s (fun s => s.jetIssue j.val 0 (memoryBits 0x26 m).toNat (fun s r => s.jetBacst j.val r m))

end Sys2Proof.Machine
end

