-- ==== Sys2Proof/Machine/RowsParcel.lean ====
section
/-!
DEFINITION. Meanings of the commands of parcels, context tags and translation.
-/

namespace Sys2Proof.Machine

/-- GRANT (R50, R29, R41, R42, R44, R45, R46, R47): GL_PARCEL_CMD GRANT grants a parcel to a tenant slot. -/
def execGrant (w : Writer) (g : GrantArgs) (s : State) : Host.Outcome State Fault Refusal :=
  ends (s.writeAs w Reg.GL_PARCEL_CMD true (fun s => s.parcelCommand (grantWord g)))

/-- SET_RIGHTS (R51, R47, R48, R49, R50, R74): GL_PARCEL_CMD SET_RIGHTS puts new rights in force and recalls affected lines. -/
def execSetRights (w : Writer) (parcel : Fin 2048) (rights : BitVec 4) (s : State) : Host.Outcome State Fault Refusal :=
  ends (s.writeAs w Reg.GL_PARCEL_CMD true (fun s => s.parcelCommand (pack [(4, 3), (11, parcel.val), (17, 0), (4, rights.toNat)])))

/-- SET_RIGHTS_DONE (R51, R50, R74): Every recall probe is answered, pinned legs have ended, and SET_RIGHTS returns DONE. -/
def execSetRightsDone (s : State) : Host.Outcome State Fault Refusal :=
  whileServing s (fun s => s.setRightsEnd)

/-- PARCEL_RELEASE (R52, R47, R48, R49, R50, R74, R184, R410): GL_PARCEL_CMD RELEASE sets the parcel CLOSING and invalidates
holders. -/
def execParcelRelease (w : Writer) (parcel : Fin 2048) (s : State) : Host.Outcome State Fault Refusal :=
  ends (s.writeAs w Reg.GL_PARCEL_CMD true (fun s => s.parcelCommand (pack [(4, 2), (11, parcel.val)])))

/-- RELEASE_DRAINED (R52, R47, R50, R74, R532): Every request past the check on the parcel has completed; the entry goes to
CLEARING and RELEASE returns DONE. -/
def execReleaseDrained (s : State) : Host.Outcome State Fault Refusal :=
  whileServing s (fun s => s.releaseEnd)

/-- PARCEL_FREED (R554, R44, R46, R47, R52, R147, R532): A parcel's backing has been cleared; the entry becomes FREE and event
0x2119 is raised. -/
def execParcelFreed (parcel : Fin 2048) (s : State) : Host.Outcome State Fault Refusal :=
  whileServing s (fun s => s.parcelFreed parcel.val)

/-- MGMT_TAG_WRITE (R61): A write of GL_MGMT_TAG sets the management tag, or is discarded if it would duplicate a context tag. -/
def execMgmtTagWrite (w : Writer) (tag : BitVec 16) (valid : Bool) (s : State) : Host.Outcome State Fault Refusal :=
  ends (s.writeAs w Reg.GL_MGMT_TAG true (fun s => s.mgmtTagWrite (pack [(16, tag.toNat), (1, bitN valid)])))

/-- CTX_SET (R63, R60, R62): GL_CTX_CMD SET maps a tag to a tenant slot on all four dies. -/
def execCtxSet (w : Writer) (entry : Fin 1024) (tag : BitVec 16) (tenant : Fin 1024) (s : State) : Host.Outcome State Fault Refusal :=
  ends (s.writeAs w Reg.GL_CTX_CMD false (fun s => s.ctxCommand (pack [(4, 1), (10, entry.val), (2, 0), (16, tag.toNat), (10, tenant.val)])))

/-- CTX_CLEAR (R63, R60, R62, R80, R85, R181): GL_CTX_CMD CLEAR invalidates an entry and drops its translation-cache entries. -/
def execCtxClear (w : Writer) (entry : Fin 1024) (s : State) : Host.Outcome State Fault Refusal :=
  ends (s.writeAs w Reg.GL_CTX_CMD false (fun s => s.ctxCommand (pack [(4, 2), (10, entry.val)])))

/-- XANS (R78, R71, R75, R77, R79, R82, R84, R85): A translation answer arrives; it is installed and wakes waiters, or is
discarded. -/
def execXans (reqId : BitVec 16) (result : BitVec 2) (size : Bool) (perm : BitVec 4) (base : Word) (s : State) : Host.Outcome State Fault Refusal :=
  whileServing s (fun s => s.messageIn s.anyGroup (xansFrame reqId result size perm base))

/-- XLATE_TIMEOUT (R79): A translation request reaches the timeout; it is reissued once, then its waiters end with XLATE_TIMEOUT.
-/
def execXlateTimeout (reqId : BitVec 16) (s : State) : Host.Outcome State Fault Refusal :=
  whileServing s (fun s => s.xtimeout reqId.toNat)

/-- XINV_ALL (R81, R80, R82): GL_XINV_CMD ALL invalidates every translation-cache entry. -/
def execXinvAll (w : Writer) (s : State) : Host.Outcome State Fault Refusal :=
  ends (s.writeAs w Reg.GL_XINV_CMD false (fun s => s.xinvCommand (pack [(2, 1)])))

/-- XINV_CONTEXT (R81, R80, R82): GL_XINV_CMD CONTEXT invalidates every entry of a tag. -/
def execXinvContext (w : Writer) (tag : BitVec 16) (s : State) : Host.Outcome State Fault Refusal :=
  ends (s.writeAs w Reg.GL_XINV_CMD false (fun s => s.xinvCommand (pack [(2, 2), (14, 0), (16, tag.toNat)])))

/-- XINV_RANGE (R81, R80, R82): GL_XINV_CMD RANGE invalidates a tag's entries overlapping a range. -/
def execXinvRange (w : Writer) (tag : BitVec 16) (s : State) : Host.Outcome State Fault Refusal :=
  ends (s.writeAs w Reg.GL_XINV_CMD false (fun s => s.xinvCommand (pack [(2, 3), (14, 0), (16, tag.toNat)])))

/-- XINV_DONE (R81): Every matching entry is gone on all dies and pinned legs have ended; DONE_COUNT advances. -/
def execXinvDone (s : State) : Host.Outcome State Fault Refusal :=
  whileServing s (fun s => s.xinvDone)

end Sys2Proof.Machine
end

