-- ==== Sys2Proof/Machine/RowsPower.lean ====
section
/-!
DEFINITION. Meanings of the commands of power, clocks, sensors, reset and test access.
-/

namespace Sys2Proof.Machine

/-- INPUT_RISE (R476, R475): The 56 V input rises above the turn-on threshold; the power stage brings up the rails in order. -/
def execInputRise (vin : BitVec 16) (s : State) : Host.Outcome State Fault Refusal :=
  if 6500 < vin.toNat then .fault .absoluteMaximum else ends (s.inputRise vin.toNat)

/-- POWER_ON_RESET_RELEASE (R476, R312, R445, R449, R465, R509, R515, R545): Power-on reset is released; the bench clock starts
counting, the straps are sampled and the ROM starts. -/
def execPowerOnResetRelease (fuses : FuseRead) (straps : Straps) (s : State) : Host.Outcome State Fault Refusal :=
  ends (s.powerOn fuses straps)

/-- INPUT_BELOW_WARNING (R477, R492, R504, R544): The input falls below 46 V while running; PFW is set, the power-fail output is
driven and event 0x8103 is raised. -/
def execInputBelowWarning (vin : BitVec 16) (s : State) : Host.Outcome State Fault Refusal :=
  ends (s.inputWarning vin.toNat)

/-- INPUT_RECOVERED (R477): The input recovers above 46 V before the rails fall; PFW clears and event 0x8104 is raised. -/
def execInputRecovered (vin : BitVec 16) (s : State) : Host.Outcome State Fault Refusal :=
  ends (s.inputRecovered vin.toNat)

/-- INPUT_BELOW_TURN_OFF (R475, R477): The hold-up ends with the input below the turn-off threshold, or the input falls below 40
V; the stage stops. -/
def execInputBelowTurnOff (vin : BitVec 16) (s : State) : Host.Outcome State Fault Refusal :=
  ends (s.inputTurnOff vin.toNat)

/-- OVERVOLTAGE_SHUTDOWN (R475): The input exceeds the overvoltage threshold; the stage stops until the input falls below 60 V. -/
def execOvervoltageShutdown (vin : BitVec 16) (s : State) : Host.Outcome State Fault Refusal :=
  if 6500 < vin.toNat then .fault .absoluteMaximum else ends (s.overvoltage vin.toNat)

/-- POWER_STAGE_FAULT (R478, R473): The power stage declares a fault; it forces throttle level 5, raises 0x8105 and sets cause
POWER, or stops the module. -/
def execPowerStageFault (cause : StageFault) (phasesLeft : Byte) (inRegulation : Bool) (s : State) : Host.Outcome State Fault Refusal :=
  ends (s.stageFault (StageFault.code cause) phasesLeft.toNat inRegulation)

/-- POWER_MEASURE (R485, R486, R492): Every 10 µs input power is measured and the cap controller raises or lowers the throttle
level. -/
def execPowerMeasure (watts : BitVec 16) (vin : BitVec 16) (s : State) : Host.Outcome State Fault Refusal :=
  whileAlive s (fun s => s.powerMeasure watts.toNat vin.toNat)

/-- CLOCK_LOST (R484, R492): Loss of the bench-clock reference or of PLL lock is detected; the Golik stops answering and behaves
as HALTED. -/
def execClockLost (die : Fin 4) (src : ClockSource) (s : State) : Host.Outcome State Fault Refusal :=
  whileAlive s (fun s => s.clockLost die.val (ClockSource.code src))

/-- SENSOR_READ (R488, R113, R114, R455, R471, R489, R490, R491): Temperature sensors are read every 100 µs and thresholds for
variant switch, jet hold and trip are evaluated. -/
def execSensorRead (t : Temps) (s : State) : Host.Outcome State Fault Refusal :=
  whileAlive s (fun s => s.sensorRead t)

/-- MOD_RST_ASSERT (R546): MOD_RST_N is held low for at least 1 µs; every die is held in reset. -/
def execModRstAssert (s : State) : Host.Outcome State Fault Refusal :=
  ends (s.resetAssert)

/-- MOD_RST_RELEASE (R546, R445, R463, R465): 1 ms after MOD_RST_N rises, the Golik resumes from step 2 of start-up with telemetry
restarted. -/
def execModRstRelease (s : State) : Host.Outcome State Fault Refusal :=
  ends (s.resetRelease)

/-- JTAG_INSTRUCTION_LOAD (R547, R508, R548): An instruction is loaded into the test access port; unsupported values trip DEBUG
and act as BYPASS. -/
def execJtagInstructionLoad (v : Byte) (s : State) : Host.Outcome State Fault Refusal :=
  ends (s.jtagLoad v)

/-- OVERVOLTAGE_RECOVERY (R475): After an overvoltage shutdown the input falls below 60 V and the power stage may start again. -/
def execOvervoltageRecovery (vin : BitVec 16) (s : State) : Host.Outcome State Fault Refusal :=
  ends (s.overvoltageOver vin.toNat)

/-- TRST_N_ASSERT (R548): TRST_N is driven low, or left open on its pull-down, and the test access port is held in
Test-Logic-Reset, ending any EXTEST. -/
def execTrstNAssert (s : State) : Host.Outcome State Fault Refusal :=
  ends (s.trst)

end Sys2Proof.Machine
end

