-- ==== Sys2Proof/Machine/RowsScalar.lean ====
section
/-!
DEFINITION. Meanings of the commands of the scalar slot of a bundle.
-/

namespace Sys2Proof.Machine

/-- ADD (R334, R345): Scalar addition. -/
def execAdd (j : Fin 104) (f : ScalarSlot) (s : State) : Host.Outcome State Fault Refusal :=
  whileServing s (fun s => s.jetIssue j.val 1 (scalarBits 0x01 f).toNat (fun s r => s.jetScalar j.val r 1 f (fun x y => x + y)))

/-- SUB (R334): Scalar subtraction. -/
def execSub (j : Fin 104) (f : ScalarSlot) (s : State) : Host.Outcome State Fault Refusal :=
  whileServing s (fun s => s.jetIssue j.val 1 (scalarBits 0x02 f).toNat (fun s r => s.jetScalar j.val r 1 f (fun x y => x - y)))

/-- AND (R334): Scalar bitwise AND. -/
def execAnd (j : Fin 104) (f : ScalarSlot) (s : State) : Host.Outcome State Fault Refusal :=
  whileServing s (fun s => s.jetIssue j.val 1 (scalarBits 0x03 f).toNat (fun s r => s.jetScalar j.val r 1 f (fun x y => x &&& y)))

/-- OR (R334): Scalar bitwise OR. -/
def execOr (j : Fin 104) (f : ScalarSlot) (s : State) : Host.Outcome State Fault Refusal :=
  whileServing s (fun s => s.jetIssue j.val 1 (scalarBits 0x04 f).toNat (fun s r => s.jetScalar j.val r 1 f (fun x y => x ||| y)))

/-- XOR (R334): Scalar bitwise XOR. -/
def execXor (j : Fin 104) (f : ScalarSlot) (s : State) : Host.Outcome State Fault Refusal :=
  whileServing s (fun s => s.jetIssue j.val 1 (scalarBits 0x05 f).toNat (fun s r => s.jetScalar j.val r 1 f (fun x y => x ^^^ y)))

/-- SHL (R334): Scalar shift left. -/
def execShl (j : Fin 104) (f : ScalarSlot) (s : State) : Host.Outcome State Fault Refusal :=
  whileServing s (fun s => s.jetIssue j.val 1 (scalarBits 0x06 f).toNat (fun s r => s.jetScalar j.val r 1 f (fun x y => x <<< (y.toNat % 64))))

/-- SHR (R334): Scalar logical shift right. -/
def execShr (j : Fin 104) (f : ScalarSlot) (s : State) : Host.Outcome State Fault Refusal :=
  whileServing s (fun s => s.jetIssue j.val 1 (scalarBits 0x07 f).toNat (fun s r => s.jetScalar j.val r 1 f (fun x y => x >>> (y.toNat % 64))))

/-- SAR (R334): Scalar arithmetic shift right. -/
def execSar (j : Fin 104) (f : ScalarSlot) (s : State) : Host.Outcome State Fault Refusal :=
  whileServing s (fun s => s.jetIssue j.val 1 (scalarBits 0x08 f).toNat (fun s r => s.jetScalar j.val r 1 f (fun x y => x.sshiftRight (y.toNat % 64))))

/-- MUL (R334): Scalar multiply, low 64 bits. -/
def execMul (j : Fin 104) (f : ScalarSlot) (s : State) : Host.Outcome State Fault Refusal :=
  whileServing s (fun s => s.jetIssue j.val 1 (scalarBits 0x09 f).toNat (fun s r => s.jetScalar j.val r 3 f (fun x y => x * y)))

/-- MIN (R334): Scalar signed minimum. -/
def execMin (j : Fin 104) (f : ScalarSlot) (s : State) : Host.Outcome State Fault Refusal :=
  whileServing s (fun s => s.jetIssue j.val 1 (scalarBits 0x0A f).toNat (fun s r => s.jetScalar j.val r 1 f (fun x y => if x.slt y then x else y)))

/-- MAX (R334): Scalar signed maximum. -/
def execMax (j : Fin 104) (f : ScalarSlot) (s : State) : Host.Outcome State Fault Refusal :=
  whileServing s (fun s => s.jetIssue j.val 1 (scalarBits 0x0B f).toNat (fun s r => s.jetScalar j.val r 1 f (fun x y => if x.slt y then y else x)))

/-- CMPLT (R334): Scalar signed less-than compare. -/
def execCmplt (j : Fin 104) (f : ScalarSlot) (s : State) : Host.Outcome State Fault Refusal :=
  whileServing s (fun s => s.jetIssue j.val 1 (scalarBits 0x0C f).toNat (fun s r => s.jetScalar j.val r 1 f (fun x y => if x.slt y then 1 else 0)))

/-- CMPLTU (R334): Scalar unsigned less-than compare. -/
def execCmpltu (j : Fin 104) (f : ScalarSlot) (s : State) : Host.Outcome State Fault Refusal :=
  whileServing s (fun s => s.jetIssue j.val 1 (scalarBits 0x0D f).toNat (fun s r => s.jetScalar j.val r 1 f (fun x y => if x.ult y then 1 else 0)))

/-- CMPEQ (R334): Scalar equality compare. -/
def execCmpeq (j : Fin 104) (f : ScalarSlot) (s : State) : Host.Outcome State Fault Refusal :=
  whileServing s (fun s => s.jetIssue j.val 1 (scalarBits 0x0E f).toNat (fun s r => s.jetScalar j.val r 1 f (fun x y => if x = y then 1 else 0)))

/-- LI (R334): Load a sign-extended immediate. -/
def execLi (j : Fin 104) (f : ScalarSlot) (s : State) : Host.Outcome State Fault Refusal :=
  whileServing s (fun s => s.jetIssue j.val 1 (scalarBits 0x10 f).toNat (fun s r => s.jetScalar j.val r 1 f (fun _ _ => f.imm.signExtend 64)))

/-- LUI (R334): Load an immediate into the upper half. -/
def execLui (j : Fin 104) (f : ScalarSlot) (s : State) : Host.Outcome State Fault Refusal :=
  whileServing s (fun s => s.jetIssue j.val 1 (scalarBits 0x11 f).toNat (fun s r => s.jetLui j.val r f))

/-- VEXT (R334): Extract a 64-bit vector element to a scalar register. -/
def execVext (j : Fin 104) (f : ScalarSlot) (s : State) : Host.Outcome State Fault Refusal :=
  whileServing s (fun s => s.jetIssue j.val 1 (scalarBits 0x12 f).toNat (fun s r => s.jetVext j.val r f))

/-- VINS (R334): Insert a scalar into a 64-bit vector element. -/
def execVins (j : Fin 104) (f : ScalarSlot) (s : State) : Host.Outcome State Fault Refusal :=
  whileServing s (fun s => s.jetIssue j.val 1 (scalarBits 0x13 f).toNat (fun s r => s.jetVins j.val r f))

/-- BLDX (R334): Load 8 bowl bytes into a scalar register. -/
def execBldx (j : Fin 104) (f : ScalarSlot) (s : State) : Host.Outcome State Fault Refusal :=
  whileServing s (fun s => s.jetIssue j.val 1 (scalarBits 0x14 f).toNat (fun s r => s.jetBldx j.val r f))

/-- BSTX (R334): Store a scalar register as 8 bowl bytes. -/
def execBstx (j : Fin 104) (f : ScalarSlot) (s : State) : Host.Outcome State Fault Refusal :=
  whileServing s (fun s => s.jetIssue j.val 1 (scalarBits 0x15 f).toNat (fun s r => s.jetBstx j.val r f))

/-- STAMP (R334): Read bench-clock edges into a scalar register. -/
def execStamp (j : Fin 104) (f : ScalarSlot) (s : State) : Host.Outcome State Fault Refusal :=
  whileServing s (fun s => s.jetIssue j.val 1 (scalarBits 0x16 f).toNat (fun s r => s.jetScalar j.val r 1 f (fun _ _ => BitVec.ofNat 64 s.edges)))

end Sys2Proof.Machine
end

