-- ==== Sys2Proof/Machine/RowsSearch.lean ====
section
/-!
DEFINITION. Meanings of the commands of neighbour search.
-/

namespace Sys2Proof.Machine

/-- INDEX_OPEN (R394, R390): Open a search index and bind it to the queue pair's tag. -/
def execIndexOpen (t : Fin 1024) (q : Fin 64) (s : State) : Host.Outcome State Fault Refusal :=
  whileServing s (fun s => s.indexOpen t.val q.val)

/-- INDEX_CLOSE (R407, R401): Close a search index and free its handle. -/
def execIndexClose (t : Fin 1024) (q : Fin 64) (s : State) : Host.Outcome State Fault Refusal :=
  whileServing s (fun s => s.indexClose t.val q.val)

/-- SEARCH (R398, R390, R395, R396, R397, R399, R400, R401): Walk the graph at the registered epoch and write the K best results.
-/
def execSearch (t : Fin 1024) (q : Fin 64) (s : State) : Host.Outcome State Fault Refusal :=
  whileServing s (fun s => s.search t.val q.val)

/-- INSERT (R403, R392, R401, R402, R407): Write new node records and INSERT annex entries and advance the epoch. -/
def execInsert (t : Fin 1024) (q : Fin 64) (s : State) : Host.Outcome State Fault Refusal :=
  whileServing s (fun s => s.insert t.val q.val)

/-- DELETE (R404, R392, R401, R402, R407): Append DELETE annex entries and advance the epoch. -/
def execDelete (t : Fin 1024) (q : Fin 64) (s : State) : Host.Outcome State Fault Refusal :=
  whileServing s (fun s => s.delete t.val q.val)

/-- MERGE (R405, R401): Hold the index and run the tenant merge task over the annex. -/
def execMerge (t : Fin 1024) (q : Fin 64) (s : State) : Host.Outcome State Fault Refusal :=
  whileServing s (fun s => s.merge t.val q.val)

/-- MERGE_TASK_END (R406, R392, R407): The merge task ends; deletes enter the bitmap and the annex empties, or the index fails. -/
def execMergeTaskEnd (t : Fin 1024) (q : Fin 64) (s : State) : Host.Outcome State Fault Refusal :=
  whileServing s (fun s => s.mergeTaskEnd t.val q.val)

end Sys2Proof.Machine
end

