-- ==== Sys2Proof/Machine/RowsSluice.lean ====
section
/-!
DEFINITION. Meanings of the commands of the sluice.
-/

namespace Sys2Proof.Machine

/-- SLUICE_FRAME_ENTRY (R272, R31, R36, R190, R246, R269, R274, R280): A frame for another device, or captured by the inset,
enters the sluice and its VOQ, or spills to the cistern. -/
def execSluiceFrameEntry (port : Fin 48) (f : Frame) (s : State) : Host.Outcome State Fault Refusal :=
  if s.vendorFrame port.val f.typ.toNat then .refused .vendorTest else whileServing s (fun s => s.frameIn port.val f)

/-- CELL_TIME (R276, R31, R32, R162, R247, R269, R272, R273): A cell time passes; matching runs, cells cross and frames are aged
or answered for lost destinations. -/
def execCellTime (s : State) : Host.Outcome State Fault Refusal :=
  whileServing s (fun s => s.cellTime)

/-- CISTERN_READBACK (R288, R287): Frames read back from the cistern enter the on-chip part of their VOQ. -/
def execCisternReadback (input : Fin 52) (output : Fin 52) (vc : Fin 6) (s : State) : Host.Outcome State Fault Refusal :=
  whileServing s (fun s => cisternReadbackStep input.val output.val vc.val s)

/-- ROUTE_SET (R281): GL_ROUTE_CMD SET writes a destination's ports and clears LOST. -/
def execRouteSet (w : Writer) (device : BitVec 14) (p0 : BitVec 6) (p1 : BitVec 6) (p2 : BitVec 6) (p3 : BitVec 6) (count : BitVec 3) (s : State) : Host.Outcome State Fault Refusal :=
  ends (s.writeAs w Reg.GL_ROUTE_CMD false (fun s => s.routeCommand (pack [(4, 1), (14, device.toNat), (6, p0.toNat), (6, p1.toNat), (6, p2.toNat), (6, p3.toNat), (3, count.toNat)])))

/-- ROUTE_MARK_LOST (R281, R292, R413): GL_ROUTE_CMD MARK_LOST marks a destination lost. -/
def execRouteMarkLost (w : Writer) (device : BitVec 14) (s : State) : Host.Outcome State Fault Refusal :=
  ends (s.writeAs w Reg.GL_ROUTE_CMD false (fun s => s.routeCommand (pack [(4, 2), (14, device.toNat)])))

/-- ROUTE_CLEAR (R281): GL_ROUTE_CMD CLEAR removes a destination's route. -/
def execRouteClear (w : Writer) (device : BitVec 14) (s : State) : Host.Outcome State Fault Refusal :=
  ends (s.writeAs w Reg.GL_ROUTE_CMD false (fun s => s.routeCommand (pack [(4, 3), (14, device.toNat)])))

/-- ROUTE_DRAIN_DONE (R281): Held frames for a destination are gone; a SET or CLEAR completes and waiting frames proceed. -/
def execRouteDrainDone (s : State) : Host.Outcome State Fault Refusal :=
  whileServing s (fun s => s.routeDrained)

/-- CLASS_TABLE_WRITE (R283): A class-table write assigns shaping classes to tags on all dies. -/
def execClassTableWrite (w : Writer) (k : Fin 16384) (v : Word) (s : State) : Host.Outcome State Fault Refusal :=
  ends (s.writeAs w (Reg.GL_CLASS_TABLE k.val) false (fun s => s.plainWrite (Reg.GL_CLASS_TABLE k.val) v))

end Sys2Proof.Machine
end

