-- ==== Sys2Proof/Machine/RowsSource.lean ====
section
/-!
DEFINITION. Meanings of the commands of the Golik as a source, and order records.
-/

namespace Sys2Proof.Machine

/-- SOURCE_TIMEOUT (R261, R214, R215, R263, R413, R420, R436): A request the Golik sourced has no response within the timeout and
is reissued or given up. -/
def execSourceTimeout (dst : BitVec 14) (ord : Bool) (seq : BitVec 24) (s : State) : Host.Outcome State Fault Refusal :=
  whileServing s (fun s => s.sourceTimeout dst ord seq)

/-- RETRY_DELAY_EXPIRY (R261): The RETRY delay after a RETRY answer ends and the request is reissued. -/
def execRetryDelayExpiry (dst : BitVec 14) (ord : Bool) (seq : BitVec 24) (s : State) : Host.Outcome State Fault Refusal :=
  whileServing s (fun s => s.retryExpiry dst ord seq)

/-- ORDER_RESET (R224, R267): GL_ORDER_CMD RESET resets one source's order record and echo records. -/
def execOrderReset (w : Writer) (device : BitVec 14) (s : State) : Host.Outcome State Fault Refusal :=
  ends (s.writeAs w Reg.GL_ORDER_CMD false (fun s => s.orderCommand (pack [(4, 1), (14, device.toNat)])))

/-- ORDER_RESET_ALL (R224, R267): GL_ORDER_CMD RESET_ALL resets the order and echo records of every device ID. -/
def execOrderResetAll (w : Writer) (s : State) : Host.Outcome State Fault Refusal :=
  ends (s.writeAs w Reg.GL_ORDER_CMD false (fun s => s.orderCommand (pack [(4, 2)])))

/-- ORDER_RESET_COMPANION (R267, R224): GL_ORDER_CMD RESET_COMPANION resets the companion's order and echo records. -/
def execOrderResetCompanion (w : Writer) (s : State) : Host.Outcome State Fault Refusal :=
  ends (s.writeAs w Reg.GL_ORDER_CMD false (fun s => s.orderCommand (pack [(4, 3)])))

end Sys2Proof.Machine
end

