-- ==== Sys2Proof/Machine/RowsStartup.lean ====
section
/-!
DEFINITION. Meanings of the commands of start-up, the trust block and the image.
-/

namespace Sys2Proof.Machine

/-- TAMPER_TRIP (R508, R473, R493, R509, R511, R512, R544): A tamper sensor trips; its cause latches and the alarm level may rise.
-/
def execTamperTrip (cause : Tamper) (s : State) : Host.Outcome State Fault Refusal :=
  whileAlive s (fun s => s.tamper cause)

/-- ROM_SELFCHECK (R515, R23, R494): The ROM self-check and fuse-bank read complete; a failure hands over to the B2 copy. -/
def execRomSelfcheck (ok : Bool) (s : State) : Host.Outcome State Fault Refusal :=
  whileAlive s (fun s => s.romSelfcheck ok)

/-- WATCHDOG_TIMEOUT (R494, R23, R445, R473, R521, R522): 4 ms pass without a watchdog refresh; B0's trust copy is declared failed
and the standby is released. -/
def execWatchdogTimeout (s : State) : Host.Outcome State Fault Refusal :=
  whileAlive s (fun s => s.takeover 1)

/-- TRUST_SELFCHECK_FAIL (R494, R23, R521, R522): B0's trust copy finds an uncorrectable error in its self-check; the standby is
released. -/
def execTrustSelfcheckFail (s : State) : Host.Outcome State Fault Refusal :=
  whileAlive s (fun s => s.takeover 0)

/-- IMAGE (R312, R518, R522): An IMAGE message writes 128 bytes into the image buffer, or is refused. -/
def execImage (addr : BitVec 46) (data : Line) (s : State) : Host.Outcome State Fault Refusal :=
  ends (s.messageIn s.anyGroup { typ := 0xAC, addr := addr, data := data })

/-- IMAGE_END (R312, R498): IMAGE_END starts the image check, or refuses an oversize length. -/
def execImageEnd (length : BitVec 32) (s : State) : Host.Outcome State Fault Refusal :=
  ends (s.messageIn s.anyGroup { typ := 0xAD, aux := length.setWidth 64 })

/-- IMAGE_BUFFER_TIMEOUT (R518): 1 s passes without an IMAGE from an owning Thoit link; the buffer returns to EMPTY. -/
def execImageBufferTimeout (s : State) : Host.Outcome State Fault Refusal :=
  whileAlive s (fun s => s.imageTimeout)

/-- IMAGE_CHECK_DONE (R498, R297, R312, R483, R495, R499, R515, R518): The image check ends; the image is accepted, or refused
with a reason. -/
def execImageCheckDone (r : ImageFacts) (s : State) : Host.Outcome State Fault Refusal :=
  whileAlive s (fun s => s.imageChecked r)

/-- SELF_TESTS_DONE (R521, R20, R21, R27, R175, R515): The jet, atlas-way and bridge self-tests end; start-up continues or boot
fails. -/
def execSelfTestsDone (r : SelfTest) (s : State) : Host.Outcome State Fault Refusal :=
  whileAlive s (fun s => s.selfTests r)

/-- RESERVOIR_TRAINING_DONE (R136, R54, R96, R104, R113, R135, R145, R151): Reservoir training with repair ends, failed stacks are
declared and the margin is laid out. -/
def execReservoirTrainingDone (r : TrainingResult) (s : State) : Host.Outcome State Fault Refusal :=
  whileAlive s (fun s => s.reservoirsDone r)

/-- BOOT_CLEARING_DONE (R515, R46, R516): Boot clearing has written zero to every line of tier T0 backing. -/
def execBootClearingDone (s : State) : Host.Outcome State Fault Refusal :=
  whileAlive s (fun s => s.clearingDone)

/-- COMMONS_ENTRY (R516, R47, R53, R514, R515, R527): The Golik enters COMMONS once boot clearing has ended and a device ID is
assigned, creating commons parcels. -/
def execCommonsEntry (s : State) : Host.Outcome State Fault Refusal :=
  whileAlive s (fun s => s.commonsEntry)

/-- BRIDGE_EDGE_FAIL (R20, R21, R455, R456, R471, R473, R544): A ring bridge edge fails; traffic is rerouted, or on a second
failure the Golik enters HALTED. -/
def execBridgeEdgeFail (e : Edge) (s : State) : Host.Outcome State Fault Refusal :=
  whileAlive s (fun s => s.bridgeFail e)

/-- FUSE_PULSE_DONE (R511, R502, R512): A 100 µs antifuse pulse ends; the next pulse of the epoch open or the erasure starts, or
erasure completes and raises event 0x9102. -/
def execFusePulseDone (s : State) : Host.Outcome State Fault Refusal :=
  whileAlive s (fun s => s.pulseDone)

end Sys2Proof.Machine
end

