-- ==== Sys2Proof/Machine/RowsTenant.lean ====
section
/-!
DEFINITION. Meanings of the commands of queue pairs, the mover and fences.
-/

namespace Sys2Proof.Machine

/-- QP_ENABLE (R316): ENABLE written 1 in DISABLED starts a queue pair, or fails with BAD_CONFIG. -/
def execQpEnable (w : Writer) (t : Fin 1024) (q : Fin 64) (s : State) : Host.Outcome State Fault Refusal :=
  ends (s.writeAs w (Reg.TN_QP_CTRL t.val q.val) false (fun s => s.qpCtrlWrite t.val q.val true))

/-- QP_DISABLE (R316): ENABLE written 0 stops a queue pair, or returns it to DISABLED once drained. -/
def execQpDisable (w : Writer) (t : Fin 1024) (q : Fin 64) (s : State) : Host.Outcome State Fault Refusal :=
  ends (s.writeAs w (Reg.TN_QP_CTRL t.val q.val) false (fun s => s.qpCtrlWrite t.val q.val false))

/-- QP_CONFIG_WRITE (R316): A write of a queue pair's base or configuration register is stored or discarded. -/
def execQpConfigWrite (w : Writer) (t : Fin 1024) (q : Fin 64) (r : Fin 3) (v : Word) (s : State) : Host.Outcome State Fault Refusal :=
  ends (s.writeAs w (Reg.TN_QP_SQ_BASE t.val q.val + 8 * r.val) false (fun s => s.writeReg (Reg.TN_QP_SQ_BASE t.val q.val + 8 * r.val) v))

/-- SQ_DOORBELL (R317): A write of TN_QP_SQ_TAIL posts descriptors, or puts the queue pair in ERROR. -/
def execSqDoorbell (w : Writer) (t : Fin 1024) (q : Fin 64) (tail : BitVec 16) (s : State) : Host.Outcome State Fault Refusal :=
  ends (s.writeAs w (Reg.TN_QP_SQ_TAIL t.val q.val) false (fun s => s.doorbell t.val q.val tail.toNat))

/-- DESC_FETCH_RETURN (R317, R318, R320, R321, R369): A fetched descriptor arrives and starts, or is found malformed. -/
def execDescFetchReturn (t : Fin 1024) (q : Fin 64) (s : State) : Host.Outcome State Fault Refusal :=
  whileServing s (fun s => s.descFetch t.val q.val)

/-- CQ_HEAD_WRITE (R318): Software advances TN_QP_CQ_HEAD, letting a waiting completion be written. -/
def execCqHeadWrite (w : Writer) (t : Fin 1024) (q : Fin 64) (head : BitVec 16) (s : State) : Host.Outcome State Fault Refusal :=
  ends (s.writeAs w (Reg.TN_QP_CQ_HEAD t.val q.val) false (fun s => s.cqHeadWrite t.val q.val head.toNat))

/-- DESC_NOP (R319): A NOP descriptor completes with RESULT zero. -/
def execDescNop (t : Fin 1024) (q : Fin 64) (s : State) : Host.Outcome State Fault Refusal :=
  whileServing s (fun s => s.descNop t.val q.val)

/-- COPY (R319, R70, R71, R83, R315): A COPY descriptor copies bytes between virtual addresses. -/
def execCopy (t : Fin 1024) (q : Fin 64) (s : State) : Host.Outcome State Fault Refusal :=
  whileServing s (fun s => s.copy t.val q.val)

/-- FILL (R319, R70, R315): A FILL descriptor writes an 8-byte pattern over a range. -/
def execFill (t : Fin 1024) (q : Fin 64) (s : State) : Host.Outcome State Fault Refusal :=
  whileServing s (fun s => s.fill t.val q.val)

/-- TASK (R354, R335, R355, R364, R479): A TASK descriptor places a task in a jet's run queue. -/
def execTask (t : Fin 1024) (q : Fin 64) (s : State) : Host.Outcome State Fault Refusal :=
  whileServing s (fun s => s.taskDesc t.val q.val)

/-- DESC_WRITES_DONE (R318, R319, R321): Every write of a descriptor has completed and its completion is written in ring order. -/
def execDescWritesDone (t : Fin 1024) (q : Fin 64) (s : State) : Host.Outcome State Fault Refusal :=
  whileServing s (fun s => s.descWritesDone t.val q.val)

/-- FENCE_TAG (R324, R60, R85, R181, R323, R382): TN_FENCE_CMD FENCE_TAG fences one tag of the slot. -/
def execFenceTag (w : Writer) (t : Fin 1024) (tag : BitVec 16) (s : State) : Host.Outcome State Fault Refusal :=
  ends (s.writeAs w (Reg.TN_FENCE_CMD t.val) false (fun s => s.fenceCommand t.val (pack [(4, 1), (12, 0), (16, tag.toNat)])))

/-- FENCE_ALL (R324, R60, R85): TN_FENCE_CMD FENCE_ALL fences every valid tag of the slot. -/
def execFenceAll (w : Writer) (t : Fin 1024) (s : State) : Host.Outcome State Fault Refusal :=
  ends (s.writeAs w (Reg.TN_FENCE_CMD t.val) false (fun s => s.fenceCommand t.val (pack [(4, 2)])))

/-- UNFENCE_TAG (R328): TN_FENCE_CMD UNFENCE_TAG clears the fence of a drained tag. -/
def execUnfenceTag (w : Writer) (t : Fin 1024) (tag : BitVec 16) (s : State) : Host.Outcome State Fault Refusal :=
  ends (s.writeAs w (Reg.TN_FENCE_CMD t.val) false (fun s => s.fenceCommand t.val (pack [(4, 3), (12, 0), (16, tag.toNat)])))

/-- UNFENCE_ALL (R328): TN_FENCE_CMD UNFENCE_ALL clears the fences of every tag of the slot. -/
def execUnfenceAll (w : Writer) (t : Fin 1024) (s : State) : Host.Outcome State Fault Refusal :=
  ends (s.writeAs w (Reg.TN_FENCE_CMD t.val) false (fun s => s.fenceCommand t.val (pack [(4, 4)])))

/-- TENANT_RESET (R329, R80, R85, R323, R383, R407, R438, R463): TN_RESET_CMD RESET returns the slot's state to reset values. -/
def execTenantReset (w : Writer) (t : Fin 1024) (s : State) : Host.Outcome State Fault Refusal :=
  ends (s.writeAs w (Reg.TN_RESET_CMD t.val) false (fun s => s.resetCommand t.val (pack [(4, 1)])))

/-- FENCE_DRAINED (R327, R328): A fenced tag becomes drained; DRAINING falls and event 0x6020 is raised. -/
def execFenceDrained (tag : BitVec 16) (s : State) : Host.Outcome State Fault Refusal :=
  whileServing s (fun s => s.fenceDrained tag)

end Sys2Proof.Machine
end

