-- ==== Sys2Proof/Machine/RowsThoit.lean ====
section
/-!
DEFINITION. Meanings of the commands of the Thoit link.
-/

namespace Sys2Proof.Machine

/-- THOIT_TRAIN_TIMEOUT (R296, R299, R473): A Thoit group does not reach UP within 100 ms and restarts, or is DOWN after three
failures. -/
def execThoitTrainTimeout (g : Fin 2) (s : State) : Host.Outcome State Fault Refusal :=
  whileServing s (fun s => s.thoitTrainTimeout g.val)

/-- THOIT_ENABLE_WRITE (R296): A write of GL_THOIT_CFG ENABLE holds both groups down or starts training. -/
def execThoitEnableWrite (w : Writer) (enable : Bool) (s : State) : Host.Outcome State Fault Refusal :=
  ends (s.writeAs w Reg.GL_THOIT_CFG false (fun s => s.thoitEnable (pack [(1, bitN enable)])))

/-- THOIT_CONTROL_HALF_RX (R305, R154, R167, R224, R296, R297, R298, R300): A control half arrives with acks, credits, GrantAcks
and training, swap or rejoin flags. -/
def execThoitControlHalfRx (g : Fin 2) (m : ControlHalf) (s : State) : Host.Outcome State Fault Refusal :=
  whileServing s (fun s => (s.replayIn g.val m).controlHalf g.val m)

/-- THOIT_FLIT_RX (R302, R24, R68, R295, R303, R304, R306, R307): A data flit arrives and its messages are taken, or it is
discarded for replay. -/
def execThoitFlitRx (g : Fin 2) (slot : Fin 3) (m : Flit) (s : State) : Host.Outcome State Fault Refusal :=
  if s.flitVendor g.val m then .refused .vendorTest else whileServing s (fun s => s.flitIn g.val slot.val m)

/-- THOIT_CYCLE (R306, R34, R76, R294, R295, R302, R305, R307): A transmit link cycle begins and carries flits and a control half
with receipts. -/
def execThoitCycle (g : Fin 2) (s : State) : Host.Outcome State Fault Refusal :=
  whileServing s (fun s => s.thoitCycle g.val)

/-- THOIT_LANE_FAILURE (R298, R299): A Thoit lane fails and is spared, or the group retrains. -/
def execThoitLaneFailure (g : Fin 2) (lane : Fin 17) (s : State) : Host.Outcome State Fault Refusal :=
  whileServing s (fun s => s.thoitLaneFailure g.val lane.val)

/-- THOIT_LINK_LOSS_TIMEOUT (R301, R182, R413): Both groups have been DOWN for the loss time; the link is LOST and port 0 is lost.
-/
def execThoitLinkLossTimeout (s : State) : Host.Outcome State Fault Refusal :=
  whileServing s (fun s => s.thoitLoss)

/-- REG_READ (R311, R7, R9, R58): A Thoit REG_READ reads a register line with management rights. -/
def execRegRead (f : Frame) (s : State) : Host.Outcome State Fault Refusal :=
  whileServing s (fun s => s.messageIn (s.msgGroup f) { f with typ := 0xA3 })

/-- REG_WRITE (R311, R7, R8, R9, R58): A Thoit REG_WRITE writes a register line with management rights. -/
def execRegWrite (f : Frame) (s : State) : Host.Outcome State Fault Refusal :=
  let g : Frame := { f with typ := 0xA4 };
  if s.messageVendor (s.msgGroup f) g then .refused .vendorTest else whileServing s (fun s => s.messageIn (s.msgGroup f) g)

/-- T2_ANS (R411, R413, R420): A tier T2 answer arrives and the home access waiting on it proceeds. -/
def execT2Ans (f : Frame) (s : State) : Host.Outcome State Fault Refusal :=
  whileServing s (fun s => s.messageIn (s.msgGroup f) { f with typ := 0xAA })

/-- THOIT_LANE_LOCK_DONE (R296): The 50 ms lock window of Thoit group training ends, and the lanes that locked are marked usable
for the INIT exchange. -/
def execThoitLaneLockDone (g : Fin 2) (usable : BitVec 17) (s : State) : Host.Outcome State Fault Refusal :=
  whileServing s (fun s => s.thoitLocked g.val usable)

end Sys2Proof.Machine
end

