-- ==== Sys2Proof/Machine/RowsTide.lean ====
section
/-!
DEFINITION. Meanings of the commands of the tide: maps, channels, slots, reads and the traverse.
-/

namespace Sys2Proof.Machine

/-- TIDE_MAP_ENTRY_WRITE (R99): A write to a tide-map entry stores it, or is discarded while the map is valid or validating. -/
def execTideMapEntryWrite (w : Writer) (die : Fin 4) (map : Fin 8) (hot : Bool) (group : Fin 512) (v : Word) (s : State) : Host.Outcome State Fault Refusal :=
  ends (s.writeAs w (Reg.BS_TIDE_MAP die.val (1024 * map.val + 512 * bitN hot + group.val)) false (fun s => s.mapEntryWrite die.val (1024 * map.val + 512 * bitN hot + group.val) v))

/-- VALIDATE (R100, R101): BS_TIDE_CMD VALIDATE starts checking a map against Table 4-3 and computing FWAIT. -/
def execValidate (w : Writer) (die : Fin 4) (map : Fin 8) (fdepth : BitVec 5) (s : State) : Host.Outcome State Fault Refusal :=
  ends (s.writeAs w (Reg.BS_TIDE_CMD die.val) false (fun s => s.tideCommand die.val (pack [(4, 1), (3, map.val), (1, 0), (5, fdepth.toNat)])))

/-- VALIDATE_DONE (R101, R100): The legality check ends; the map becomes VALID or the command reports ILLEGAL. -/
def execValidateDone (die : Fin 4) (s : State) : Host.Outcome State Fault Refusal :=
  whileServing s (fun s => validateDoneStep die.val s)

/-- CLEAR_MAP (R102): BS_TIDE_CMD CLEAR_MAP clears a map's VALID and figures unless it is in use. -/
def execClearMap (w : Writer) (die : Fin 4) (map : Fin 8) (s : State) : Host.Outcome State Fault Refusal :=
  ends (s.writeAs w (Reg.BS_TIDE_CMD die.val) false (fun s => s.tideCommand die.val (pack [(4, 2), (3, map.val)])))

/-- CHAN_CFG_WRITE (R103): A write of ST_CHAN_CFG sets the map a channel is to run and its DORMANT bit. -/
def execChanCfgWrite (w : Writer) (chan : Fin 192) (map : Fin 8) (dormant : Bool) (s : State) : Host.Outcome State Fault Refusal :=
  ends (s.writeAs w (chanCfg chan.val) false (fun s => s.chanCfgWrite chan.val map.val dormant))

/-- FORCE_HOT_WRITE (R113, R114, R553): A write that changes FORCE_HOT starts or cancels a variant switch. -/
def execForceHotWrite (w : Writer) (stack : Fin 12) (hot : Bool) (s : State) : Host.Outcome State Fault Refusal :=
  ends (s.writeAs w (Reg.ST_TIDE_VAR stack.val) false (fun s => s.forceHotWrite stack.val hot))

/-- CALENDAR_BOUNDARY (R96, R103, R104, R105, R106, R113, R114, R115): A basin die's calendar begins; BS_CAL_COUNT advances and
channels take maps, switch variants or sleep. -/
def execCalendarBoundary (die : Fin 4) (s : State) : Host.Outcome State Fault Refusal :=
  whileServing s (fun s => calendarBoundaryStep die.val s)

/-- CHANNEL_WAKE_DONE (R106, R479): A channel finishes leaving self-refresh and joins its map at the next boundary. -/
def execChannelWakeDone (chan : Fin 192) (s : State) : Host.Outcome State Fault Refusal :=
  whileServing s (fun s => channelWakeDoneStep chan.val s)

/-- SLOT (R111, R46, R52, R87, R88, R90, R95, R104): A command-clock slot passes; the channel performs its refresh, calibration, E
access, F issue or S work. -/
def execSlot (chan : Fin 192) (answered : Bool) (s : State) : Host.Outcome State Fault Refusal :=
  whileServing s (fun s => s.slotCore chan.val answered)

/-- ARRAY_READ_RETURN (R123, R87, R110, R117, R118, R119, R121, R122): A read's line returns 96 slots after issue, each word is
decoded and the data goes on to its user. -/
def execArrayReadReturn (chan : Fin 192) (d : Decoded) (s : State) : Host.Outcome State Fault Refusal :=
  whileServing s (fun s => s.readReturn chan.val d)

/-- MERGE_OPEN_TIMEOUT (R119): A merge-buffer entry has been open for the limit and starts to close. -/
def execMergeOpenTimeout (chan : Fin 192) (s : State) : Host.Outcome State Fault Refusal :=
  whileServing s (fun s => mergeOpenTimeoutStep chan.val s)

/-- RECONSTRUCT_DONE (R133, R121, R126, R127, R128, R131, R138, R139): A reconstruction step ends with the XOR of the stripe, or
finds the line unrecoverable. -/
def execReconstructDone (line : BitVec 39) (found : Bool) (s : State) : Host.Outcome State Fault Refusal :=
  whileServing s (fun s => s.reconstructCore line.toNat found)

/-- PARITY_UPDATE_RX (R134, R18): A write's difference reaches the parity line's die, which reads, updates and writes parity. -/
def execParityUpdateRx (line : BitVec 39) (s : State) : Host.Outcome State Fault Refusal :=
  whileServing s (fun s => parityUpdateRxStep line.toNat s)

/-- TRV_MODE_WRITE (R140): A write of GL_TRV_MODE switches the traverse between idle-cycle and range-pass modes. -/
def execTrvModeWrite (w : Writer) (rangePass : Bool) (s : State) : Host.Outcome State Fault Refusal :=
  ends (s.writeAs w Reg.GL_TRV_MODE true (fun s => s.trvModeWrite rangePass))

/-- TRV_GO (R143): GL_TRV_CMD GO starts a range pass. -/
def execTrvGo (w : Writer) (passId : BitVec 16) (s : State) : Host.Outcome State Fault Refusal :=
  ends (s.writeAs w Reg.GL_TRV_CMD false (fun s => s.trvCommand (pack [(2, 1), (30, 0), (16, passId.toNat)])))

/-- TRV_ABORT (R143): GL_TRV_CMD ABORT ends a running range pass. -/
def execTrvAbort (w : Writer) (s : State) : Host.Outcome State Fault Refusal :=
  ends (s.writeAs w Reg.GL_TRV_CMD false (fun s => s.trvCommand (pack [(2, 2)])))

end Sys2Proof.Machine
end

