-- ==== Sys2Proof/Machine/RowsTier.lean ====
section
/-!
DEFINITION. Meanings of the commands of tiers, lending, custody and the cascade.
-/

namespace Sys2Proof.Machine

/-- MOVE (R418, R55, R415, R417, R419): GL_MOVE_CMD MOVE starts a piece move in PHASE COPY. -/
def execMove (w : Writer) (parcel : Fin 2048) (piece : Fin 32) (toPlace : BitVec 2) (s : State) : Host.Outcome State Fault Refusal :=
  ends (s.writeAs w Reg.GL_MOVE_CMD false (fun s => s.moveCommand (pack [(4, 1), (11, parcel.val), (5, piece.val), (2, toPlace.toNat)])))

/-- MOVE_COPY_DONE (R418, R419): The copy passes end and the piece enters PHASE CUT. -/
def execMoveCopyDone (parcel : Fin 2048) (piece : Fin 32) (s : State) : Host.Outcome State Fault Refusal :=
  whileServing s (fun s => s.moveCopyDone parcel.val piece.val)

/-- MOVE_CUT_DRAINED (R418, R410, R412, R419, R421): Admitted requests on the piece complete; the last lines copy and the entry
settles at the new place. -/
def execMoveCutDrained (parcel : Fin 2048) (piece : Fin 32) (s : State) : Host.Outcome State Fault Refusal :=
  whileServing s (fun s => s.moveCutDrained parcel.val piece.val)

/-- LEND (R414, R416): GL_LEND_CMD LEND lends a parcel to a borrower. -/
def execLend (w : Writer) (parcel : Fin 2048) (device : BitVec 14) (s : State) : Host.Outcome State Fault Refusal :=
  ends (s.writeAs w Reg.GL_LEND_CMD false (fun s => s.lendCommand (pack [(4, 1), (11, parcel.val), (1, 0), (14, device.toNat)])))

/-- UNLEND (R416): GL_LEND_CMD UNLEND ends a lend. -/
def execUnlend (w : Writer) (parcel : Fin 2048) (s : State) : Host.Outcome State Fault Refusal :=
  ends (s.writeAs w Reg.GL_LEND_CMD false (fun s => s.lendCommand (pack [(4, 2), (11, parcel.val)])))

/-- BORROW (R415, R416): GL_LEND_CMD BORROW records a borrowed parcel. -/
def execBorrow (w : Writer) (parcel : Fin 2048) (device : BitVec 14) (s : State) : Host.Outcome State Fault Refusal :=
  ends (s.writeAs w Reg.GL_LEND_CMD false (fun s => s.lendCommand (pack [(4, 3), (11, parcel.val), (1, 0), (14, device.toNat)])))

/-- UNBORROW (R415, R416): GL_LEND_CMD UNBORROW clears an unused borrow-list entry. -/
def execUnborrow (w : Writer) (parcel : Fin 2048) (device : BitVec 14) (s : State) : Host.Outcome State Fault Refusal :=
  ends (s.writeAs w Reg.GL_LEND_CMD false (fun s => s.lendCommand (pack [(4, 4), (11, parcel.val), (1, 0), (14, device.toNat)])))

/-- HOLD_CREATE (R431, R430): Create an OWNER custody record for a holding. -/
def execHoldCreate (t : Fin 1024) (q : Fin 64) (s : State) : Host.Outcome State Fault Refusal :=
  whileServing s (fun s => s.holdCreate t.val q.val)

/-- HOLD_RENEW (R431): Extend a holding's retention. -/
def execHoldRenew (t : Fin 1024) (q : Fin 64) (s : State) : Host.Outcome State Fault Refusal :=
  whileServing s (fun s => s.holdRenew t.val q.val)

/-- HOLD_DROP (R431, R430): Free a holding. -/
def execHoldDrop (t : Fin 1024) (q : Fin 64) (s : State) : Host.Outcome State Fault Refusal :=
  whileServing s (fun s => s.holdDrop t.val q.val)

/-- HOLD_OFFER (R433, R431, R432): Start a custody exchange by sending OFFER to the receiving Golik. -/
def execHoldOffer (t : Fin 1024) (q : Fin 64) (s : State) : Host.Outcome State Fault Refusal :=
  whileServing s (fun s => s.holdOffer t.val q.val)

/-- OFFER_RX (R434, R437): An OFFER reaches the receiver and is accepted or refused under Table 16-8. -/
def execOfferRx (port : Fin 48) (f : Frame) (s : State) : Host.Outcome State Fault Refusal :=
  whileServing s (fun s => s.frameIn port.val { f with typ := 0x60 })

/-- ACCEPT_RX (R436, R433): An ACCEPT reaches the offerer, which releases the holding and sends RELEASE. -/
def execAcceptRx (port : Fin 48) (f : Frame) (s : State) : Host.Outcome State Fault Refusal :=
  whileServing s (fun s => s.frameIn port.val { f with typ := 0x61 })

/-- CUSTODY_RELEASE_RX (R435): A custody RELEASE reaches the receiver, which makes its record OWNER. -/
def execCustodyReleaseRx (port : Fin 48) (f : Frame) (s : State) : Host.Outcome State Fault Refusal :=
  whileServing s (fun s => s.frameIn port.val { f with typ := 0x62 })

/-- HOLDING_DUE_EXPIRY (R431): An OWNER record's retention ends; the holding is freed and event 0x6130 is raised. -/
def execHoldingDueExpiry (t : Fin 1024) (key : Word) (s : State) : Host.Outcome State Fault Refusal :=
  whileServing s (fun s => s.holdingExpires t.val key.toNat)

/-- ACCEPTED_DUE_EXPIRY (R435): An ACCEPTED record's release wait ends; it becomes UNRESOLVED and event 0x6132 is raised. -/
def execAcceptedDueExpiry (t : Fin 1024) (key : Word) (s : State) : Host.Outcome State Fault Refusal :=
  whileServing s (fun s => s.acceptedExpires t.val key.toNat)

/-- TOMBSTONE_EXPIRY (R436): A RELEASED record's tombstone time passes and it becomes FREE. -/
def execTombstoneExpiry (t : Fin 1024) (key : Word) (s : State) : Host.Outcome State Fault Refusal :=
  whileServing s (fun s => s.tombstoneExpires t.val key.toNat)

/-- CUSTODY_FIND (R439): GL_CUSTODY_CMD FIND reads the custody record of a key. -/
def execCustodyFind (w : Writer) (t : Fin 1024) (s : State) : Host.Outcome State Fault Refusal :=
  ends (s.writeAs w Reg.GL_CUSTODY_CMD false (fun s => s.custodyCommand (pack [(4, 1), (10, t.val)])))

/-- CUSTODY_PROMOTE (R439): GL_CUSTODY_CMD PROMOTE makes an UNRESOLVED-from-ACCEPTED record OWNER. -/
def execCustodyPromote (w : Writer) (t : Fin 1024) (s : State) : Host.Outcome State Fault Refusal :=
  ends (s.writeAs w Reg.GL_CUSTODY_CMD false (fun s => s.custodyCommand (pack [(4, 2), (10, t.val)])))

/-- CUSTODY_RESTORE (R439): GL_CUSTODY_CMD RESTORE makes an UNRESOLVED-from-OFFERED record OWNER at a new generation. -/
def execCustodyRestore (w : Writer) (t : Fin 1024) (s : State) : Host.Outcome State Fault Refusal :=
  ends (s.writeAs w Reg.GL_CUSTODY_CMD false (fun s => s.custodyCommand (pack [(4, 3), (10, t.val)])))

/-- CUSTODY_DISCARD (R439): GL_CUSTODY_CMD DISCARD frees a custody record. -/
def execCustodyDiscard (w : Writer) (t : Fin 1024) (s : State) : Host.Outcome State Fault Refusal :=
  ends (s.writeAs w Reg.GL_CUSTODY_CMD false (fun s => s.custodyCommand (pack [(4, 4), (10, t.val)])))

/-- CASCADE (R425, R426): Start streaming a program of windows through the staging area. -/
def execCascade (t : Fin 1024) (q : Fin 64) (s : State) : Host.Outcome State Fault Refusal :=
  whileServing s (fun s => s.cascade t.val q.val)

/-- CASCADE_STAGED (R426): A window's staging completes before its deadline. -/
def execCascadeStaged (t : Fin 1024) (q : Fin 64) (s : State) : Host.Outcome State Fault Refusal :=
  whileServing s (fun s => s.cascadeStaged t.val q.val)

/-- CASCADE_DEADLINE (R426, R429): A window's deadline passes unstaged; staging is abandoned and the fallback applies. -/
def execCascadeDeadline (t : Fin 1024) (q : Fin 64) (s : State) : Host.Outcome State Fault Refusal :=
  whileServing s (fun s => s.cascadeDeadline t.val q.val)

/-- CASCADE_DELIVER (R427, R428, R429): A window's previous mark and gate are met; it is delivered and its mark seal-stored. -/
def execCascadeDeliver (t : Fin 1024) (q : Fin 64) (s : State) : Host.Outcome State Fault Refusal :=
  whileServing s (fun s => s.cascadeDeliver t.val q.val)

end Sys2Proof.Machine
end

