-- ==== Sys2Proof/Machine/RowsVector.lean ====
section
/-!
DEFINITION. Meanings of the commands of the vector slot of a bundle.
-/

namespace Sys2Proof.Machine

/-- VADD (R338, R334, R345): Vector addition. -/
def execVadd (j : Fin 104) (f : VectorSlot) (s : State) : Host.Outcome State Fault Refusal :=
  whileServing s (fun s => s.jetIssue j.val 2 (vectorBits 0x01 f).toNat (fun s r => s.jetVector j.val r (fun g _ => vecAdd f g)))

/-- VSUB (R338): Vector subtraction. -/
def execVsub (j : Fin 104) (f : VectorSlot) (s : State) : Host.Outcome State Fault Refusal :=
  whileServing s (fun s => s.jetIssue j.val 2 (vectorBits 0x02 f).toNat (fun s r => s.jetVector j.val r (fun g _ => vecSub f g)))

/-- VMUL (R338): Vector multiplication. -/
def execVmul (j : Fin 104) (f : VectorSlot) (s : State) : Host.Outcome State Fault Refusal :=
  whileServing s (fun s => s.jetIssue j.val 2 (vectorBits 0x03 f).toNat (fun s r => s.jetVector j.val r (fun g _ => vecMul f g)))

/-- VFMA (R338): Vector fused multiply-add. -/
def execVfma (j : Fin 104) (f : VectorSlot) (s : State) : Host.Outcome State Fault Refusal :=
  whileServing s (fun s => s.jetIssue j.val 2 (vectorBits 0x04 f).toNat (fun s r => s.jetVector j.val r (fun g free => vecFma f g free)))

/-- VMIN (R338): Vector minimum. -/
def execVmin (j : Fin 104) (f : VectorSlot) (s : State) : Host.Outcome State Fault Refusal :=
  whileServing s (fun s => s.jetIssue j.val 2 (vectorBits 0x05 f).toNat (fun s r => s.jetVector j.val r (fun g free => vecPick true f g free)))

/-- VMAX (R338): Vector maximum. -/
def execVmax (j : Fin 104) (f : VectorSlot) (s : State) : Host.Outcome State Fault Refusal :=
  whileServing s (fun s => s.jetIssue j.val 2 (vectorBits 0x06 f).toNat (fun s r => s.jetVector j.val r (fun g free => vecPick false f g free)))

/-- VDOT (R340, R339): Vector dot product accumulating into FP32 or INT32 lanes. -/
def execVdot (j : Fin 104) (f : VectorSlot) (s : State) : Host.Outcome State Fault Refusal :=
  whileServing s (fun s => s.jetIssue j.val 2 (vectorBits 0x07 f).toNat (fun s r => s.jetVector j.val r (fun g _ => vecDot f g)))

/-- VCVT (R339, R338): Vector format conversion, computing MX scales where needed. -/
def execVcvt (j : Fin 104) (f : VectorSlot) (s : State) : Host.Outcome State Fault Refusal :=
  whileServing s (fun s => s.jetIssue j.val 2 (vectorBits 0x08 f).toNat (fun s r => s.jetVector j.val r (fun g free => convert f g free)))

/-- VUNPK6 (R339): Unpack packed MXFP6 values. -/
def execVunpk6 (j : Fin 104) (f : VectorSlot) (s : State) : Host.Outcome State Fault Refusal :=
  whileServing s (fun s => s.jetIssue j.val 2 (vectorBits 0x09 f).toNat (fun s r => s.jetVector j.val r (fun g _ => vecUnpack f g)))

/-- VPACK6 (R339): Pack MXFP6 values. -/
def execVpack6 (j : Fin 104) (f : VectorSlot) (s : State) : Host.Outcome State Fault Refusal :=
  whileServing s (fun s => s.jetIssue j.val 2 (vectorBits 0x0A f).toNat (fun s r => s.jetVector j.val r (fun g free => vecPack f g free)))

/-- VCMP (R334): Lane compare into a mask register. -/
def execVcmp (j : Fin 104) (f : VectorSlot) (s : State) : Host.Outcome State Fault Refusal :=
  whileServing s (fun s => s.jetIssue j.val 2 (vectorBits 0x0B f).toNat (fun s r => s.jetVector j.val r (fun g free => vecCompare f g free)))

/-- VSEL (R334): Lane select under a mask. -/
def execVsel (j : Fin 104) (f : VectorSlot) (s : State) : Host.Outcome State Fault Refusal :=
  whileServing s (fun s => s.jetIssue j.val 2 (vectorBits 0x0C f).toNat (fun s r => s.jetVector j.val r (fun g _ => vecSelect f g)))

/-- VPERM (R334): Lane permutation. -/
def execVperm (j : Fin 104) (f : VectorSlot) (s : State) : Host.Outcome State Fault Refusal :=
  whileServing s (fun s => s.jetIssue j.val 2 (vectorBits 0x0D f).toNat (fun s r => s.jetVector j.val r (fun g _ => vecPermute f g)))

/-- VRED (R334): Reduction by a fixed pairwise tree. -/
def execVred (j : Fin 104) (f : VectorSlot) (s : State) : Host.Outcome State Fault Refusal :=
  whileServing s (fun s => s.jetIssue j.val 2 (vectorBits 0x0E f).toNat (fun s r => s.jetVector j.val r (fun g free => vecReduce f g free)))

/-- VBCAST (R334): Broadcast a scalar to every lane. -/
def execVbcast (j : Fin 104) (f : VectorSlot) (s : State) : Host.Outcome State Fault Refusal :=
  whileServing s (fun s => s.jetIssue j.val 2 (vectorBits 0x0F f).toNat (fun s r => s.jetVector j.val r (fun g _ => vecBroadcast f g)))

/-- PQSUM (R341): Sum PQ table entries for 16 code vectors. -/
def execPqsum (j : Fin 104) (f : VectorSlot) (s : State) : Host.Outcome State Fault Refusal :=
  whileServing s (fun s => s.jetIssue j.val 2 (vectorBits 0x10 f).toNat (fun s r => s.jetVector j.val r (fun g _ => vecPqsum f g)))

/-- VMSMOV (R339): Move vector bits into a scale register. -/
def execVmsmov (j : Fin 104) (f : VectorSlot) (s : State) : Host.Outcome State Fault Refusal :=
  whileServing s (fun s => s.jetIssue j.val 2 (vectorBits 0x11 f).toNat (fun s r => s.jetVector j.val r (fun g _ => vecMsmov f g)))

/-- ACCINIT (R344): Zero exact accumulators, set their scale and clear their flags. -/
def execAccinit (j : Fin 104) (f : VectorSlot) (s : State) : Host.Outcome State Fault Refusal :=
  whileServing s (fun s => s.jetIssue j.val 2 (vectorBits 0x18 f).toNat (fun s r => s.jetVector j.val r (fun _ _ => accInit f)))

/-- ACCADD (R343): Add lanes exactly into exact accumulators. -/
def execAccadd (j : Fin 104) (f : VectorSlot) (s : State) : Host.Outcome State Fault Refusal :=
  whileServing s (fun s => s.jetIssue j.val 2 (vectorBits 0x19 f).toNat (fun s r => s.jetVector j.val r (fun g _ => accAdd f g)))

/-- ACCSUM (R343): Add every active lane exactly into one accumulator. -/
def execAccsum (j : Fin 104) (f : VectorSlot) (s : State) : Host.Outcome State Fault Refusal :=
  whileServing s (fun s => s.jetIssue j.val 2 (vectorBits 0x1A f).toNat (fun s r => s.jetVector j.val r (fun g _ => accSum f g)))

/-- ACCCVT (R344, R342): Convert exact accumulators to FP32 or BF16 lanes. -/
def execAcccvt (j : Fin 104) (f : VectorSlot) (s : State) : Host.Outcome State Fault Refusal :=
  whileServing s (fun s => s.jetIssue j.val 2 (vectorBits 0x1B f).toNat (fun s r => s.jetVector j.val r (fun g _ => accCvt f g)))

end Sys2Proof.Machine
end

