-- ==== Sys2Proof/Machine/Dispatch.lean ====
section
/-!
DEFINITION. Dispatch: one arm per command, each one direct call of its meaning.
-/

namespace Sys2Proof.Machine

def exec (i : Instr) (s : State) : Host.Outcome State Fault Refusal :=
  match i with
  | .inputRise vin => Sys2Proof.Machine.execInputRise vin s
  | .powerOnResetRelease fuses straps => Sys2Proof.Machine.execPowerOnResetRelease fuses straps s
  | .inputBelowWarning vin => Sys2Proof.Machine.execInputBelowWarning vin s
  | .inputRecovered vin => Sys2Proof.Machine.execInputRecovered vin s
  | .inputBelowTurnOff vin => Sys2Proof.Machine.execInputBelowTurnOff vin s
  | .overvoltageShutdown vin => Sys2Proof.Machine.execOvervoltageShutdown vin s
  | .powerStageFault cause phasesLeft inRegulation => Sys2Proof.Machine.execPowerStageFault cause phasesLeft inRegulation s
  | .powerMeasure watts vin => Sys2Proof.Machine.execPowerMeasure watts vin s
  | .clockLost die src => Sys2Proof.Machine.execClockLost die src s
  | .sensorRead t => Sys2Proof.Machine.execSensorRead t s
  | .modRstAssert => Sys2Proof.Machine.execModRstAssert s
  | .modRstRelease => Sys2Proof.Machine.execModRstRelease s
  | .jtagInstructionLoad v => Sys2Proof.Machine.execJtagInstructionLoad v s
  | .tamperTrip cause => Sys2Proof.Machine.execTamperTrip cause s
  | .romSelfcheck ok => Sys2Proof.Machine.execRomSelfcheck ok s
  | .watchdogTimeout => Sys2Proof.Machine.execWatchdogTimeout s
  | .trustSelfcheckFail => Sys2Proof.Machine.execTrustSelfcheckFail s
  | .image addr data => Sys2Proof.Machine.execImage addr data s
  | .imageEnd length => Sys2Proof.Machine.execImageEnd length s
  | .imageBufferTimeout => Sys2Proof.Machine.execImageBufferTimeout s
  | .imageCheckDone r => Sys2Proof.Machine.execImageCheckDone r s
  | .selfTestsDone r => Sys2Proof.Machine.execSelfTestsDone r s
  | .reservoirTrainingDone r => Sys2Proof.Machine.execReservoirTrainingDone r s
  | .bootClearingDone => Sys2Proof.Machine.execBootClearingDone s
  | .commonsEntry => Sys2Proof.Machine.execCommonsEntry s
  | .bridgeEdgeFail e => Sys2Proof.Machine.execBridgeEdgeFail e s
  | .readShared via f => Sys2Proof.Machine.execReadShared via f s
  | .readOwn via f => Sys2Proof.Machine.execReadOwn via f s
  | .upgrade via f => Sys2Proof.Machine.execUpgrade via f s
  | .readOnce via f => Sys2Proof.Machine.execReadOnce via f s
  | .writeBack via f => Sys2Proof.Machine.execWriteBack via f s
  | .evictClean via f => Sys2Proof.Machine.execEvictClean via f s
  | .writeLine via f => Sys2Proof.Machine.execWriteLine via f s
  | .maskedWriteLine via f => Sys2Proof.Machine.execMaskedWriteLine via f s
  | .sealStore via f => Sys2Proof.Machine.execSealStore via f s
  | .gwrite via f => Sys2Proof.Machine.execGwrite via f s
  | .gmwrite via f => Sys2Proof.Machine.execGmwrite via f s
  | .atomic via f => Sys2Proof.Machine.execAtomic via f s
  | .gaugeIncrement t g => Sys2Proof.Machine.execGaugeIncrement t g s
  | .gaugeCountWrite w t g v => Sys2Proof.Machine.execGaugeCountWrite w t g v s
  | .sealWaitTimeout line => Sys2Proof.Machine.execSealWaitTimeout line s
  | .echoRecordExpiry die src seq => Sys2Proof.Machine.execEchoRecordExpiry die src seq s
  | .probeAnswerRx via f => Sys2Proof.Machine.execProbeAnswerRx via f s
  | .grantAckRx via f => Sys2Proof.Machine.execGrantAckRx via f s
  | .holdEndExpiry line => Sys2Proof.Machine.execHoldEndExpiry line s
  | .probeOverdue line port => Sys2Proof.Machine.execProbeOverdue line port s
  | .pinSweepDone die piece => Sys2Proof.Machine.execPinSweepDone die piece s
  | .cportSet w entry device kind => Sys2Proof.Machine.execCportSet w entry device kind s
  | .cportClear w entry => Sys2Proof.Machine.execCportClear w entry s
  | .cportLose w entry => Sys2Proof.Machine.execCportLose w entry s
  | .cportWalkDone => Sys2Proof.Machine.execCportWalkDone s
  | .clearLost w parcel => Sys2Proof.Machine.execClearLost w parcel s
  | .clearLostDone => Sys2Proof.Machine.execClearLostDone s
  | .insetCfgWrite w enable level => Sys2Proof.Machine.execInsetCfgWrite w enable level s
  | .memberSet w entry device kind => Sys2Proof.Machine.execMemberSet w entry device kind s
  | .memberClear w entry => Sys2Proof.Machine.execMemberClear w entry s
  | .memberLose w entry => Sys2Proof.Machine.execMemberLose w entry s
  | .flushLost w tag => Sys2Proof.Machine.execFlushLost w tag s
  | .memberWalkDone => Sys2Proof.Machine.execMemberWalkDone s
  | .memberCapture port f => Sys2Proof.Machine.execMemberCapture port f s
  | .upstreamProbeRx port f => Sys2Proof.Machine.execUpstreamProbeRx port f s
  | .grantRx port f => Sys2Proof.Machine.execGrantRx port f s
  | .probeRx port f => Sys2Proof.Machine.execProbeRx port f s
  | .responseRx port f => Sys2Proof.Machine.execResponseRx port f s
  | .redirectRx port f => Sys2Proof.Machine.execRedirectRx port f s
  | .sourceTimeout dst ord seq => Sys2Proof.Machine.execSourceTimeout dst ord seq s
  | .retryDelayExpiry dst ord seq => Sys2Proof.Machine.execRetryDelayExpiry dst ord seq s
  | .orderReset w device => Sys2Proof.Machine.execOrderReset w device s
  | .orderResetAll w => Sys2Proof.Machine.execOrderResetAll w s
  | .orderResetCompanion w => Sys2Proof.Machine.execOrderResetCompanion w s
  | .grant w g => Sys2Proof.Machine.execGrant w g s
  | .setRights w parcel rights => Sys2Proof.Machine.execSetRights w parcel rights s
  | .setRightsDone => Sys2Proof.Machine.execSetRightsDone s
  | .parcelRelease w parcel => Sys2Proof.Machine.execParcelRelease w parcel s
  | .releaseDrained => Sys2Proof.Machine.execReleaseDrained s
  | .parcelFreed parcel => Sys2Proof.Machine.execParcelFreed parcel s
  | .mgmtTagWrite w tag valid => Sys2Proof.Machine.execMgmtTagWrite w tag valid s
  | .ctxSet w entry tag tenant => Sys2Proof.Machine.execCtxSet w entry tag tenant s
  | .ctxClear w entry => Sys2Proof.Machine.execCtxClear w entry s
  | .xans reqId result size perm base => Sys2Proof.Machine.execXans reqId result size perm base s
  | .xlateTimeout reqId => Sys2Proof.Machine.execXlateTimeout reqId s
  | .xinvAll w => Sys2Proof.Machine.execXinvAll w s
  | .xinvContext w tag => Sys2Proof.Machine.execXinvContext w tag s
  | .xinvRange w tag => Sys2Proof.Machine.execXinvRange w tag s
  | .xinvDone => Sys2Proof.Machine.execXinvDone s
  | .tideMapEntryWrite w die map hot group v => Sys2Proof.Machine.execTideMapEntryWrite w die map hot group v s
  | .validate w die map fdepth => Sys2Proof.Machine.execValidate w die map fdepth s
  | .validateDone die => Sys2Proof.Machine.execValidateDone die s
  | .clearMap w die map => Sys2Proof.Machine.execClearMap w die map s
  | .chanCfgWrite w chan map dormant => Sys2Proof.Machine.execChanCfgWrite w chan map dormant s
  | .forceHotWrite w stack hot => Sys2Proof.Machine.execForceHotWrite w stack hot s
  | .calendarBoundary die => Sys2Proof.Machine.execCalendarBoundary die s
  | .channelWakeDone chan => Sys2Proof.Machine.execChannelWakeDone chan s
  | .slot chan answered => Sys2Proof.Machine.execSlot chan answered s
  | .arrayReadReturn chan d => Sys2Proof.Machine.execArrayReadReturn chan d s
  | .mergeOpenTimeout chan => Sys2Proof.Machine.execMergeOpenTimeout chan s
  | .reconstructDone line found => Sys2Proof.Machine.execReconstructDone line found s
  | .parityUpdateRx line => Sys2Proof.Machine.execParityUpdateRx line s
  | .trvModeWrite w rangePass => Sys2Proof.Machine.execTrvModeWrite w rangePass s
  | .trvGo w passId => Sys2Proof.Machine.execTrvGo w passId s
  | .trvAbort w => Sys2Proof.Machine.execTrvAbort w s
  | .linkInitRx port m => Sys2Proof.Machine.execLinkInitRx port m s
  | .pmdTrainingDone port usable => Sys2Proof.Machine.execPmdTrainingDone port usable s
  | .trainingTimeout port => Sys2Proof.Machine.execTrainingTimeout port s
  | .portEnableWrite w port enable allowHalf => Sys2Proof.Machine.execPortEnableWrite w port enable allowHalf s
  | .badFrameRx port b => Sys2Proof.Machine.execBadFrameRx port b s
  | .linkAckRx port m => Sys2Proof.Machine.execLinkAckRx port m s
  | .replayRx port start => Sys2Proof.Machine.execReplayRx port start s
  | .laneSwapRx port lanes => Sys2Proof.Machine.execLaneSwapRx port lanes s
  | .laneFailure port lane => Sys2Proof.Machine.execLaneFailure port lane s
  | .ackTimer port => Sys2Proof.Machine.execAckTimer port s
  | .replayTimeout port => Sys2Proof.Machine.execReplayTimeout port s
  | .linkSilenceTimeout port => Sys2Proof.Machine.execLinkSilenceTimeout port s
  | .realignTimeout port => Sys2Proof.Machine.execRealignTimeout port s
  | .laneSleepConsent port => Sys2Proof.Machine.execLaneSleepConsent port s
  | .laneWake port => Sys2Proof.Machine.execLaneWake port s
  | .sluiceFrameEntry port f => Sys2Proof.Machine.execSluiceFrameEntry port f s
  | .cellTime => Sys2Proof.Machine.execCellTime s
  | .cisternReadback input output vc => Sys2Proof.Machine.execCisternReadback input output vc s
  | .routeSet w device p0 p1 p2 p3 count => Sys2Proof.Machine.execRouteSet w device p0 p1 p2 p3 count s
  | .routeMarkLost w device => Sys2Proof.Machine.execRouteMarkLost w device s
  | .routeClear w device => Sys2Proof.Machine.execRouteClear w device s
  | .routeDrainDone => Sys2Proof.Machine.execRouteDrainDone s
  | .classTableWrite w k v => Sys2Proof.Machine.execClassTableWrite w k v s
  | .thoitTrainTimeout g => Sys2Proof.Machine.execThoitTrainTimeout g s
  | .thoitEnableWrite w enable => Sys2Proof.Machine.execThoitEnableWrite w enable s
  | .thoitControlHalfRx g m => Sys2Proof.Machine.execThoitControlHalfRx g m s
  | .thoitFlitRx g slot m => Sys2Proof.Machine.execThoitFlitRx g slot m s
  | .thoitCycle g => Sys2Proof.Machine.execThoitCycle g s
  | .thoitLaneFailure g lane => Sys2Proof.Machine.execThoitLaneFailure g lane s
  | .thoitLinkLossTimeout => Sys2Proof.Machine.execThoitLinkLossTimeout s
  | .regRead f => Sys2Proof.Machine.execRegRead f s
  | .regWrite f => Sys2Proof.Machine.execRegWrite f s
  | .t2Ans f => Sys2Proof.Machine.execT2Ans f s
  | .qpEnable w t q => Sys2Proof.Machine.execQpEnable w t q s
  | .qpDisable w t q => Sys2Proof.Machine.execQpDisable w t q s
  | .qpConfigWrite w t q r v => Sys2Proof.Machine.execQpConfigWrite w t q r v s
  | .sqDoorbell w t q tail => Sys2Proof.Machine.execSqDoorbell w t q tail s
  | .descFetchReturn t q => Sys2Proof.Machine.execDescFetchReturn t q s
  | .cqHeadWrite w t q head => Sys2Proof.Machine.execCqHeadWrite w t q head s
  | .descNop t q => Sys2Proof.Machine.execDescNop t q s
  | .copy t q => Sys2Proof.Machine.execCopy t q s
  | .fill t q => Sys2Proof.Machine.execFill t q s
  | .task t q => Sys2Proof.Machine.execTask t q s
  | .descWritesDone t q => Sys2Proof.Machine.execDescWritesDone t q s
  | .fenceTag w t tag => Sys2Proof.Machine.execFenceTag w t tag s
  | .fenceAll w t => Sys2Proof.Machine.execFenceAll w t s
  | .unfenceTag w t tag => Sys2Proof.Machine.execUnfenceTag w t tag s
  | .unfenceAll w t => Sys2Proof.Machine.execUnfenceAll w t s
  | .tenantReset w t => Sys2Proof.Machine.execTenantReset w t s
  | .fenceDrained tag => Sys2Proof.Machine.execFenceDrained tag s
  | .legAdmission j => Sys2Proof.Machine.execLegAdmission j s
  | .legStart j => Sys2Proof.Machine.execLegStart j s
  | .legEnd j => Sys2Proof.Machine.execLegEnd j s
  | .legOverrun j => Sys2Proof.Machine.execLegOverrun j s
  | .taskSwitchIn j => Sys2Proof.Machine.execTaskSwitchIn j s
  | .gwaitTimeout j record => Sys2Proof.Machine.execGwaitTimeout j record s
  | .jetFailed j => Sys2Proof.Machine.execJetFailed j s
  | .jetSpareEnabled failed spare => Sys2Proof.Machine.execJetSpareEnabled failed spare s
  | .eld j m => Sys2Proof.Machine.execEld j m s
  | .est j m => Sys2Proof.Machine.execEst j m s
  | .fld j m => Sys2Proof.Machine.execFld j m s
  | .fst j m => Sys2Proof.Machine.execFst j m s
  | .fgst j m => Sys2Proof.Machine.execFgst j m s
  | .fseal j m => Sys2Proof.Machine.execFseal j m s
  | .fatom j m => Sys2Proof.Machine.execFatom j m s
  | .fetchb j m => Sys2Proof.Machine.execFetchb j m s
  | .fetchg j m => Sys2Proof.Machine.execFetchg j m s
  | .storeb j m => Sys2Proof.Machine.execStoreb j m s
  | .bld j m => Sys2Proof.Machine.execBld j m s
  | .bst j m => Sys2Proof.Machine.execBst j m s
  | .bgath j m => Sys2Proof.Machine.execBgath j m s
  | .bscat j m => Sys2Proof.Machine.execBscat j m s
  | .pqload j m => Sys2Proof.Machine.execPqload j m s
  | .bacld j m => Sys2Proof.Machine.execBacld j m s
  | .bacst j m => Sys2Proof.Machine.execBacst j m s
  | .add j f => Sys2Proof.Machine.execAdd j f s
  | .sub j f => Sys2Proof.Machine.execSub j f s
  | .and j f => Sys2Proof.Machine.execAnd j f s
  | .or j f => Sys2Proof.Machine.execOr j f s
  | .xor j f => Sys2Proof.Machine.execXor j f s
  | .shl j f => Sys2Proof.Machine.execShl j f s
  | .shr j f => Sys2Proof.Machine.execShr j f s
  | .sar j f => Sys2Proof.Machine.execSar j f s
  | .mul j f => Sys2Proof.Machine.execMul j f s
  | .min j f => Sys2Proof.Machine.execMin j f s
  | .max j f => Sys2Proof.Machine.execMax j f s
  | .cmplt j f => Sys2Proof.Machine.execCmplt j f s
  | .cmpltu j f => Sys2Proof.Machine.execCmpltu j f s
  | .cmpeq j f => Sys2Proof.Machine.execCmpeq j f s
  | .li j f => Sys2Proof.Machine.execLi j f s
  | .lui j f => Sys2Proof.Machine.execLui j f s
  | .vext j f => Sys2Proof.Machine.execVext j f s
  | .vins j f => Sys2Proof.Machine.execVins j f s
  | .bldx j f => Sys2Proof.Machine.execBldx j f s
  | .bstx j f => Sys2Proof.Machine.execBstx j f s
  | .stamp j f => Sys2Proof.Machine.execStamp j f s
  | .vadd j f => Sys2Proof.Machine.execVadd j f s
  | .vsub j f => Sys2Proof.Machine.execVsub j f s
  | .vmul j f => Sys2Proof.Machine.execVmul j f s
  | .vfma j f => Sys2Proof.Machine.execVfma j f s
  | .vmin j f => Sys2Proof.Machine.execVmin j f s
  | .vmax j f => Sys2Proof.Machine.execVmax j f s
  | .vdot j f => Sys2Proof.Machine.execVdot j f s
  | .vcvt j f => Sys2Proof.Machine.execVcvt j f s
  | .vunpk6 j f => Sys2Proof.Machine.execVunpk6 j f s
  | .vpack6 j f => Sys2Proof.Machine.execVpack6 j f s
  | .vcmp j f => Sys2Proof.Machine.execVcmp j f s
  | .vsel j f => Sys2Proof.Machine.execVsel j f s
  | .vperm j f => Sys2Proof.Machine.execVperm j f s
  | .vred j f => Sys2Proof.Machine.execVred j f s
  | .vbcast j f => Sys2Proof.Machine.execVbcast j f s
  | .pqsum j f => Sys2Proof.Machine.execPqsum j f s
  | .vmsmov j f => Sys2Proof.Machine.execVmsmov j f s
  | .accinit j f => Sys2Proof.Machine.execAccinit j f s
  | .accadd j f => Sys2Proof.Machine.execAccadd j f s
  | .accsum j f => Sys2Proof.Machine.execAccsum j f s
  | .acccvt j f => Sys2Proof.Machine.execAcccvt j f s
  | .br j f => Sys2Proof.Machine.execBr j f s
  | .bnz j f => Sys2Proof.Machine.execBnz j f s
  | .bz j f => Sys2Proof.Machine.execBz j f s
  | .loop j f => Sys2Proof.Machine.execLoop j f s
  | .legend j f => Sys2Proof.Machine.execLegend j f s
  | .gwait j f => Sys2Proof.Machine.execGwait j f s
  | .waitfc j f => Sys2Proof.Machine.execWaitfc j f s
  | .tableOpen t q => Sys2Proof.Machine.execTableOpen t q s
  | .tableClose t q => Sys2Proof.Machine.execTableClose t q s
  | .gather t q => Sys2Proof.Machine.execGather t q s
  | .scatterAdd t q => Sys2Proof.Machine.execScatterAdd t q s
  | .stepCommit t q => Sys2Proof.Machine.execStepCommit t q s
  | .commitBatchEnd t q => Sys2Proof.Machine.execCommitBatchEnd t q s
  | .replicaLink t q => Sys2Proof.Machine.execReplicaLink t q s
  | .snapshot t q => Sys2Proof.Machine.execSnapshot t q s
  | .indexOpen t q => Sys2Proof.Machine.execIndexOpen t q s
  | .indexClose t q => Sys2Proof.Machine.execIndexClose t q s
  | .search t q => Sys2Proof.Machine.execSearch t q s
  | .insert t q => Sys2Proof.Machine.execInsert t q s
  | .delete t q => Sys2Proof.Machine.execDelete t q s
  | .merge t q => Sys2Proof.Machine.execMerge t q s
  | .mergeTaskEnd t q => Sys2Proof.Machine.execMergeTaskEnd t q s
  | .move w parcel piece toPlace => Sys2Proof.Machine.execMove w parcel piece toPlace s
  | .moveCopyDone parcel piece => Sys2Proof.Machine.execMoveCopyDone parcel piece s
  | .moveCutDrained parcel piece => Sys2Proof.Machine.execMoveCutDrained parcel piece s
  | .lend w parcel device => Sys2Proof.Machine.execLend w parcel device s
  | .unlend w parcel => Sys2Proof.Machine.execUnlend w parcel s
  | .borrow w parcel device => Sys2Proof.Machine.execBorrow w parcel device s
  | .unborrow w parcel device => Sys2Proof.Machine.execUnborrow w parcel device s
  | .holdCreate t q => Sys2Proof.Machine.execHoldCreate t q s
  | .holdRenew t q => Sys2Proof.Machine.execHoldRenew t q s
  | .holdDrop t q => Sys2Proof.Machine.execHoldDrop t q s
  | .holdOffer t q => Sys2Proof.Machine.execHoldOffer t q s
  | .offerRx port f => Sys2Proof.Machine.execOfferRx port f s
  | .acceptRx port f => Sys2Proof.Machine.execAcceptRx port f s
  | .custodyReleaseRx port f => Sys2Proof.Machine.execCustodyReleaseRx port f s
  | .holdingDueExpiry t key => Sys2Proof.Machine.execHoldingDueExpiry t key s
  | .acceptedDueExpiry t key => Sys2Proof.Machine.execAcceptedDueExpiry t key s
  | .tombstoneExpiry t key => Sys2Proof.Machine.execTombstoneExpiry t key s
  | .custodyFind w t => Sys2Proof.Machine.execCustodyFind w t s
  | .custodyPromote w t => Sys2Proof.Machine.execCustodyPromote w t s
  | .custodyRestore w t => Sys2Proof.Machine.execCustodyRestore w t s
  | .custodyDiscard w t => Sys2Proof.Machine.execCustodyDiscard w t s
  | .cascade t q => Sys2Proof.Machine.execCascade t q s
  | .cascadeStaged t q => Sys2Proof.Machine.execCascadeStaged t q s
  | .cascadeDeadline t q => Sys2Proof.Machine.execCascadeDeadline t q s
  | .cascadeDeliver t q => Sys2Proof.Machine.execCascadeDeliver t q s
  | .gzBusRead bus m => Sys2Proof.Machine.execGzBusRead bus m s
  | .gzBusWrite bus m => Sys2Proof.Machine.execGzBusWrite bus m s
  | .gzBusInfo bus m => Sys2Proof.Machine.execGzBusInfo bus m s
  | .gzBusAbort bus m => Sys2Proof.Machine.execGzBusAbort bus m s
  | .gzTransferTimeout manager => Sys2Proof.Machine.execGzTransferTimeout manager s
  | .gzWindowRead w => Sys2Proof.Machine.execGzWindowRead w s
  | .gzWindowWrite w last count => Sys2Proof.Machine.execGzWindowWrite w last count s
  | .gzWindowInfo w => Sys2Proof.Machine.execGzWindowInfo w s
  | .gzWindowAbort w => Sys2Proof.Machine.execGzWindowAbort w s
  | .beaconTimer => Sys2Proof.Machine.execBeaconTimer s
  | .busOff bus => Sys2Proof.Machine.execBusOff bus s
  | .busRecovered bus => Sys2Proof.Machine.execBusRecovered bus s
  | .addressConflict bus => Sys2Proof.Machine.execAddressConflict bus s
  | .svyNow w => Sys2Proof.Machine.execSvyNow w s
  | .svyAt w => Sys2Proof.Machine.execSvyAt w s
  | .surveyPeriodEdge => Sys2Proof.Machine.execSurveyPeriodEdge s
  | .surveyAnnounce => Sys2Proof.Machine.execSurveyAnnounce s
  | .surveyAbandon die => Sys2Proof.Machine.execSurveyAbandon die s
  | .surveyCapture => Sys2Proof.Machine.execSurveyCapture s
  | .surveyComplete => Sys2Proof.Machine.execSurveyComplete s
  | .challenge bus m => Sys2Proof.Machine.execChallenge bus m s
  | .evidenceReady signature => Sys2Proof.Machine.execEvidenceReady signature s
  | .svnCommit w svn => Sys2Proof.Machine.execSvnCommit w svn s
  | .keySlotRevoke w slot => Sys2Proof.Machine.execKeySlotRevoke w slot s
  | .policyWrite w policy => Sys2Proof.Machine.execPolicyWrite w policy s
  | .discoverRx port f => Sys2Proof.Machine.execDiscoverRx port f s
  | .assignIdRx port f => Sys2Proof.Machine.execAssignIdRx port f s
  | .discoverAnsRx port f => Sys2Proof.Machine.execDiscoverAnsRx port f s
  | .joinDiscover w port => Sys2Proof.Machine.execJoinDiscover w port s
  | .joinAssign w port newId => Sys2Proof.Machine.execJoinAssign w port newId s
  | .joinAnswerTimeout => Sys2Proof.Machine.execJoinAnswerTimeout s
  | .deviceIdWrite w id => Sys2Proof.Machine.execDeviceIdWrite w id s
  | .enterService w => Sys2Proof.Machine.execEnterService w s
  | .serviceEntryDone => Sys2Proof.Machine.execServiceEntryDone s
  | .enterTest w => Sys2Proof.Machine.execEnterTest w s
  | .recover w => Sys2Proof.Machine.execRecover w s
  | .keep w parcel tenant rights => Sys2Proof.Machine.execKeep w parcel tenant rights s
  | .unkeep w parcel => Sys2Proof.Machine.execUnkeep w parcel s
  | .registerWrite w off v => Sys2Proof.Machine.execRegisterWrite w off v s
  | .linkInitTimer port => Sys2Proof.Machine.execLinkInitTimer port s
  | .overvoltageRecovery vin => Sys2Proof.Machine.execOvervoltageRecovery vin s
  | .thoitLaneLockDone g usable => Sys2Proof.Machine.execThoitLaneLockDone g usable s
  | .laneRealignDone port => Sys2Proof.Machine.execLaneRealignDone port s
  | .fusePulseDone => Sys2Proof.Machine.execFusePulseDone s
  | .trstNAssert => Sys2Proof.Machine.execTrstNAssert s
  | .badTypeFrameRx port x => Sys2Proof.Machine.execBadTypeFrameRx port x s

end Sys2Proof.Machine
end

