-- ==== Sys2Proof/Safety.lean ====
section
/-!
DEFINITION. What counts as safe, in the terms the statements use: the canonical form of memory and of the register file, a Golik with
nothing left to do, and a step that does not stop.
-/

namespace Sys2Proof.Machine

/-- The canonical form of memory: addresses strictly rising, no byte listed that is zero, which is what an unlisted byte reads. -/
def Memory.wf (m : List Host.Cell) : Bool := mwf (fun _ => 0) m

/-- The canonical form of the register file: offsets strictly rising, no register listed at its reset value. -/
def RegFile.wf (m : List (Nat × Word)) : Bool := mwf Reg.reset m

/-- Nothing is left to be done: no act, transaction, probe, answer, delivered frame, move, task, fence being drained or queue pair
waits, no jet runs a task, no port holds a credit back, and no training of the Thoit link is wanted. -/
def State.quiet (s : State) : Bool :=
  s.acts.isEmpty && s.txns.isEmpty && s.uprobes.isEmpty && s.ans.isEmpty && s.sluice.deliver.isEmpty && s.moves.isEmpty
    && s.jets.all (fun e => (s.jet e.1).running.isNone) && s.tasks.isEmpty && s.drains.isEmpty && s.qps.isEmpty && s.ports.all (fun e => e.2.held.isEmpty) && !s.thoit.want

/-- A write by this writer to this register is performed: its path works, the register admits it (R49, R58), and it is not a slot's
own write to the privileged range (R323). mirror says whether the management bus has an entry for the register. -/
def State.mayWrite (s : State) (w : Writer) (off : Nat) (mirror : Bool) : Bool :=
  s.pathWorks w && s.admits w off mirror && !(s.slotWriter w && privileged off)

/-- The entry that a GRANT asks for (Table 2-4): the lender and its parcel number are read from GL_PARCEL_ARG where the tier is
T1. -/
def State.grantEntry (s : State) (g : GrantArgs) : Parcel :=
  { tenant := g.tenant.val, rights := g.rights, broad := g.broad, guarded := g.guarded, tier := g.tier.toNat, stack := g.stack.toNat,
    lender := if g.tier.toNat = 1 then BitVec.ofNat 14 (s.rf Reg.GL_PARCEL_ARG 0 14) else 0,
    lenderParcel := if g.tier.toNat = 1 then s.rf Reg.GL_PARCEL_ARG 16 11 else 0 }

/-- The request a row of the home carries, with the type its row fixes (Table 9-3). -/
def requestOf : Instr → Option (Via × Frame)
  | .readShared v f => some (v, { f with typ := 0x10 })
  | .readOwn v f => some (v, { f with typ := 0x11 })
  | .readOnce v f => some (v, { f with typ := 0x12 })
  | .upgrade v f => some (v, { f with typ := 0x13 })
  | .writeBack v f => some (v, { f with typ := 0x14 })
  | .evictClean v f => some (v, { f with typ := 0x15 })
  | .writeLine v f => some (v, { f with typ := 0x18, isSeal := false })
  | .maskedWriteLine v f => some (v, { f with typ := 0x19 })
  | .sealStore v f => some (v, { f with typ := if f.typ = 0x1A then 0x1A else 0x18, isSeal := true })
  | .gwrite v f => some (v, { f with typ := 0x1A, isSeal := false })
  | .gmwrite v f => some (v, { f with typ := 0x1B })
  | .atomic v f => some (v, { f with typ := 0x1C })
  | _ => none

/-- A port takes a frame that is for this Golik: the port takes sequenced frames, the type may travel in the frame's VC, and the
Golik has a device ID that is the frame's destination (R244, R246, R523). -/
def State.takesOwn (s : State) (p : Fin 48) (f : Frame) : Bool :=
  s.portTakes p.val && (vcsOf f.typ.toNat).contains f.vc.toNat && s.boot.deviceId.isSome && s.isSelf f.dst

/-- A group takes a message in service, with a free entry for its receipt (R302, R307). -/
def State.takesMsg (s : State) (g : Fin 2) : Bool :=
  s.serving && s.groupUp g.val && !s.bootMode && decide (s.freeEntry g.val < 12)

/-- What a port has done as a frame of n sequenced frames comes in a VC: a masked data frame that waited there for its MASK is dropped, and
the frames are counted (R245, R249). -/
def State.counted (s : State) (p n : Nat) (vc : BitVec 3) : State := (s.unpair p vc).countRx p n

/-- What a port has done when a frame it took is dealt with: its credits freed, and a LINK_ACK where one is due. -/
def State.portDone (s : State) (p : Nat) (f : Frame) : State := (s.freeCredits p f.vc.toNat f.credits).ackIfDue p

/-- A memory-window request of a port against which nothing stands at its home: it passes the check (Table 3-4), its number if it has
one stands in the window, its sender holds a coherence port where its type needs one, its piece is here and neither pinned nor
lost, and nothing else is on its line. -/
def State.unopposed (s : State) (f : Frame) (p : Fin 48) (tenant : Nat) : Bool :=
  f.ver == 1 && inMemory f && !s.fromLost f (.port p.val) && !flagsBad f && s.checkMemory f (.port p.val) == .allow tenant
    && s.classify f (.port p.val) == (if f.ord then .window else .unordered)
    && (!isCaching f.typ.toNat || (s.requester f.line f (.port p.val)).isSome)
    && !s.stampRefuses f && !s.parcelLost (parcelOf f.line) && !s.pinned f.line
    && s.reloc (parcelOf f.line) (pieceOf f.line) == {} && (s.txnsOf f.line).isEmpty

/-- The line is tracked for no holder, which the census settles; its cache set and its store set have a way for an entry, its store set is
not being read, and it has no open merge entry (R172 to R174). -/
def State.untrackedLine (s : State) (n : Nat) : Bool :=
  s.entry n == {} && s.censusSettles n && !s.storeReading n && s.cacheRoom n
    && decide ((s.storeMates n).length + s.storeClaims n < 8) && (s.openEntry n).isNone

/-- The instruction with these bits is the next to issue, in this slot, of the task t that jet j runs from record r (R334, R345,
R347): the bundle is not refused, no earlier slot of it is left, and nothing the bundle waits for is outstanding. -/
def State.atSlot (s : State) (j r : Nat) (t : Task) (slot bits : Nat) : Bool :=
  s.serving && (s.jet j).running == some r && s.task j r == t && t.inLeg && t.resume == 0xFFFF && !t.missing && t.ended.isNone
    && t.waitFc.isNone
    && (match t.leg.code[t.pc]? with
      | some b => (t.slot != 0 || !bundleBad t.leg.exact b) && ((List.range 4).drop t.slot).find? (fun k => opAt b k != 0) == some slot
          && slotNat b slot == bits && !legBlocked t b
      | none => false)

/-- The task as the instruction in a slot issues: in its cycle, with what is due landed. -/
def Task.issued (t : Task) (slot : Nat) : Task :=
  let c := issueCycle t (t.leg.code.getD t.pc 0)
  { ({ t with cycle := c } : Task).landUpTo c with slot := slot + 1 }

/-- The state as that instruction issues. -/
def State.issuedAt (s : State) (j r : Nat) (t : Task) (slot : Nat) : State :=
  (s.setTask j r (t.issued slot)).bump (Reg.JT_BUNDLES j) 0 64 0

/-- The command is the release of power-on reset. -/
def isPowerOnReset : Instr → Bool
  | .powerOnResetRelease _ _ => true
  | _ => false

/-- An unpowered Golik: nothing in memory, tables, jets or queues, and no release of power-on reset among the commands that wait. -/
def State.dark (s : State) : Bool :=
  !s.boot.powered && !s.boot.inReset && s.mem.isEmpty && s.atlas.isEmpty && s.parcels.isEmpty && s.ctxs.isEmpty && s.custody.isEmpty
    && s.qps.isEmpty && s.tasks.isEmpty && s.jets.isEmpty && s.ports.isEmpty && s.txns.isEmpty && s.out.isEmpty
    && s.pending.all (fun c => !isPowerOnReset c)

/-- Element i of a vector register, of the given bits. -/
def laneOf (bits : Nat) (v : BitVec 2048) (i : Nat) : Nat := v.toNat / 2 ^ (bits * i) % 2 ^ bits

/-- A result of lanes: lane i is h i, written where its mask bit is set, readable after a latency (Table 13-8). -/
def laneResult (f : VectorSlot) (g : JRegs) (bits lat : Nat) (h : Nat → Nat) : List (JDest × Nat) :=
  [(.v f.vd.toNat (ofLanes bits ((List.range (2048 / bits)).map h)) (activeBits f g bits), lat)]

/-- A descriptor alone in flight on a running queue pair: it has started and has nothing left to wait for in the ring (R317, R318). -/
def State.soleDesc (s : State) (t q : Nat) (d : Desc) : Bool :=
  s.serving && (s.qp t q).descs == [d] && (d.phase == .fetched || d.phase == .working) && s.qpState t q == 1 && (s.qpParked t q).isNone

/-- Such a descriptor, without a task record, whose completion ring has no room: when it succeeds its completion stays owed (R318). -/
def State.owesAlone (s : State) (t q : Nat) (d : Desc) : Bool :=
  s.soleDesc t q d && !s.cqRoom t q && (s.tasksOf t q d.index).isEmpty

/-- The built-in task of a descriptor has its record (R370). -/
def State.hasBuiltIn (s : State) (t q i : Nat) : Bool := (s.tasksOf t q i).any (fun k => (s.task (k / 32) (k % 32)).system == 1)

/-- An operation runs or waits at a table, at an index. -/
def Table.knows (x : Table) (op : OpRef) : Bool := x.running.contains op || x.waiting.any (fun w => w.1 == op)
def Index.knows (x : Index) (op : OpRef) : Bool :=
  x.holding == some op || x.mutation == some op || x.searches.any (fun w => w.1 == op) || x.waiting.any (fun w => w.1 == op)

/-- A step that answers a next state. -/
def Completes (o : Host.Outcome State Fault Refusal) : Prop := ∃ t, o = .next t

/-- A safe step: no fault. Refusals are named and safe by what they say. -/
def SafeStep (s : State) : Prop := ∀ f, step s ≠ .fault f

end Sys2Proof.Machine
end

