-- ==== Sys2Proof/Certificates/Slice0/Obligations.lean ====
section
/-!
DEFINITION. The statements for the provers. Each docstring says which rules of spec/ the statement formalises, and where a clause rests on a
choice of the model it names the log entry.
-/

open Sys2Proof Sys2Proof.Machine

/-- Step runs the command at the front of the queue (95_what_each_step_holds). -/
def Obligations.StepTakesTheFront : Prop :=
  (∀ (c : Instr) (rest : List Instr) (s : State), s.pending = c :: rest → step s = exec c { s with pending := rest })
    ∧ (∀ s : State, s.pending = [] → step s = .next s.idle)

/-- Parcel commands and their ends (02_addressing). -/
def Obligations.ParcelCommands : Prop :=
  (
  ∀ (s : State) (w : Writer), s.quiet = true → s.mayWrite w Reg.GL_PARCEL_CMD true = true → s.busy parcelRegs = false →
    s.mode = .service →
    (∀ g : GrantArgs, grantBad g.broad g.tier.toNat g.stack.toNat = false → (s.parcel g.parcel.val).state = .free →
      s.grantRoom g.parcel.val (s.grantEntry g) = true →
      exec (.grant w g) s = .next ((s.grantParcel g.parcel.val (s.grantEntry g)).parcelDone g.parcel.val 0)) ∧
    (∀ (p : Fin 2048) (r : BitVec 4), (s.parcel p.val).state = .granted → s.trackedOf p.val = [] →
      exec (.setRights w p r) s = .next ((s.setParcel p.val { s.parcel p.val with rights := r }).keepBusy parcelRegs
        (pack [(4, 3), (11, p.val), (17, 0), (4, r.toNat)]))) ∧
    (∀ p : Fin 2048, (s.parcel p.val).state = .granted → s.trackedOf p.val = [] →
      exec (.parcelRelease w p) s = .next ((s.setParcel p.val { s.parcel p.val with state := .closing }).keepBusy parcelRegs
        (pack [(4, 2), (11, p.val)]))) ∧
    (∀ (p : Fin 2048) (r : BitVec 4), (s.parcel p.val).state ≠ .granted →
      exec (.setRights w p r) s = .next (s.parcelDone p.val 4) ∧ exec (.parcelRelease w p) s = .next (s.parcelDone p.val 4)) ∧
    (∀ g : GrantArgs, grantBad g.broad g.tier.toNat g.stack.toNat = false → (s.parcel g.parcel.val).state ≠ .free →
      exec (.grant w g) s = .next (s.parcelDone g.parcel.val 1))) ∧
  (
  ∀ s : State, s.quiet = true → s.serving = true →
    (s.busy parcelRegs = true → field (s.runningWord parcelRegs) 0 4 = 3 →
      s.legPins (field (s.runningWord parcelRegs) 4 11) = false →
      exec .setRightsDone s = .next (s.parcelDone (field (s.runningWord parcelRegs) 4 11) 0)) ∧
    (s.busy parcelRegs = true → field (s.runningWord parcelRegs) 0 4 = 2 →
      (s.parcel (field (s.runningWord parcelRegs) 4 11)).state = .closing →
      s.parcelQuiet (field (s.runningWord parcelRegs) 4 11) = true →
      exec .releaseDrained s = .next ((s.startClearing (field (s.runningWord parcelRegs) 4 11)).parcelDone
        (field (s.runningWord parcelRegs) 4 11) 0).finish) ∧
    (∀ p : Fin 2048, (s.parcel p.val).state = .clearing → ∃ t : State, exec (.parcelFreed p) s = .next t ∧
      t.parcel p.val = { gen := (s.parcel p.val).gen } ∧
      (∀ a, p.val * 2 ^ 30 ≤ a → a < (p.val + 1) * 2 ^ 30 → t.byte a = 0) ∧
      (∀ a, (a < p.val * 2 ^ 30 ∨ (p.val + 1) * 2 ^ 30 ≤ a) → t.byte a = s.byte a)))

/-- Context commands and invalidations (03_translation_protection). -/
def Obligations.ContextsAndInvalidations : Prop :=
  (
  ∀ (s : State) (w : Writer), s.quiet = true →
    (∀ (e : Fin 1024) (tag : BitVec 16) (t : Fin 1024), s.mayWrite w Reg.GL_CTX_CMD false = true → s.busy ctxRegs = false →
      s.isMgmt tag = false → (s.ctxEntry e.val).valid = false → s.ctxOf tag = none →
      exec (.ctxSet w e tag t) s = .next ((s.setCtx e.val { tag := tag, tenant := t.val, valid := true }).ctxDone e.val 0)) ∧
    (∀ e : Fin 1024, s.mayWrite w Reg.GL_CTX_CMD false = true → s.busy ctxRegs = false → (s.ctxEntry e.val).valid = true →
      exec (.ctxClear w e) s = .next ((((((s.setCtx e.val { s.ctxEntry e.val with valid := false, fenced := false }).dropXlate
        (fun x => x.tag == (s.ctxEntry e.val).tag)).dropLines (s.ctxEntry e.val).tag).xforget (s.ctxEntry e.val).tag).ctxDone
        e.val 0).finish) ∧
      ((s.linesOfTag (s.ctxEntry e.val).tag = [] ∧ ∀ d < 4, (s.die d).xreqs = []) →
        ∃ t : State, exec (.ctxClear w e) s = .next t ∧ t.mem = s.mem ∧
          t.ctxEntry e.val = { s.ctxEntry e.val with valid := false, fenced := false } ∧
          (∀ n : Nat, n ≠ e.val → t.ctxEntry n = s.ctxEntry n) ∧
          (∀ d < 4, ∀ x ∈ (t.die d).xlate, x.tag = (s.ctxEntry e.val).tag → x.drop = true ∧ x.pins ≠ []) ∧
          (∀ d < 4, ∀ x ∈ (s.die d).xlate, x.tag ≠ (s.ctxEntry e.val).tag → x.drop = false → x ∈ (t.die d).xlate))) ∧
    (∀ (tag : BitVec 16) (v : Bool), s.mayWrite w Reg.GL_MGMT_TAG true = true →
      exec (.mgmtTagWrite w tag v) s = .next
        (if v = true ∧ (s.ctxOf tag).isSome = true then s.bump Reg.GL_CTX_DROPS 32 32 1
         else s.setReg Reg.GL_MGMT_TAG (pack [(16, tag.toNat), (1, bitN v)])))) ∧
  (
  ∀ (s : State) (w : Writer) (tag : BitVec 16), s.quiet = true → s.mayWrite w Reg.GL_XINV_CMD false = true →
    s.busy xinvRegs = false → (∀ d < 4, (s.die d).xreqs = []) →
    (∃ t : State, exec (.xinvAll w) s = .next t ∧ t.busy xinvRegs = true ∧ t.mem = s.mem ∧
      (∀ d < 4, ∀ e ∈ (t.die d).xlate, e.drop = true ∧ e.pins ≠ [])) ∧
    (∃ t : State, exec (.xinvContext w tag) s = .next t ∧ t.busy xinvRegs = true ∧ t.mem = s.mem ∧
      (∀ d < 4, ∀ e ∈ (t.die d).xlate, e.tag = tag → e.drop = true ∧ e.pins ≠ []) ∧
      (∀ d < 4, ∀ e ∈ (s.die d).xlate, e.tag ≠ tag → e.drop = false → e ∈ (t.die d).xlate)) ∧
    (∃ t : State, exec (.xinvRange w tag) s = .next t ∧ t.busy xinvRegs = true ∧ t.mem = s.mem ∧
      (∀ d < 4, ∀ e ∈ (s.die d).xlate, e.tag ≠ tag → e.drop = false → e ∈ (t.die d).xlate)))

/-- Translation answers (03_translation_protection). -/
def Obligations.TranslationAnswers : Prop :=
  (
  ∀ s : State, s.serving = true →
    (∀ (id : BitVec 16) (res : BitVec 2) (size : Bool) (perm : BitVec 4) (base : Word), s.groupUp s.anyGroup = true →
      s.bootMode = false → s.freeEntry s.anyGroup < 12 →
      exec (.xans id res size perm base) s
        = .next ((s.xanswer id.toNat res.toNat size perm base.toNat).owe s.anyGroup (s.freeEntry s.anyGroup) accepted).finish) ∧
    (∀ (id : BitVec 16) (r : XReq),
      (List.range 4).findSome? (fun d => (s.die d).xreqs.find? (fun x => x.sent && x.id == id.toNat)) = some r →
      r.reissued = false →
      exec (.xlateTimeout id) s = .next ((((s.atLeast (r.sentAt + 1000 * s.gzv 0x2030 0x01)).setDie r.die
        { (s.atLeast (r.sentAt + 1000 * s.gzv 0x2030 0x01)).die r.die with
          xreqs := ((s.atLeast (r.sentAt + 1000 * s.gzv 0x2030 0x01)).die r.die).xreqs.erase r }).xsend r.die
            { r with reissued := true })).finish) ∧
    (s.busy xinvRegs = true → (∀ d < 4, ∀ e ∈ (s.die d).xlate, e.drop = false) → s.invalWaits = false → ∃ t : State, exec .xinvDone s = .next t.finish ∧
      t.rf Reg.GL_XINV_STATUS 0 1 = 0 ∧
      t.rf Reg.GL_XINV_STATUS 32 32 = (s.rf Reg.GL_XINV_STATUS 32 32 + 1) % 2 ^ 32 ∧
      t.mem = s.mem ∧ t.dies = s.dies ∧ ∀ off, off ≠ Reg.GL_XINV_STATUS → t.reg off = s.reg off)) ∧
  (
  ∀ (s : State) (id : Nat) (r : XReq) (size : Bool) (perm : BitVec 4) (base : Nat),
    (List.range 4).findSome? (fun d => (s.die d).xreqs.find? (fun x => x.sent && x.id == id)) = some r →
    r.waiters = [] → xansBad (if size then 30 else 25) base r.va = false → perm.getLsbD r.access = true →
    (s.die r.die).xlate.length < 8 →
    ∃ (y : XEntry) (keep : List XEntry), ((s.xanswer id 0 size perm base).die r.die).xlate = y :: keep ∧
      y.tag = r.tag ∧ y.base = base ∧ y.perm = perm ∧ y.size = (if size then 30 else 25) ∧
      y.sheet = r.va / 2 ^ (if size then 30 else 25) ∧ ∀ e ∈ keep, e ∈ (s.die r.die).xlate)

/-- Tide-map commands and validation (04_reservoirs_tide). -/
def Obligations.TideMapCommands : Prop :=
  (
  ∀ (s : State) (w : Writer) (d : Fin 4) (m : Fin 8), s.quiet = true →
    (∀ (hot : Bool) (g : Fin 512) (v : Word),
      s.mayWrite w (Reg.BS_TIDE_MAP d.val (1024 * m.val + 512 * bitN hot + g.val)) false = true →
      (s.mapValid d.val m.val = false → (s.die d.val).validating = none →
        exec (.tideMapEntryWrite w d m hot g v) s
          = .next (s.setReg (Reg.BS_TIDE_MAP d.val (1024 * m.val + 512 * bitN hot + g.val)) (v &&& 0xF7F7F7F7F7F7F7F7))) ∧
      (s.mapValid d.val m.val = true →
        exec (.tideMapEntryWrite w d m hot g v) s = .next (s.bump (Reg.BS_TIDE_DROPS d.val) 0 32 1))) ∧
    (s.mayWrite w (Reg.BS_TIDE_CMD d.val) false = true → s.busy (tideRegs d.val) = false →
      (∀ depth : BitVec 5, 1 ≤ depth.toNat → depth.toNat ≤ 16 → s.mapValid d.val m.val = false →
        exec (.validate w d m depth) s
          = .next ((s.setDie d.val { s.die d.val with validating := some (m.val, depth.toNat, s.mapWords d.val m.val) }).keepBusy
              (tideRegs d.val) (pack [(4, 1), (3, m.val), (1, 0), (5, depth.toNat)]))) ∧
      (∀ depth : BitVec 5, (depth = 0 ∨ 16 < depth.toNat) → exec (.validate w d m depth) s = .next (s.tideDone d.val m.val 3)) ∧
      exec (.clearMap w d m) s = .next (if s.rf (Reg.BS_TIDE_INFO d.val m.val) 1 6 = 0
        then (s.clearMapInfo d.val m.val).tideDone d.val m.val 0 else s.tideDone d.val m.val 1))) ∧
  (
  ∀ (s : State) (d : Fin 4) (m depth : Nat) (ws : List Word), s.quiet = true → s.serving = true → m < 8 →
    (s.die d.val).validating = some (m, depth, ws) →
    (∀ pos rule, mapFault (wordsEntry ws 0) (wordsEntry ws 1) depth = some (pos, rule) → pos < 4096 → ∃ t : State,
      exec (.validateDone d) s = .next t ∧ t.busy (tideRegs d.val) = false ∧ t.rf (Reg.BS_TIDE_STATUS d.val) 4 4 = 2 ∧
      t.rf (Reg.BS_TIDE_STATUS d.val) 16 12 = pos ∧ t.rf (Reg.BS_TIDE_STATUS d.val) 28 4 = rule % 16 ∧
      t.mapValid d.val m = s.mapValid d.val m ∧ (t.die d.val).validating = none ∧ t.mem = s.mem) ∧
    (∀ fw, mapFault (wordsEntry ws 0) (wordsEntry ws 1) depth = none → fwaitOf (wordsEntry ws 1) depth = some fw → ∃ t : State,
      exec (.validateDone d) s = .next t ∧ t.busy (tideRegs d.val) = false ∧ t.rf (Reg.BS_TIDE_STATUS d.val) 4 4 = 0 ∧
      t.mapValid d.val m = true ∧ t.rf (Reg.BS_TIDE_INFO d.val m) 7 5 = depth % 32 ∧
      t.rf (Reg.BS_TIDE_INFO d.val m) 12 13 = fw % 2 ^ 13 ∧ (t.die d.val).validating = none ∧ t.mem = s.mem))

/-- Channel configuration and the start of a calendar (04_reservoirs_tide). -/
def Obligations.ChannelsAndCalendars : Prop :=
  (
  ∀ (s : State) (w : Writer), s.quiet = true →
    (∀ (c : Fin 192) (m : Fin 8) (dormant : Bool), s.mayWrite w (chanCfg c.val) false = true → ∃ t : State,
      exec (.chanCfgWrite w c m dormant) s = .next t ∧ t.chanMap c.val = m.val ∧ t.rf (chanCfg c.val) 3 1 = bitN dormant ∧
      t.rf (chanCfg c.val) 4 60 = s.rf (chanCfg c.val) 4 60 ∧ (∀ off, off ≠ chanCfg c.val → t.reg off = s.reg off) ∧
      t.mem = s.mem ∧ ∀ k, k ≠ c.val → t.chan k = s.chan k) ∧
    (∀ (k : Fin 12) (hot : Bool), s.mayWrite w (Reg.ST_TIDE_VAR k.val) false = true → ∃ t : State,
      exec (.forceHotWrite w k hot) s = .next t ∧ t.rf (Reg.ST_TIDE_VAR k.val) 3 1 = bitN hot ∧
      t.rf (Reg.ST_TIDE_VAR k.val) 0 1 = s.rf (Reg.ST_TIDE_VAR k.val) 0 1 ∧ t.mem = s.mem ∧ t.chans = s.chans)) ∧
  (
  ∀ (s : State) (d : Fin 4), s.serving = true → (s.die d.val).running = true → ∃ t : State,
    exec (.calendarBoundary d) s = .next t.finish ∧
    t.rf (Reg.BS_CAL_COUNT d.val) 0 64 = (s.rf (Reg.BS_CAL_COUNT d.val) 0 64 + 1) % 2 ^ 64 ∧
    (∀ i < 48, (t.chan (48 * d.val + i)).pos = 0) ∧ t.mem = s.mem ∧ t.pending = s.pending ∧
    (∀ c, c / 48 ≠ d.val → t.chan c = s.chan c) ∧
    (∀ i < 48, t.chanAsleep (48 * d.val + i) = false → t.mapValid d.val (t.chanMap (48 * d.val + i)) = true →
      t.chanRunning (48 * d.val + i) = true ∧ t.activeMap (48 * d.val + i) = t.chanMap (48 * d.val + i)))

/-- What an R slot and an F slot do (04_reservoirs_tide). -/
def Obligations.SlotClasses : Prop :=
  ∀ (s : State) (c : Fin 192) (answered : Bool), s.serving = true → s.chanAsleep c.val = false →
    s.stackFailed (c.val / 16) = false → (s.chan c.val).bound = [] → (s.chan c.val).inner = [] → (s.chan c.val).ingress = [] →
    (s.chan c.val).merge = [] → s.storeIO = [] →
    (entryClass (s.slotEntry c.val ((s.chan c.val).pos % 4096)) = .r → ∃ t : State,
      exec (.slot c answered) s = .next t.finish ∧ (t.chan c.val).pos = ((s.chan c.val).pos + 1) % 4096 ∧
      (t.chan c.val).slots = (s.chan c.val).slots + 1 ∧ t.mem = s.mem ∧
      (∀ i < 4, (4 * refreshGroup ((s.chan c.val).pos % 4096) + i, (s.chan c.val).slots + 24) ∈ (t.chan c.val).busy)) ∧
    (∀ r : FReq, entryClass (s.slotEntry c.val ((s.chan c.val).pos % 4096)) = .f → (s.chan c.val).fq = [r] → r.wr = false →
      r.use ≠ .mergeRead → s.fLegal c.val r.bank = true → ∃ t : State,
      exec (.slot c answered) s = .next t.finish ∧ (t.chan c.val).fq = [] ∧
      (t.chan c.val).flight = (s.chan c.val).flight ++ [{ due := (s.chan c.val).slots + 96, f := r }] ∧
      (r.bank, (s.chan c.val).slots + 24) ∈ (t.chan c.val).busy ∧ t.mem = s.mem) ∧
    (∀ r : FReq, entryClass (s.slotEntry c.val ((s.chan c.val).pos % 4096)) = .f → (s.chan c.val).fq = [r] → r.wr = true →
      r.use = .write → s.fLegal c.val r.bank = true → ∃ t : State,
      exec (.slot c answered) s = .next t.finish ∧ (t.chan c.val).fq = [] ∧ t.acts = s.acts ++ [.issued r] ∧
      t.mem = (s.writeLine r.line r.data r.mask).mem) ∧
    (∀ r : FReq, entryClass (s.slotEntry c.val ((s.chan c.val).pos % 4096)) = .f → (s.chan c.val).fq = [r] →
      s.fLegal c.val r.bank = false → (s.chan c.val).corr = [] → s.rebuilding = none → s.rf Reg.GL_TRV_MODE 0 1 = 1 →
      s.pass = none → (s.parcels.any (fun e => e.2.state == .clearing)) = false → ∃ t : State,
      exec (.slot c answered) s = .next t.finish ∧ (t.chan c.val).fq = [r] ∧ t.mem = s.mem)

/-- Answers of the array, reconstruction and the traverse (04_reservoirs_tide, 05_errors_repair_rebuild). -/
def Obligations.ArrayReturnsAndTraverse : Prop :=
  (
  ∀ (s : State) (c : Fin 192), s.serving = true →
    (∀ (f : Flight) (rest : List Flight) (d : Decoded), (s.chan c.val).flight = f :: rest → f.e = none → f.f.use = .fetch →
      f.due ≤ (s.chan c.val).slots → f.f.line < 2 ^ 34 → d.one = 0 → d.two = 0 → d.ue = 0 → d.wrong = 0 → s.badWords f.f.line = 0 →
      ∃ t : State,
      exec (.arrayReadReturn c d) s = .next t.finish ∧ (t.chan c.val).flight = rest ∧
      t.acts = s.acts ++ [.returned f.f (s.visible f.f.line) 0] ∧ t.mem = s.mem ∧ t.bad = s.bad) ∧
    (∀ e : MEntry, (s.chan c.val).oldestOpen = some e → (s.chan c.val).entryOf e.line = some e → e.reading = false →
      e.closing = false → e.opened + s.gzv 0x5010 0x01 ≤ (s.chan c.val).slots →
      exec (.mergeOpenTimeout c) s = .next (s.closeEntry c.val e.line).finish ∧
      (∃ r : FReq, ((s.closeEntry c.val e.line).chan (s.chanOf e.line)).inner = (s.chan (s.chanOf e.line)).inner ++ [r] ∧ r.line = e.line ∧
        r.wr = wholeWords e.mask)) ∧
    (∀ n : BitVec 39, s.parity.find? (fun u => u.line == n.toNat && !u.arrived) = none →
      exec (.parityUpdateRx n) s = .next s.finish) ∧
    (∀ (n : BitVec 39) (u : ParityUpdate), s.parity.find? (fun u => u.line == n.toNat && !u.arrived) = some u → ∃ t : State,
      exec (.parityUpdateRx n) s = .next t.finish ∧ t.parity = s.parity.replace u { u with arrived := true } ∧
      t.parityLines = s.parityLines ∧ t.mem = s.mem) ∧
    (∀ (pos : Nat) (u : ParityUpdate), s.parity.find? (fun u => Config.stripeOf u.line == stripeOfLine pos) = some u →
      (s.parityWritten pos).parity = s.parity.erase u ∧
      (s.parityWritten pos).parityLines = intoParity s.parityLines (stripeOfLine pos) u.diff ∧ (s.parityWritten pos).mem = s.mem) ∧
    (s.chanAsleep c.val = true → (s.chan c.val).waking = true →
      exec (.channelWakeDone c) s = .next (s.setChan c.val { s.chan c.val with woken := true }).finish)) ∧
  (
  ∀ (s : State) (n : BitVec 39) (r : FReq) (x : RStep), s.serving = true → n.toNat < 2 ^ 34 →
    s.steps.find? (fun y => y.line == n.toNat && y.begun && !y.writing && y.left == 0) = some x → x.lost = false →
    (s.chan (s.reconChan n.toNat)).recon = [r] → r.line = n.toNat → r.use = .fetch →
    (s.chan (s.reconChan n.toNat)).remake = [] → s.pass = none →
    (s.stripeBroken n.toNat = false → ∃ t : State, exec (.reconstructDone n true) s = .next t.finish ∧
      (t.chan (s.reconChan n.toNat)).recon = [] ∧
      (∃ a : FReq, (t.chan (s.chanOf n.toNat)).inner = (s.chan (s.chanOf n.toNat)).inner ++ [a] ∧ a.line = n.toNat ∧
        a.use = .repair ∧ a.wr = true ∧ a.data = s.reconstructed n.toNat) ∧
      t.acts = s.acts ++ [.returned r (s.withEntry n.toNat (s.reconstructed n.toNat)) 0] ∧ t.tele.head = s.tele.head + 1 ∧
      t.mem = s.mem) ∧
    (∃ t : State, exec (.reconstructDone n false) s = .next t.finish ∧ (t.chan (s.reconChan n.toNat)).recon = [] ∧
      t.acts = s.acts ++ [.returned r (s.visible n.toNat) (s.badWords n.toNat)] ∧ t.tele.head = s.tele.head ∧ t.mem = s.mem)) ∧
  (
  ∀ (s : State) (w : Writer), s.quiet = true →
    (∀ r : Bool, s.mayWrite w Reg.GL_TRV_MODE true = true → ∃ t : State, exec (.trvModeWrite w r) s = .next t ∧
      t.rf Reg.GL_TRV_MODE 0 1 = bitN r ∧ t.mem = s.mem ∧ (∀ off, off ≠ Reg.GL_TRV_MODE → t.reg off = s.reg off) ∧
      (s.rf Reg.GL_TRV_MODE 0 1 ≠ bitN r → ∀ c < 192, (t.chan c).trv = 0)) ∧
    (s.mayWrite w Reg.GL_TRV_CMD false = true →
      (∀ id : BitVec 16, s.busy trvRegs = false → s.rf Reg.GL_TRV_MODE 0 1 = 1 → s.reg Reg.GL_TRV_LINES ≠ 0 →
        (s.reg Reg.GL_TRV_START).toNat + 128 * (s.reg Reg.GL_TRV_LINES).toNat ≤ 2 ^ 41 →
        exec (.trvGo w id) s = .next (({ s with
            pass := some (Pass.mk id (s.reg Reg.GL_TRV_START) (s.reg Reg.GL_TRV_LINES) s.edges 0 0 0 0 0 0 0 none) } : State).keepBusy
              trvRegs (pack [(2, 1), (30, 0), (16, id.toNat)]))) ∧
      (∀ id : BitVec 16, s.busy trvRegs = false → s.rf Reg.GL_TRV_MODE 0 1 = 0 →
        exec (.trvGo w id) s = .next (s.done trvRegs 1)) ∧
      (s.pass = none → exec (.trvAbort w) s = .next (s.done trvRegs 4)) ∧
      (∀ p : Pass, s.pass = some p → exec (.trvAbort w) s = .next (s.endPass p 3))))

/-- Requests reach the home; untracked lines (03_translation_protection, 05_errors_repair_rebuild, 06_coherence_atlas,
09_speger_fabric, 11_thoit_link). -/
def Obligations.RequestsAtTheHome : Prop :=
  (
  ∀ (c : Instr) (f : Frame) (s : State),
    (∀ p : Fin 48, requestOf c = some (.port p, f) → s.takesOwn p f = true → s.requestVendor f = false →
      exec c s = .next (((((s.counted p.val f.count f.vc).request f (.port p.val)).1.holdCredits p.val f).ackIfDue p.val).finish)) ∧
    (∀ g : Fin 2, requestOf c = some (.group g, f) → s.takesMsg g = true → s.requestVendor { f with vc := 0 } = false →
      exec c s = .next (((s.request { f with src := 0, dst := s.selfId, vc := 0 } (.group g.val)).1.owe g.val (s.freeEntry g.val)
        (s.request { f with src := 0, dst := s.selfId, vc := 0 } (.group g.val)).2).finish))) ∧
  (
  ∀ (s : State) (f : Frame) (p : Fin 48) (t : Nat), s.unopposed f p t = true → s.untrackedLine f.line = true →
    (f.typ = 0x10 ∨ f.typ = 0x11 ∨ f.typ = 0x12 ∨ f.typ = 0x13 →
      ((s.request f (.port p.val)).1.txnsOf f.line).map (·.phase) = [.fetch] ∧ (s.request f (.port p.val)).1.entry f.line = {} ∧
      (s.request f (.port p.val)).1.mem = s.mem) ∧
    (f.typ = 0x14 ∨ f.typ = 0x15 → (s.request f (.port p.val)).1.txnsOf f.line = [] ∧
      (s.request f (.port p.val)).1.entry f.line = {} ∧ (s.request f (.port p.val)).1.mem = s.mem) ∧
    ((f.typ = 0x18 ∨ f.typ = 0x1A) → f.isSeal = false →
      ((s.request f (.port p.val)).1.txnsOf f.line).map (·.phase) = [if s.guardedLine f.line then .old else .write] ∧
      (s.request f (.port p.val)).1.mem = s.mem ∧ (s.request f (.port p.val)).1.orders = s.orders) ∧
    (f.typ = 0x19 ∨ f.typ = 0x1B →
      ((s.request f (.port p.val)).1.txnsOf f.line).map (·.phase)
        = [if s.guardedLine f.line && !subWord f.mask then .old else .write] ∧ (s.request f (.port p.val)).1.mem = s.mem))

/-- Seal stores wait for their series, atomics take a record (08_memory_model). -/
def Obligations.SealsAndAtomics : Prop :=
  ∀ (s : State) (f : Frame) (p : Fin 48) (t : Nat), s.unopposed f p t = true → s.untrackedLine f.line = true → f.ord = true →
    ((f.typ = 0x18 ∨ f.typ = 0x1A) → f.isSeal = true →
      (f.seq - 1 = (s.order f.src.toNat).ot → ((s.request f (.port p.val)).1.txnsOf f.line).map (·.phase)
        = [if s.guardedLine f.line then .old else .write]) ∧
      (f.seq - 1 ≠ (s.order f.src.toNat).ot → s.sealsWaiting (s.ownerDie f.line) < 256 →
        ((s.request f (.port p.val)).1.txnsOf f.line).map (·.phase) = [.seal] ∧
        (s.request f (.port p.val)).1.rf (Reg.BS_SEAL_WAITED (s.ownerDie f.line)) 0 64
          = (s.rf (Reg.BS_SEAL_WAITED (s.ownerDie f.line)) 0 64 + 1) % 2 ^ 64)) ∧
    (f.typ = 0x1C → atomicBad f = false → mfind s.echoes (echoKey (s.ownerDie f.line) f.src.toNat f.seq) = none →
      s.echoLive (s.ownerDie f.line) f.src.toNat < 256 →
      ((s.request f (.port p.val)).1.txnsOf f.line).map (·.phase) = [.rmwRead] ∧
      (mfind (s.request f (.port p.val)).1.echoes (echoKey (s.ownerDie f.line) f.src.toNat f.seq)).map (·.pending) = some true ∧
      (s.request f (.port p.val)).1.mem = s.mem)

/-- A sole holder evicts, writes back and upgrades (06_coherence_atlas). Whether the way that holds the entry reads right is the opaque
Config.atlasReadFails (log entry 61): where it does not, the request waits for the entry from the store (R175). -/
def Obligations.HoldersRequests : Prop :=
  ∀ (s : State) (f : Frame) (p : Fin 48) (t q : Nat), s.unopposed f p t = true → s.requester f.line f (.port p.val) = some q →
    (s.holder f.line q).lost = false → (s.entry f.line).awaited = [] → (s.entry f.line).holders = [q] →
    (s.entry f.line).vector = withBit 0 q → s.cached f.line = true → s.storeReading f.line = false →
    (Config.atlasReadFails s.free = true → (f.typ = 0x13 ∨ f.typ = 0x14 ∨ f.typ = 0x15) →
      ((s.request f (.port p.val)).1.txnsOf f.line).map (·.phase) = [.store] ∧ (s.request f (.port p.val)).1.storeReading f.line = true ∧
      (s.request f (.port p.val)).1.entry f.line = s.entry f.line) ∧
    (Config.atlasReadFails s.free = false → f.typ = 0x15 → (s.entry f.line).state = .shared → (s.request f (.port p.val)).1.entry f.line = {} ∧
      (s.request f (.port p.val)).1.txnsOf f.line = []) ∧
    (Config.atlasReadFails s.free = false → f.typ = 0x14 → (s.entry f.line).state = .exclusive → (s.entry f.line).owner = q → s.guardedLine f.line = false →
      ((s.request f (.port p.val)).1.txnsOf f.line).map (·.phase) = [.dirty] ∧
      (s.request f (.port p.val)).1.entry f.line = s.entry f.line) ∧
    (Config.atlasReadFails s.free = false → f.typ = 0x13 → (s.entry f.line).state = .shared →
      ((s.request f (.port p.val)).1.entry f.line).state = .exclusive ∧ ((s.request f (.port p.val)).1.entry f.line).owner = q ∧
      ((s.request f (.port p.val)).1.entry f.line).ownerTag = f.ctx ∧
      ((s.request f (.port p.val)).1.entry f.line).vector = withBit 0 q ∧ (s.request f (.port p.val)).1.txnsOf f.line = [])

/-- Probe answers and GrantAcks (06_coherence_atlas). -/
def Obligations.ProbesAndGrantAcks : Prop :=
  ∀ (s : State) (p : Fin 48) (f : Frame) (q : Nat),
    (∀ e : Entry, s.takesOwn p { f with typ := 0x42 } = true → s.answerPort f (.port p.val) = some q → s.entry f.line = e →
      (e.awaited.any (fun a => a.port == q && a.seqs.contains f.seq.toNat)) = true → s.txnsOf f.line = [] →
      exec (.grantAckRx (.port p) f) s = .next ((((s.counted p.val 1 f.vc).setEntry f.line
        { e with awaited := e.awaited.filter (fun a => !(a.port == q && a.seqs.contains f.seq.toNat)) }).portDone p.val
          { f with typ := 0x42 }).finish)) ∧
    (s.takesOwn p { f with typ := 0x42 } = true → s.answerPort f (.port p.val) = none →
      exec (.grantAckRx (.port p) f) s = .next ((((s.counted p.val 1 f.vc).unmatched p.val).portDone p.val { f with typ := 0x42 }).finish)) ∧
    (∀ (t : Txn) (x : ProbeOut), s.takesOwn p { f with typ := 0x46 } = true → s.answerPort f (.port p.val) = some q →
      f.typ ≠ 0x47 → f.line < 2 ^ 34 → s.txnsOf f.line = [t] → t.work = .recall .cport → t.phase = .probe → t.probes = [x] →
      x.port = q → x.id = f.aux.toNat % 2 ^ 32 → f.aux.toNat / 2 ^ 32 % 8 ≤ 2 → t.data = none → t.lostDirty = false →
      (s.entry f.line).state = .shared → ∃ r : State, exec (.probeAnswerRx (.port p) f) s = .next r.finish ∧
        r.entry f.line = {} ∧ r.txnsOf f.line = [] ∧ r.mem = s.mem)

/-- Gauges and the timers of lines (06_coherence_atlas, 08_memory_model). -/
def Obligations.GaugesAndTimers : Prop :=
  ∀ s : State, s.serving = true →
    (∀ (t : Fin 1024) (g : Fin 256) (x : Nat × Nat × Nat), s.increments.find? (fun x => x.1 == t.val && x.2.1 == g.val) = some x →
      exec (.gaugeIncrement t g) s = .next (({ s with increments := s.increments.erase x } : State).bump (Reg.TN_GAUGE_COUNT t.val g.val)
        0 64 (if s.packetMode t.val g.val then 1 else x.2.2)).finish) ∧
    (∀ (w : Writer) (t : Fin 1024) (g : Fin 256) (v : Word), s.quiet = true →
      s.mayWrite w (Reg.TN_GAUGE_COUNT t.val g.val) false = true → ∃ r : State, exec (.gaugeCountWrite w t g v) s = .next r ∧
        r.reg (Reg.TN_GAUGE_COUNT t.val g.val) = v ∧ (∀ off, off ≠ Reg.TN_GAUGE_COUNT t.val g.val → r.reg off = s.reg off) ∧
        r.increments = s.increments ∧ r.mem = s.mem) ∧
    (∀ (line : BitVec 39) (t : Txn) (f : Frame) (o : Origin) (k : Nat) (b : Bool), s.txnsOf line.toNat = [t] → s.sealWaits t = true →
      t.work = .req f o k b → ∃ r : State, exec (.sealWaitTimeout line) s = .next r.finish ∧ r.txnsOf line.toNat = [] ∧
        r.orders = s.orders ∧ r.increments = s.increments ∧ r.mem = s.mem) ∧
    (∀ (d : Fin 4) (src : Source) (seq : BitVec 24) (x : Echo), mfind s.echoes (echoKey d.val (sourceNumber src) seq) = some x →
      x.pending = false → ∃ r : State, exec (.echoRecordExpiry d src seq) s = .next r.finish ∧
        mfind r.echoes (echoKey d.val (sourceNumber src) seq) = none ∧ r.mem = s.mem ∧ r.regs = s.regs) ∧
    (∀ (line : BitVec 39) (port : Fin 1024), line.toNat < 2 ^ 34 → (s.entry line.toNat).awaited ≠ [] →
      ∃ r : State, exec (.probeOverdue line port) s = .next r.finish ∧ r.mem = s.mem ∧
        ∀ a ∈ (r.entry line.toNat).awaited, a.port = port.val → a.reported = true) ∧
    (∀ (line : BitVec 39) (t : Txn) (f : Frame) (o : Origin) (k q r : Nat), line.toNat < 2 ^ 34 → s.keysOf line.toNat = [line.toNat] →
      s.txnsOf line.toNat = [t] → t.work = .req f o k false → f.typ = 0x11 → t.phase = .start → t.looked = true → t.late = false →
      f.isSeal = false → t.probes = [] → s.requester line.toNat f o = some r → r ≠ q → (s.entry line.toNat).awaited = [] →
      (s.entry line.toNat).state = .exclusive → (s.entry line.toNat).vector = withBit 0 q →
      (s.entry line.toNat).holders = [q] → (s.entry line.toNat).owner = q → (s.cport q).lost = false →
      ∃ u : State, exec (.holdEndExpiry line) s = .next u.finish ∧ (s.entry line.toNat).holdEnd ≤ u.now ∧
        (u.txnsOf line.toNat).map (·.phase) = [.probe] ∧
        (u.txnsOf line.toNat).flatMap (fun t => t.probes.map (·.port)) = [q])

/-- Coherence-port commands and their walks (06_coherence_atlas). -/
def Obligations.CoherencePortsAndWalks : Prop :=
  (
  ∀ (s : State) (w : Writer), s.quiet = true → s.mayWrite w Reg.GL_CPORT_CMD false = true → s.busy cportRegs = false →
    (∀ (n : Fin 1024) (dev : BitVec 14) (kind : BitVec 2), n.val ≠ 0 → kind ≠ 1 → (s.cport n.val).valid = false →
      (s.cports.any (fun e => decide (e.1 ≠ n.val ∧ e.1 ≠ 0) && (e.2.valid || e.2.lost) && e.2.device == dev)) = false →
      exec (.cportSet w n dev kind) s
        = .next ((s.setCport n.val { device := dev, kind := kind.toNat, valid := true }).cportDone n.val 0)) ∧
    (∀ (n : Fin 1024) (dev : BitVec 14) (kind : BitVec 2), (n.val = 0 ∨ kind = 1) →
      exec (.cportSet w n dev kind) s = .next (s.cportDone n.val 3)) ∧
    (∀ n : Fin 1024, n.val ≠ 0 → (s.cport n.val).valid = false → exec (.cportClear w n) s = .next (s.cportDone n.val 4)) ∧
    (∀ n : Fin 1024, n.val ≠ 0 → (s.cport n.val).valid = true → s.linesOf n.val = [] →
      ∃ t : State, exec (.cportClear w n) s = .next t ∧ t.busy cportRegs = true ∧ t.cport n.val = s.cport n.val ∧
        t.rf Reg.GL_CPORT_SWEEP 0 24 = 0 ∧ t.atlas = s.atlas) ∧
    (∀ n : Fin 1024, (s.cport n.val).valid = true → s.linesOf n.val = [] →
      ∃ t : State, exec (.cportLose w n) s = .next t ∧ t.busy cportRegs = true ∧ (t.cport n.val).lost = true ∧
        (t.cport n.val).valid = true ∧ ∀ m, m ≠ n.val → t.cport m = s.cport m)) ∧
  (
  ∀ s : State, s.serving = true →
    (s.busy cportRegs = true → s.thoit.loseRunning = false → s.walkOver (field (s.runningWord cportRegs) 4 10) = true →
      ∃ t : State, exec .cportWalkDone s = .next t.finish ∧ t.busy cportRegs = false ∧
        (t.cport (field (s.runningWord cportRegs) 4 10)).valid = false ∧ t.rf Reg.GL_CPORT_SWEEP 0 24 = 8388608 ∧ t.mem = s.mem) ∧
    (∀ (w : Writer) (p : Fin 2048), s.quiet = true → s.mayWrite w Reg.GL_ATLAS_CMD false = true → s.busy atlasRegs = false →
      exec (.clearLost w p) s = .next (if s.rf (Reg.GL_PARCEL_LOSTDIRTY (p.val / 64)) (p.val % 64) 1 = 0 then s.done atlasRegs 1
        else s.keepBusy atlasRegs (pack [(4, 1), (11, p.val)]))) ∧
    (s.busy atlasRegs = true → ∃ t : State, exec .clearLostDone s = .next t.finish ∧ t.busy atlasRegs = false ∧ t.mem = s.mem ∧
      (∀ n, n < 2 ^ 34 → parcelOf n = field (s.runningWord atlasRegs) 4 11 → (t.entry n).state ≠ .lost) ∧
      t.rf (Reg.GL_PARCEL_LOSTDIRTY (field (s.runningWord atlasRegs) 4 11 / 64)) (field (s.runningWord atlasRegs) 4 11 % 64) 1 = 0) ∧
    (∀ (d : Fin 4) (piece : BitVec 16), (s.die d.val).sweeps.contains piece.toNat = true → s.censusOn d.val piece.toNat = false →
      exec (.pinSweepDone d piece) s = .next (s.setDie d.val { s.die d.val with
        sweeps := (s.die d.val).sweeps.filter (· != piece.toNat),
        pins := mput 0 (s.die d.val).pins piece.toNat (mget 0 (s.die d.val).pins piece.toNat
          + ((s.die d.val).sweeps.filter (· == piece.toNat)).length) }).finish))

/-- The inset's registers and member commands (07_insets). -/
def Obligations.InsetCommands : Prop :=
  ∀ (s : State) (w : Writer), s.quiet = true →
    (∀ (en : Bool) (lv : BitVec 2), s.mayWrite w Reg.GL_INSET_CFG true = true → (en = true → lv = 1 ∨ lv = 2) →
      (s.rf Reg.GL_INSET_CFG 0 1 = 0 ∨ (lv.toNat = s.rf Reg.GL_INSET_CFG 1 2 ∧ en = true)) →
      exec (.insetCfgWrite w en lv) s = .next ((s.setReg Reg.GL_INSET_CFG (pack [(1, bitN en), (2, lv.toNat)])).setMember 0
        { s.member 0 with valid := en })) ∧
    (∀ lv : BitVec 2, s.mayWrite w Reg.GL_INSET_CFG true = true → (lv = 0 ∨ lv = 3) →
      exec (.insetCfgWrite w true lv) s = .next (s.bump Reg.GL_MEMBER_DROPS 32 32 1)) ∧
    (s.mayWrite w Reg.GL_MEMBER_CMD false = true → s.busy memberRegs = false → s.insetOn = true →
      (∀ (n : Fin 1024) (dev : BitVec 14) (kind : Bool), n.val ≠ 0 → (kind = true → s.rf Reg.GL_INSET_CFG 1 2 ≠ 2) →
        (s.member n.val).valid = false →
        (s.members.any (fun e => decide (e.1 ≠ n.val ∧ e.1 ≠ 0) && (e.2.valid || e.2.lost) && e.2.device == dev)) = false →
        exec (.memberSet w n dev kind) s
          = .next ((s.setMember n.val { device := dev, kind := bitN kind, valid := true }).memberDone n.val 0)) ∧
      (∀ n : Fin 1024, n.val ≠ 0 → (s.member n.val).valid = true → s.insetLinesOf n.val = [] →
        (∃ t : State, exec (.memberClear w n) s = .next t ∧ t.busy memberRegs = true ∧ t.member n.val = s.member n.val ∧
          t.atlas = s.atlas) ∧
        (∃ t : State, exec (.memberLose w n) s = .next t ∧ t.busy memberRegs = true ∧ (t.member n.val).lost = true ∧
          ∀ m, m ≠ n.val → t.member m = s.member m)) ∧
      (∀ tag : BitVec 16, (s.atlas.filter (fun e => isInsetKey e.1 && e.2.state == .lost && e.2.ownerTag == tag)) = [] →
        ∃ t : State, exec (.flushLost w tag) s = .next t ∧ t.busy memberRegs = true ∧ t.atlas = s.atlas ∧
          t.rf Reg.GL_MEMBER_SWEEP 0 24 = 0)) ∧
    (s.serving = true → s.busy memberRegs = true → s.memberLines (field (s.runningWord memberRegs) 0 4)
        (field (s.runningWord memberRegs) 4 10) (BitVec.ofNat 16 (field (s.runningWord memberRegs) 48 16)) = [] →
      ∃ t : State, exec .memberWalkDone s = .next t.finish ∧
      t.busy memberRegs = false ∧ t.rf Reg.GL_MEMBER_SWEEP 0 24 = 8388608 ∧
      (field (s.runningWord memberRegs) 0 4 ≠ 4 → (t.member (field (s.runningWord memberRegs) 4 10)).valid = false) ∧ t.mem = s.mem)

/-- Captures, probes and grants of the caching agent (06_coherence_atlas, 07_insets). -/
def Obligations.FramesForTheCachingAgent : Prop :=
  ∀ (s : State) (p : Fin 48) (f : Frame), s.portTakes p.val = true → s.boot.deviceId.isSome = true →
    ((vcsOf 0x10).contains f.vc.toNat = true → f.typ = 0x10 → s.captures f = true → s.entry (remoteKey f.dst.toNat f.line) = {} →
      s.txnsOf (remoteKey f.dst.toNat f.line) = [] → s.wayIdle p.val (48 + f.line % 4) f.vc.toNat = true →
      ∃ t : State, exec (.memberCapture p f) s = .next t.finish ∧ t.mem = s.mem ∧
        (t.txnsOf (remoteKey f.dst.toNat f.line)).map (fun x => (x.phase, x.up)) = [(.store, 0)] ∧
        t.storeReading (remoteKey f.dst.toNat f.line) = true ∧
        t.entry (remoteKey f.dst.toNat f.line) = {}) ∧
    (∀ (k q tenant : Nat) (x : Txn), 2 ^ 39 ≤ k → s.txnsOf k = [x] → x.phase = .store → x.looked = true → x.probes = [] →
      x.work = .req f (.port q) tenant false → f.typ = 0x10 → s.storeReading k = false → s.entry k = {} → s.probedUp k = false →
      s.cacheRoom k = true → (s.storeMates k).length + s.storeClaims k < 8 →
      ((s.insetAdvance k).txnsOf k).map (fun x => (x.phase, x.up)) = [(.probe, 1)] ∧ (s.insetAdvance k).mem = s.mem ∧
        ∃ r ∈ (s.insetAdvance k).out, r.purpose = .inset k ∧ r.f.typ = 0x10 ∧ r.f.vc = 1 ∧ r.f.ctx = f.ctx ∧ r.f.addr = keyAddr k) ∧
    (f.vc = 2 → s.isSelf f.dst = true → s.insetOn = true →
      exec (.upstreamProbeRx p f) s = .next ((({ s.counted p.val 1 f.vc with
        uprobes := s.uprobes ++ [{ key := remoteKey f.src.toNat f.line, f := { f with typ := probeType f.typ } }] } : State).portDone p.val
          { f with typ := probeType f.typ }).finish)) ∧
    (f.vc = 2 → s.isSelf f.dst = true → s.insetOn = false → probeType f.typ = 0x43 → ∃ t : State,
      exec (.probeRx p f) s = .next t.finish ∧ t.mem = s.mem ∧ t.out = s.out ∧
      (t.rlcAt (remoteKey f.src.toNat f.line)) = (rlcAnswer (s.rlcAt (remoteKey f.src.toNat f.line)) .inv).2) ∧
    (∀ (r : OutReq) (d k : Nat), f.vc = 3 → s.isSelf f.dst = true → s.insetOn = false → s.matchOut f = some r →
      r.purpose = .eng (.rlc d k) → f.typ ≠ 0x41 → f.aux.toNat % 4 = grS → (s.rlcAt k).drop = false → ∃ t : State,
      exec (.grantRx p f) s = .next t.finish ∧ (t.rlcAt k).state = .shared ∧ (t.rlcAt k).data = f.data ∧ (t.rlcAt k).fill = 0 ∧
      t.out = s.out.erase r ∧ t.mem = s.mem)

/-- Responses are matched to their requests (07_insets, 09_speger_fabric, 16_tiers_cascade_custody). -/
def Obligations.ResponsesReachTheirSource : Prop :=
  ∀ (s : State) (p : Fin 48) (f : Frame), s.portTakes p.val = true → s.boot.deviceId.isSome = true → f.vc = 3 → s.isSelf f.dst = true →
    (s.matchOut f = none → exec (.responseRx p f) s
      = .next ((((s.counted p.val 1 f.vc).unmatched p.val).portDone p.val { f with typ := if f.typ = 0x51 then 0x51 else 0x50 }).finish)) ∧
    (∀ (r : OutReq) (n : Nat) (x : Txn), s.matchOut f = some r → r.purpose = .forward n → (s.txnsOf n).head? = some x →
      x.phase = .fetch → r.f.typ = 0x12 → f.status.toNat = stOk → ∃ t : State, exec (.responseRx p f) s = .next t.finish ∧
        t.out = s.out.erase r ∧ t.acts = s.acts ++ [.returned { line := n, use := .fetch } f.data 0] ∧ t.mem = s.mem) ∧
    (∀ (r : OutReq) (n : Nat), s.matchOut f = some r → r.purpose = .forward n → f.typ ≠ 0x51 → f.status.toNat = stRetry →
      ∃ t : State, exec (.responseRx p f) s = .next t.finish ∧ t.acts = s.acts ∧ t.mem = s.mem ∧
        t.out = s.out.map (fun x => if x = r then { x with retryAt := some (s.now + s.gzv 0x4030 0x03), tries := 0 } else x)) ∧
    (∀ (r : OutReq) (n : Nat), s.matchOut f = some r → r.purpose = .forward n → BitVec.ofNat 14 f.aux.toNat ≠ s.selfId →
      ∃ t : State, exec (.redirectRx p f) s = .next t.finish ∧ t.mem = s.mem ∧
        ∃ x ∈ t.out, x.f.dst = BitVec.ofNat 14 f.aux.toNat ∧ x.f.addr = BitVec.ofNat 46 (f.aux.toNat / 2 ^ 14) ∧
          x.f.seq = BitVec.ofNat 24 (mget 0 s.series (2 * (BitVec.ofNat 14 f.aux.toNat).toNat + bitN r.f.ord)) ∧ x.orig = some r.asked)

/-- Timers of sources and order resets (08_memory_model, 09_speger_fabric). -/
def Obligations.SourceTimersAndOrderResets : Prop :=
  (
  ∀ (s : State) (dst : BitVec 14) (ord : Bool) (seq : BitVec 24) (r : OutReq), s.serving = true → s.outAt dst ord seq = some r →
    s.boot.deviceId.isSome = true → s.isSelf r.f.dst = false →
    (r.retryAt = none → r.held = none → r.tries < s.gzv 0x4030 0x02 → ∃ t : State,
      exec (.sourceTimeout dst ord seq) s = .next t.finish ∧ t.now = max s.now (r.sentAt + 1000 * s.gzv 0x4030 0x01) ∧
      t.mem = s.mem ∧ ∃ x ∈ t.out, x.f = r.f ∧ x.tries = r.tries + 1 ∧ x.sentAt = t.now) ∧
    (∀ (n : Nat) (y : Txn), r.retryAt = none → r.held = none → ¬ r.tries < s.gzv 0x4030 0x02 → r.purpose = .forward n →
      (s.txnsOf n).head? = some y → y.phase = .fetch → r.f.typ = 0x12 → ∃ t : State,
      exec (.sourceTimeout dst ord seq) s = .next t.finish ∧ t.out = s.out.erase r ∧ t.mem = s.mem ∧
      t.acts = s.acts ++ [.failed { line := n, use := .fetch } stTargetLost]) ∧
    (∀ at_ : Nat, r.retryAt = some at_ → ∃ t : State, exec (.retryDelayExpiry dst ord seq) s = .next t.finish ∧
      t.now = max s.now at_ ∧ t.mem = s.mem ∧ ∃ x ∈ t.out, x.f = r.f ∧ x.retryAt = none ∧ x.sentAt = t.now)) ∧
  (
  ∀ (s : State) (w : Writer), s.alive = true → s.txns = [] → s.mayWrite w Reg.GL_ORDER_CMD false = true → s.busy orderRegs = false →
    (∀ dev : BitVec 14, ∃ t : State, exec (.orderReset w dev) s = .next t.finish ∧ t.order dev.toNat = {} ∧
      (∀ k, k ≠ dev.toNat → t.order k = s.order k) ∧ (∀ e ∈ t.echoes, e.1 / 2 ^ 24 % 2 ^ 16 ≠ dev.toNat) ∧ t.mem = s.mem ∧
      t.busy orderRegs = false ∧ t.rf orderRegs.status 4 4 = 0) ∧
    (∃ t : State, exec (.orderResetAll w) s = .next t.finish ∧ (∀ k, k < 16384 → t.order k = {}) ∧
      t.order 16384 = s.order 16384 ∧ t.mem = s.mem ∧ t.busy orderRegs = false) ∧
    (∃ t : State, exec (.orderResetCompanion w) s = .next t.finish ∧ t.order 16384 = {} ∧
      (∀ k, k ≠ 16384 → t.order k = s.order k) ∧ (∀ e ∈ t.echoes, e.1 / 2 ^ 24 % 2 ^ 16 ≠ 16384) ∧ t.mem = s.mem))

/-- Frames enter, cross and leave the sluice (10_sluice). -/
def Obligations.Sluice : Prop :=
  (
  ∀ (s : State) (p : Fin 48) (f : Frame), s.portTakes p.val = true → s.boot.deviceId.isSome = true →
    (vcsOf f.typ.toNat).contains f.vc.toNat = true → knownType false f.typ.toNat = true → f.typ.toNat < 0x80 →
    s.isSelf f.dst = false → s.captures f = false →
    (s.sluice.blocked.any (fun x => x.1 == p.val && x.2.vc == f.vc)) = false → s.drainDst ≠ some f.dst.toNat →
    (s.route f.dst.toNat).lost = false →
    (∀ o, (s.route f.dst.toNat).output f.src.toNat p.val = some o → s.portUp o = true →
      (f.vc = 2 → s.reserveUsed p.val < 64 → s.voq (voqKey p.val o 2) = {} → ∃ t : State,
        exec (.sluiceFrameEntry p f) s = .next t.finish ∧ t.mem = s.mem ∧
        (t.voq (voqKey p.val o 2)).chip.map (fun x => (x.f, x.stamp, x.input)) = [(f, s.now, p.val)]) ∧
      (f.vc ≠ 2 → s.sharedUsed (dieOfPort p.val) < 31936 →
        (s.voq (voqKey p.val o f.vc.toNat) = {} → s.gzv 0x4040 0x02 ≤ 31936 - s.sharedUsed (dieOfPort p.val) → ∃ t : State,
          exec (.sluiceFrameEntry p f) s = .next t.finish ∧ t.mem = s.mem ∧
          (t.voq (voqKey p.val o f.vc.toNat)).chip.map (fun x => (x.f, x.stamp, x.input)) = [(f, s.now, p.val)]) ∧
        ((s.voq (voqKey p.val o f.vc.toNat)).spilling = true → ∃ t : State,
          exec (.sluiceFrameEntry p f) s = .next t.finish ∧ t.mem = s.mem ∧ (t.voq (voqKey p.val o f.vc.toNat)).spilling = true ∧
          (t.voq (voqKey p.val o f.vc.toNat)).chip = (s.voq (voqKey p.val o f.vc.toNat)).chip ∧
          (t.voq (voqKey p.val o f.vc.toNat)).cist.map (·.f) = (s.voq (voqKey p.val o f.vc.toNat)).cist.map (·.f) ++ [f]))) ∧
    ((∀ o, (s.route f.dst.toNat).output f.src.toNat p.val = some o → s.portUp o = false) →
      exec (.sluiceFrameEntry p f) s = .next ((((s.counted p.val f.count f.vc).noRoute p.val).portDone p.val f).finish))) ∧
  (
  ∀ s : State, s.serving = true →
    (∃ t : State, exec .cellTime s = .next t.finish ∧ t.mem = s.mem ∧ t.sluice.cells = (s.sluice.cells + 1) % 21 ∧
      t.now = s.now + ((s.sluice.cells + 1) * 20 / 21 - s.sluice.cells * 20 / 21) ∧ t.sluice.cross = s.sluice.fly ∧
      (s.sluice.reqs = [] → t.sluice.fly = [])) ∧
    (∀ (i o : Fin 52) (v : Fin 6) (x : SFrame), (s.voq (voqKey i.val o.val v.val)).cist = [x] → s.aged x = false → x.left = 0 →
      (s.voq (voqKey i.val o.val v.val)).chip = [] → 0 < s.gzv 0x4040 0x04 → s.sharedUsed (dieOfSluice i.val) < 31936 → ∃ t : State,
      exec (.cisternReadback i o v) s = .next t.finish ∧ t.mem = s.mem ∧ (t.voq (voqKey i.val o.val v.val)).chip = [x] ∧
      (t.voq (voqKey i.val o.val v.val)).cist = [] ∧ (t.voq (voqKey i.val o.val v.val)).spilling = false) ∧
    (∀ (i o v : Nat) (x : SFrame), i < 52 → o < 52 → v < 6 → (s.voq (voqKey i o v)).chip = [x] → s.chooseVc i o = some v →
      s.eligible o x = true → x.left = 0 →
      ((s.grantCell i o).voq (voqKey i o v)).chip = [] ∧ (s.grantCell i o).mem = s.mem ∧
      (s.grantCell i o).sluice.fly = s.sluice.fly ++ [{ key := voqKey i o v, bytes := x.f.bytes, ends := [x] }] ∧
      (o < 48 → (s.grantCell i o).rf (Reg.PT_CREDIT o x.f.vc.toNat) 24 12 = s.rf (Reg.PT_CREDIT o x.f.vc.toNat) 24 12 - x.f.credits)) ∧
    (∀ (i o v : Nat) (x : SFrame), i < 52 → o < 48 → v < 6 → s.aged x = false → s.canSend o = true → (s.port o).txq = [] →
      (s.port o).slq = [] → s.replayHas o x.f = true →
      (s.sendCell { key := voqKey i o v, bytes := x.f.bytes, ends := [x] }).wire = .frame o x.f :: s.wire ∧
      ((s.sendCell { key := voqKey i o v, bytes := x.f.bytes, ends := [x] }).port o).replay = (s.port o).replay ++ [x.f] ∧
      (s.sendCell { key := voqKey i o v, bytes := x.f.bytes, ends := [x] }).mem = s.mem))

/-- Routes and shaping classes (10_sluice). -/
def Obligations.RoutesAndClasses : Prop :=
  ∀ (s : State) (w : Writer), s.quiet = true →
    (s.mayWrite w Reg.GL_ROUTE_CMD false = true → s.busy routeRegs = false →
      (∀ (d : BitVec 14) (p0 p1 p2 p3 : BitVec 6) (c : BitVec 3), s.isSelf d = false → s.heldFor d.toNat = false → 1 ≤ c.toNat → c.toNat ≤ 4 →
        p0.toNat < 48 → p1.toNat < 48 → p2.toNat < 48 → p3.toNat < 48 →
        exec (.routeSet w d p0 p1 p2 p3 c) s
          = .next ((s.setRoute d.toNat { ports := [p0.toNat, p1.toNat, p2.toNat, p3.toNat], count := c.toNat }).routeDone d.toNat 0)) ∧
      (∀ (d : BitVec 14) (p0 p1 p2 p3 : BitVec 6), exec (.routeSet w d p0 p1 p2 p3 0) s = .next (s.routeDone d.toNat 1)) ∧
      (∀ d : BitVec 14, s.isSelf d = false → s.heldFor d.toNat = false →
        exec (.routeClear w d) s = .next ((s.setRoute d.toNat {}).routeDone d.toNat 0)) ∧
      (∀ d : BitVec 14, s.isSelf d = false → (∀ e ∈ s.relocs, e.2.device ≠ d) → ∃ t : State,
        exec (.routeMarkLost w d) s = .next t ∧ (t.route d.toNat).lost = true ∧ (t.route d.toNat).ports = (s.route d.toNat).ports ∧
        (∀ k, k ≠ d.toNat → t.route k = s.route k) ∧ t.busy routeRegs = false ∧ t.mem = s.mem)) ∧
    (s.serving = true → s.busy routeRegs = true → s.heldFor (field (s.runningWord routeRegs) 4 14) = false → s.sluice.blocked = [] →
      ∃ t : State, exec .routeDrainDone s = .next t.finish ∧
        t.route (field (s.runningWord routeRegs) 4 14) = routeOf (s.runningWord routeRegs) ∧ t.busy routeRegs = false ∧ t.mem = s.mem) ∧
    (∀ (k : Fin 16384) (v : Word), s.mayWrite w (Reg.GL_CLASS_TABLE k.val) false = true → ∃ t : State,
      exec (.classTableWrite w k v) s = .next t ∧ t.reg (Reg.GL_CLASS_TABLE k.val)
        = (s.reg (Reg.GL_CLASS_TABLE k.val) &&& ~~~ (0x07FF07FF07FF07FF : Word)) ||| (v &&& 0x07FF07FF07FF07FF) ∧
      (∀ off, off ≠ Reg.GL_CLASS_TABLE k.val → t.reg off = s.reg off) ∧ t.mem = s.mem ∧ t.sluice = s.sluice)

/-- A port trains (09_speger_fabric). -/
def Obligations.PortTraining : Prop :=
  ∀ (s : State) (p : Fin 48),
    (∀ (w : Writer) (half : Bool), s.mayWrite w (Reg.PT_LINK_CFG p.val) false = true →
      (s.rf (Reg.PT_LINK_CFG p.val) 0 1 = 0 → s.creditSum ≤ 2048 → ∃ t : State, exec (.portEnableWrite w p true half) s = .next t.finish ∧
        t.linkState p.val = 1 ∧ t.rf (Reg.PT_LINK_CFG p.val) 0 1 = 1 ∧ t.rf (Reg.PT_LINK_CFG p.val) 1 1 = bitN half ∧ t.mem = s.mem) ∧
      (s.rf (Reg.PT_LINK_CFG p.val) 0 1 = 1 → ∃ t : State, exec (.portEnableWrite w p false half) s = .next t.finish ∧
        t.linkState p.val = 4 ∧ t.portUp p.val = false ∧ t.portPeer p.val = s.portPeer p.val ∧ t.mem = s.mem ∧
        ∀ q, q ≠ p.val → t.port q = s.port q)) ∧
    (s.serving = true → s.linkState p.val = 1 →
      (∀ usable : BitVec 9, exec (.pmdTrainingDone p usable) s
        = .next (s.setPort p.val { s.port p.val with usable := usable, pmd := true }).finish) ∧
      ((s.port p.val).pmd = true → (s.linkInit p.val).rxLanes ≠ 0 → ∃ t : State, exec (.linkInitTimer p) s = .next t.finish ∧
        .linkInit p.val (s.linkInit p.val) ∈ t.wire ∧ t.mem = s.mem) ∧
      (∀ m : LinkInit, (s.port p.val).pmd = true → (popCount m.rxLanes = 8 ∨ popCount m.rxLanes = 4) →
        (m.genMask.getLsbD 0 = false → ∃ t : State, exec (.linkInitRx p m) s = .next t.finish ∧ t.linkState p.val = 5 ∧ t.mem = s.mem) ∧
        (m.genMask.getLsbD 0 = true → ∃ t : State, exec (.linkInitRx p m) s = .next t.finish ∧ (t.port p.val).gotInit = true ∧
          (∀ v : Fin 8, t.rf (Reg.PT_CREDIT p.val v.val) 12 12 = (m.crd[v]).toNat) ∧
          t.portUp p.val = ((s.port p.val).sentAck && ((s.port p.val).gotAck || m.initAck)) ∧ t.mem = s.mem)) ∧
      (s.creditSum ≤ 2048 → (s.port p.val).fails < 2 → ∃ t : State, exec (.trainingTimeout p) s = .next t.finish ∧
        t.linkState p.val = 1 ∧ (t.port p.val).fails = (s.port p.val).fails + 1 ∧ t.mem = s.mem) ∧
      (2 ≤ (s.port p.val).fails → (s.port p.val).wasUp = false → ∃ t : State, exec (.trainingTimeout p) s = .next t.finish ∧
        t.linkState p.val = 0 ∧ t.mem = s.mem))

/-- Frames, acknowledgements and replay (09_speger_fabric). -/
def Obligations.PortFramesAndReplay : Prop :=
  ∀ (s : State) (p : Fin 48), s.serving = true → s.portUp p.val = true →
    (∀ fec : Bool, ∃ (t : State) (m : LinkAck), exec (.badFrameRx p { fec := fec }) s = .next t.finish ∧ (t.port p.val).discarding = true ∧
      t.wire = .linkAck p.val m :: s.wire ∧ m.nak = true ∧ m.ack = BitVec.ofNat 16 (s.port p.val).rx ∧ t.mem = s.mem) ∧
    (∀ (fec : Bool) (d : Frame), isMasked d.typ.toNat = true → (vcsOf d.typ.toNat).contains d.vc.toNat = true →
      (s.port p.val).discarding = false → (s.port p.val).half = none → ∃ (t : State) (m : LinkAck),
      exec (.badFrameRx p { fec := fec, half := some d }) s = .next t.finish ∧ (t.port p.val).half = some d ∧ (t.port p.val).discarding = true ∧
      (t.port p.val).rx = ((s.port p.val).rx + 1) % 65536 ∧ t.wire = .linkAck p.val m :: s.wire ∧ m.nak = true ∧
      m.ack = BitVec.ofNat 16 (((s.port p.val).rx + 1) % 65536) ∧ t.mem = s.mem) ∧
    (∀ m : LinkAck, m.nak = false → (s.port p.val).txq = [] → (s.port p.val).slq = [] →
      0 < (m.ack.toNat + 65536 - (s.port p.val).acked) % 65536 →
      (m.ack.toNat + 65536 - (s.port p.val).acked) % 65536 ≤ ((s.port p.val).tx + 65536 - (s.port p.val).acked) % 65536 →
      ∃ t : State, exec (.linkAckRx p m) s = .next t.finish ∧ (t.port p.val).acked = m.ack.toNat ∧ (t.port p.val).stuck = 0 ∧
        (t.port p.val).replay = dropAcked (s.port p.val).replay ((m.ack.toNat + 65536 - (s.port p.val).acked) % 65536) ∧
        (∀ v : Fin 6, t.rf (Reg.PT_CREDIT p.val v.val) 24 12 = (s.rf (Reg.PT_CREDIT p.val v.val) 24 12
          + ((m.crd[v]).toNat + 4096 - mget 0 (s.port p.val).peerRet v.val) % 4096) % 4096) ∧ t.wire = s.wire ∧ t.mem = s.mem) ∧
    (∀ start : BitVec 16, start.toNat = (s.port p.val).rx →
      exec (.replayRx p start) s = .next (s.setPort p.val { s.port p.val with discarding := false }).finish) ∧
    (∀ start : BitVec 16, start.toNat ≠ (s.port p.val).rx →
      exec (.replayRx p start) s = .next (s.setPort p.val { s.port p.val with discarding := true }).finish) ∧
    ((s.port p.val).txAsleep = false → ∃ (t : State) (m : LinkAck), exec (.ackTimer p) s = .next t.finish ∧
      t.wire = .linkAck p.val m :: s.wire ∧ m.nak = (s.port p.val).nak ∧ m.ack = BitVec.ofNat 16 (s.port p.val).rx ∧
      (t.port p.val).rxAckSent = (s.port p.val).rx ∧ t.mem = s.mem) ∧
    ((s.port p.val).txAsleep = false → (s.port p.val).replay ≠ [] → (s.port p.val).stuck < 8 → ∃ t : State,
      exec (.replayTimeout p) s = .next t.finish ∧ (t.port p.val).stuck = (s.port p.val).stuck + 1 ∧ t.mem = s.mem ∧
      t.wire = ((s.port p.val).replay.map (fun f => Sent.frame p.val f)).reverse ++ .replay p.val (s.port p.val).acked :: s.wire) ∧
    ((s.port p.val).rxAsleep = false → s.creditSum ≤ 2048 → ∃ t : State, exec (.linkSilenceTimeout p) s = .next t.finish ∧
      t.linkState p.val = 1 ∧ (t.port p.val).replay = [] ∧ t.mem = s.mem) ∧
    (∀ (typ : Byte) (vc : BitVec 3), (s.port p.val).discarding = false → s.mode ≠ .test →
      (knownType false typ.toNat = false → typ.toNat ≠ 0x1F → 4 < typ.toNat → exec (.badTypeFrameRx p { typ := typ, vc := vc }) s
        = .next ((((s.counted p.val 1 vc).bump (Reg.PT_DISCARDS p.val) 0 16 1).freeCredits p.val vc.toNat 1).ackIfDue p.val).finish) ∧
      ((typ = 0x1F ∨ typ = 0x19 ∨ typ = 0x1B) → exec (.badTypeFrameRx p { typ := typ, vc := vc }) s
        = .next ((((s.counted p.val 1 vc).bump (Reg.PT_DISCARDS p.val) 32 16 1).freeCredits p.val vc.toNat
            (if typ = 0x1F then 1 else 5)).ackIfDue p.val).finish))

/-- Lanes change, sleep and wake (09_speger_fabric, 19_power_clocks). -/
def Obligations.PortLanes : Prop :=
  ∀ (s : State) (p : Fin 48), s.serving = true → s.portUp p.val = true →
    (∀ lanes : BitVec 9, popCount lanes = 8 → ∃ t : State, exec (.laneSwapRx p lanes) s = .next t.finish ∧
      t.rf (Reg.PT_LINK_STATE p.val) 17 9 = lanes.toNat ∧
      t.linkState p.val = (if popCount (BitVec.ofNat 9 (s.rf (Reg.PT_LINK_STATE p.val) 8 9)) = 4 then 3 else 2) ∧
      (t.port p.val).swapping = true ∧ t.mem = s.mem) ∧
    (∀ lanes : BitVec 9, popCount lanes = 4 → ∃ t : State, exec (.laneSwapRx p lanes) s = .next t.finish ∧
      t.rf (Reg.PT_LINK_STATE p.val) 17 9 = lanes.toNat ∧ t.linkState p.val = 3 ∧ t.mem = s.mem) ∧
    ((s.port p.val).txq = [] → (s.port p.val).slq = [] → (s.port p.val).replay = [] → (s.port p.val).txAsleep = false → ∃ t : State,
      exec (.laneSwapRx p 0) s = .next t.finish ∧ (t.port p.val).txAsleep = true ∧ t.mem = s.mem) ∧
    (∀ lane : Fin 9, s.rf (Reg.PT_LINK_STATE p.val) (8 + lane.val) 1 = 1 →
      8 ≤ (onesOf (withoutBit (s.port p.val).usable lane.val)).length → ∃ t : State, exec (.laneFailure p lane) s = .next t.finish ∧
        t.rf (Reg.PT_LINK_STATE p.val) 8 9 = (chooseLanes (withoutBit (s.port p.val).usable lane.val) (allowHalf s p.val)).toNat ∧
        .laneSwap p.val (chooseLanes (withoutBit (s.port p.val).usable lane.val) (allowHalf s p.val)) ∈ t.wire ∧
        t.linkState p.val = (if popCount (BitVec.ofNat 9 (s.rf (Reg.PT_LINK_STATE p.val) 17 9)) = 4 then 3 else 2) ∧
        (t.port p.val).swapping = true ∧ t.mem = s.mem) ∧
    (∀ lane : Fin 9, s.rf (Reg.PT_LINK_STATE p.val) (8 + lane.val) 1 = 0 → exec (.laneFailure p lane) s
      = .next (s.setPort p.val { s.port p.val with usable := withoutBit (s.port p.val).usable lane.val }).finish) ∧
    ((s.port p.val).txq = [] → (s.port p.val).slq = [] → ∃ (t : State) (m : LinkAck), exec (.laneRealignDone p) s = .next t.finish ∧
      t.wire = .linkAck p.val m :: s.wire ∧ m.nak = true ∧ (t.port p.val).discarding = true ∧ (t.port p.val).swapping = false ∧ t.mem = s.mem) ∧
    ((s.port p.val).swapping = true → s.creditSum ≤ 2048 → ∃ t : State, exec (.realignTimeout p) s = .next t.finish ∧
      t.linkState p.val = 1 ∧ t.mem = s.mem) ∧
    ((s.port p.val).rxAsleep = false → s.gzv 0x8020 0x01 ≠ 0 → exec (.laneSleepConsent p) s
      = .next ((s.setPort p.val { s.port p.val with rxAsleep := true }).send (.laneSwap p.val 0)).finish) ∧
    (s.gzv 0x8020 0x01 = 0 → exec (.laneSleepConsent p) s = .next s.finish) ∧
    ((s.port p.val).txAsleep = true → (s.port p.val).txq = [] → (s.port p.val).slq = [] → ∃ (t : State) (m : LinkAck), exec (.laneWake p) s = .next t.finish ∧
      t.wire = .linkAck p.val m :: s.wire ∧ (t.port p.val).txAsleep = false ∧ t.mem = s.mem)

/-- Join frames (21_startup_recovery). -/
def Obligations.JoinFrames : Prop :=
  ∀ (s : State) (p : Fin 48) (f : Frame), s.portTakes p.val = true → f.vc = 5 →
    exec (.discoverRx p f) s = .next ((((s.counted p.val 1 f.vc).answerJoin p.val { f with typ := 0x80 } false).portDone p.val { f with typ := 0x80 }).finish) ∧
    (s.boot.deviceId = none → s.mode = .boot → s.boot.accepted = true → ∃ t : State, exec (.assignIdRx p f) s = .next t.finish ∧
      t.boot.deviceId = some (BitVec.ofNat 14 (field f.aux 32 14)) ∧ t.mem = s.mem) ∧
    (s.boot.deviceId.isSome = true → ∃ t : State, exec (.assignIdRx p f) s = .next t.finish ∧ t.boot.deviceId = s.boot.deviceId ∧ t.mem = s.mem) ∧
    (s.busy joinRegs = true → f.aux.toNat % 2 ^ 32 = s.boot.joinToken.toNat → ∃ t : State, exec (.discoverAnsRx p f) s = .next t.finish ∧
      t.busy joinRegs = false ∧ (∀ i < 16, t.reg (Reg.GL_JOIN_VIEW i) = lineWord f.data i) ∧ t.mem = s.mem) ∧
    (f.aux.toNat % 2 ^ 32 ≠ s.boot.joinToken.toNat →
      exec (.discoverAnsRx p f) s = .next (((s.counted p.val 1 f.vc).portDone p.val { f with typ := 0x81 }).finish))

/-- The Thoit link trains and is lost (11_thoit_link). -/
def Obligations.ThoitTrainingAndLoss : Prop :=
  (
  ∀ (s : State) (g : Fin 2),
    (∀ w : Writer, s.mayWrite w Reg.GL_THOIT_CFG false = true → s.rf Reg.GL_THOIT_CFG 0 1 = 0 → s.thoit.loseRunning = false →
      s.bootMode = false → s.groupState g.val = 0 → ∃ t : State, exec (.thoitEnableWrite w true) s = .next t.finish ∧
        t.groupState g.val = 1 ∧ t.rf Reg.GL_THOIT_CFG 0 1 = 1 ∧ t.mem = s.mem) ∧
    (∀ w : Writer, s.mayWrite w Reg.GL_THOIT_CFG false = true → ∃ t : State, exec (.thoitEnableWrite w false) s = .next t.finish ∧
      t.groupState 0 = 0 ∧ t.groupState 1 = 0 ∧ t.rf Reg.GL_THOIT_CFG 0 1 = 0 ∧ t.mem = s.mem) ∧
    (s.serving = true → s.groupState g.val = 1 →
      (∀ usable : BitVec 17, (s.group g.val).locked = false → 16 ≤ popCount usable → exec (.thoitLaneLockDone g usable) s
        = .next (s.setGroup g.val { s.group g.val with usable := usable, locked := true }).finish) ∧
      ((s.group g.val).fails < 2 → ∃ t : State, exec (.thoitTrainTimeout g) s = .next t.finish ∧ t.groupState g.val = 1 ∧
        (t.group g.val).fails = (s.group g.val).fails + 1 ∧ (t.group g.val).locked = false ∧ t.mem = s.mem) ∧
      (2 ≤ (s.group g.val).fails → s.txns = [] → s.echoes = [] → ∃ t : State, exec (.thoitTrainTimeout g) s = .next t.finish ∧ t.groupState g.val = 0 ∧ t.mem = s.mem) ∧
      (∀ m : ControlHalf, m.init = true → ∃ t : State, exec (.thoitControlHalfRx g m) s = .next t.finish ∧
        (t.group g.val).peerInit = true ∧ t.groupState g.val = 1 ∧ t.mem = s.mem) ∧
      (∀ m : ControlHalf, m.init = false → (s.group g.val).peerInit = true → (s.group g.val).locked = true → s.txns = [] → s.echoes = [] →
        ∃ t : State,        exec (.thoitControlHalfRx g m) s = .next t.finish ∧ t.groupUp g.val = true ∧ t.mem = s.mem))) ∧
  (
  ∀ s : State, s.serving = true → s.bootMode = false → s.groupState 0 = 0 → s.groupState 1 = 0 → s.link ≠ 4 → s.atlas = [] → s.txns = [] →
    s.thoit.t2 = [] → ∃ t : State, exec .thoitLinkLossTimeout s = .next t.finish ∧ t.link = 4 ∧ (t.cport 0).lost = true ∧
      t.thoit.loseRunning = true ∧ t.mem = s.mem ∧ t.now = max s.now (s.thoit.lostSince + 1000 * s.gzv 0x4050 0x01) ∧
      (∀ x ∈ t.thoit.waiting, x.1 = 2) ∧ ∀ n, n ≠ 0 → t.cport n = s.cport n)

/-- Cycles, flits and lanes of a Thoit group (11_thoit_link). -/
def Obligations.ThoitTraffic : Prop :=
  ∀ (s : State) (g : Fin 2), s.serving = true → 2 ≤ s.groupState g.val →
    (∃ t : State, exec (.thoitCycle g) s = .next t.finish ∧ (t.group g.val).cycle = ((s.group g.val).cycle + 1) % 65536 ∧
      (t.group g.val).receipts = (s.group g.val).receipts.filter (fun r => r.1 / 12 != ((s.group g.val).cycle + 1) % 65536) ∧ t.mem = s.mem ∧
      ∃ m : CtlOut, .control g.val m ∈ t.wire ∧ m.receipts = (s.group g.val).due (((s.group g.val).cycle + 1) % 65536) ∧ m.cycle = ((s.group g.val).cycle + 1) % 65536) ∧
    (∀ m : ControlHalf, (∀ i : Fin 12, m.gacks[i] = none) → m.nak = true → (m.replay = true → (s.group g.val).unsure = []) → ∃ t : State,
      exec (.thoitControlHalfRx g m) s = .next t.finish ∧ (t.group g.val).replaying = true ∧ t.mem = s.mem) ∧
    (∀ slot : Fin 3, ∃ t : State, exec (.thoitFlitRx g slot { good := false }) s = .next t.finish ∧ (t.group g.val).discarding = true ∧
      (t.group g.val).nak = true ∧ (t.group g.val).rx = (s.group g.val).rx ∧ t.mem = s.mem) ∧
    (∀ (slot : Fin 3) (f : Frame), (s.group g.val).discarding = false → f.typ = 0xA3 → s.bootMode = false → ∃ t : State,
      exec (.thoitFlitRx g slot { msgs := [f] }) s = .next t.finish ∧ (t.group g.val).rx = (s.group g.val).rx + 1 ∧
      mfind (t.group g.val).receipts (12 * (s.group g.val).rxCycle + 4 * slot.val) = some accepted ∧ t.thoit.answers.length = s.thoit.answers.length + 1 ∧ t.mem = s.mem) ∧
    (∀ lane : Fin 17, (s.lanesOf g.val).getLsbD lane.val = true → s.groupState g.val = 2 →
      16 ≤ popCount (withoutBit (s.group g.val).usable lane.val) → ∃ t : State, exec (.thoitLaneFailure g lane) s = .next t.finish ∧
        t.groupState g.val = 3 ∧ t.lanesOf g.val = withoutBit (s.group g.val).usable lane.val ∧
        (t.group g.val).swapMask = some (withoutBit (s.group g.val).usable lane.val) ∧ t.mem = s.mem) ∧
    (∀ lane : Fin 17, (s.lanesOf g.val).getLsbD lane.val = true → s.groupState g.val = 3 → ∃ t : State,
      exec (.thoitLaneFailure g lane) s = .next t.finish ∧ t.groupState g.val = 1 ∧ t.mem = s.mem)

/-- Register messages and answers of tier T2 (11_thoit_link, 16_tiers_cascade_custody). -/
def Obligations.ThoitMessages : Prop :=
  ∀ (s : State) (f : Frame), s.serving = true → s.bootMode = false → s.groupUp (s.msgGroup f) = true → s.freeEntry (s.msgGroup f) < 12 →
    (f.addr.toNat < 2 ^ 28 → ∃ (t : State) (a : Frame), exec (.regRead f) s = .next t.finish ∧ t.thoit.answers = s.thoit.answers ++ [a] ∧
      a.typ = 0xA5 ∧ a.seq = f.seq ∧ a.addr = f.addr ∧ a.status.toNat = stOk ∧ a.data = (s.readRegLine f.addr.toNat).1 ∧ t.mem = s.mem) ∧
    (2 ^ 28 ≤ f.addr.toNat → (∃ (t : State) (a : Frame), exec (.regRead f) s = .next t.finish ∧ t.thoit.answers = s.thoit.answers ++ [a] ∧
        a.status.toNat = stNoParcel ∧ t.regs = s.regs ∧ t.mem = s.mem) ∧
      (∃ (t : State) (a : Frame), exec (.regWrite f) s = .next t.finish ∧ t.thoit.answers = s.thoit.answers ++ [a] ∧
        a.status.toNat = stNoParcel ∧ t.regs = s.regs ∧ t.mem = s.mem)) ∧
    (f.addr.toNat < 2 ^ 28 → s.messageVendor (s.msgGroup f) { f with typ := 0xA4 } = false →
      exec (.regWrite f) s = .next ((((s.writeRegLine .companion f.addr.toNat f.data f.mask).regAnswer { f with typ := 0xA4 } 0xA6 stOk 0).owe
        (s.msgGroup f) (s.freeEntry (s.msgGroup f)) accepted).finish)) ∧
    (∀ (x : Frame) (n : Nat) (y : Txn), s.thoit.t2.find? (fun x => x.1.seq == f.seq) = some (x, .forward n) →
      (s.txnsOf n).head? = some y → y.phase = .fetch → x.typ = 0xA8 → f.status.toNat = stOk → ∃ t : State,
      exec (.t2Ans f) s = .next t.finish ∧ t.thoit.t2 = s.thoit.t2.erase (x, .forward n) ∧
      t.acts = s.acts ++ [.returned { line := n, use := .fetch } f.data 0] ∧ t.mem = s.mem) ∧
    (s.thoit.t2.find? (fun x => x.1.seq == f.seq) = none → exec (.t2Ans f) s = .next ((((s.bump Reg.GL_THOIT_COUNTS 0 16 1).owe
      (s.msgGroup f) (s.freeEntry (s.msgGroup f)) accepted).finish)))

/-- Registers of a queue pair (12_tenants_queues). -/
def Obligations.QueuePairRegisters : Prop :=
  ∀ (s : State) (w : Writer) (t : Fin 1024) (q : Fin 64),
    (s.mayWrite w (Reg.TN_QP_CTRL t.val q.val) false = true →
      (s.qpState t.val q.val = 0 → s.qpConfigGood t.val q.val = true → ∃ u : State, exec (.qpEnable w t q) s = .next u.finish ∧
        u.qpState t.val q.val = 1 ∧ u.rf (Reg.TN_QP_CTRL t.val q.val) 0 1 = 1 ∧ u.reg (Reg.TN_QP_SQ_TAIL t.val q.val) = 0 ∧
        u.reg (Reg.TN_QP_SQ_HEAD t.val q.val) = 0 ∧ u.reg (Reg.TN_QP_CQ_HEAD t.val q.val) = 0 ∧
        u.rf (Reg.TN_QP_CQ_TAIL t.val q.val) 0 17 = 65536 ∧ u.qp t.val q.val = {} ∧ u.mem = s.mem) ∧
      (s.qpState t.val q.val = 0 → s.qpConfigGood t.val q.val = false → ∃ u : State, exec (.qpEnable w t q) s = .next u.finish ∧
        u.qpState t.val q.val = 0 ∧ u.rf (Reg.TN_QP_CTRL t.val q.val) 4 4 = 1 ∧ u.mem = s.mem) ∧
      (s.qpState t.val q.val = 1 → (s.qp t.val q.val).descs = [] → ∃ u : State, exec (.qpDisable w t q) s = .next u.finish ∧
        u.qpState t.val q.val = 0 ∧ u.rf (Reg.TN_QP_CTRL t.val q.val) 0 1 = 0 ∧ u.mem = s.mem)) ∧
    (∀ (r : Fin 3) (v : Word) (row : Reg.Row), s.mayWrite w (Reg.TN_QP_SQ_BASE t.val q.val + 8 * r.val) false = true →
      Reg.rowOf (Reg.TN_QP_SQ_BASE t.val q.val + 8 * r.val) = some row →
      (s.qpState t.val q.val = 0 → exec (.qpConfigWrite w t q r v) s
        = .next (s.setReg (Reg.TN_QP_SQ_BASE t.val q.val + 8 * r.val) (v &&& BitVec.ofNat 64 row.rw)).finish) ∧
      (s.qpState t.val q.val ≠ 0 → exec (.qpConfigWrite w t q r v) s = .next (s.bump (Reg.TN_CNT_DROPS t.val) 0 32 1).finish)) ∧
    (∀ tail : BitVec 16, s.mayWrite w (Reg.TN_QP_SQ_TAIL t.val q.val) false = true →
      (tail.toNat < s.sqSize t.val q.val → exec (.sqDoorbell w t q tail) s
        = .next (s.setReg (Reg.TN_QP_SQ_TAIL t.val q.val) (BitVec.ofNat 64 tail.toNat)).finish) ∧
      (s.qpState t.val q.val = 1 → s.sqSize t.val q.val ≤ tail.toNat → ∃ u : State, exec (.sqDoorbell w t q tail) s = .next u.finish ∧
        u.qpState t.val q.val = 3 ∧ u.rf (Reg.TN_QP_CTRL t.val q.val) 4 4 = 2 ∧
        u.rf (Reg.TN_QP_CTRL t.val q.val) 16 16 = tail.toNat ∧ u.mem = s.mem)) ∧
    (∀ head : BitVec 16, s.mayWrite w (Reg.TN_QP_CQ_HEAD t.val q.val) false = true → s.qpState t.val q.val = 1 →
      (s.qp t.val q.val).descs = [] → ∃ u : State, exec (.cqHeadWrite w t q head) s = .next u.finish ∧
        u.reg (Reg.TN_QP_CQ_HEAD t.val q.val) = BitVec.ofNat 64 head.toNat ∧ u.qpState t.val q.val = 1 ∧ u.mem = s.mem)

/-- Descriptors start and end; the bytes the mover writes (12_tenants_queues). -/
def Obligations.DescriptorsAndTheMover : Prop :=
  (
  ∀ (s : State) (t : Fin 1024) (q : Fin 64), s.serving = true →
    (∀ (l : Line) (s1 : State), s.canFetch t.val q.val = true →
      (engRead (fetchEng t.val q.val (s.rf (Reg.TN_QP_SQ_HEAD t.val q.val) 0 16)) (dieOfQp t.val q.val) (s.qpCtx t.val q.val) 0
        (2 ^ 60 + s.selfId.toNat * 2 ^ 46 + ((s.reg (Reg.TN_QP_SQ_BASE t.val q.val)).toNat
          + 64 * s.rf (Reg.TN_QP_SQ_HEAD t.val q.val) 0 16))).on s = (.ok l, s1) →
      exec (.descFetchReturn t q) s = .next ((s1.dropAns (fetchEng t.val q.val (s.rf (Reg.TN_QP_SQ_HEAD t.val q.val) 0 16))).startDesc
        t.val q.val (s.rf (Reg.TN_QP_SQ_HEAD t.val q.val) 0 16)
        ((l >>> (8 * (((s.reg (Reg.TN_QP_SQ_BASE t.val q.val)).toNat + 64 * s.rf (Reg.TN_QP_SQ_HEAD t.val q.val) 0 16) % 128))).setWidth
          512)).finish) ∧
    (∀ (i : Nat) (b : DescBits), s.descBad b (s.qpCtx t.val q.val) = false → (s.qp t.val q.val).descs = [] →
      ((s.startDesc t.val q.val i b).qp t.val q.val).descs = [{ index := i, body := b }] ∧
      (s.startDesc t.val q.val i b).rf (Reg.TN_QP_SQ_HEAD t.val q.val) 0 16
        = (s.rf (Reg.TN_QP_SQ_HEAD t.val q.val) 0 16 + 1) % s.sqSize t.val q.val % 65536) ∧
    (∀ d : Desc, s.nextDesc t.val q.val 0x01 = some d → exec (.descNop t q) s = .next (s.descDone t.val q.val d.index 0 0).finish) ∧
    (∀ (d : Desc) (s1 : State), s.nextDesc t.val q.val 0x02 = some d →
      (copyOp t.val q.val d (s.qpCtx t.val q.val)).on (s.modDesc t.val q.val d.index (fun d => { d with phase := .working })) = (.ok (), s1) →
      exec (.copy t q) s = .next (s1.descWriting t.val q.val d.index (BitVec.ofNat 64 (bf d.body 223 192)) 0).finish) ∧
    (∀ (d : Desc) (s1 : State), s.nextDesc t.val q.val 0x03 = some d →
      (fillOp t.val q.val d (s.qpCtx t.val q.val)).on (s.modDesc t.val q.val d.index (fun d => { d with phase := .working })) = (.ok (), s1) →
      exec (.fill t q) s = .next (s1.descWriting t.val q.val d.index (BitVec.ofNat 64 (bf d.body 223 192)) 0).finish) ∧
    (∀ d : Desc, (s.qp t.val q.val).descs.find? (fun d => d.phase == .writing && !s.engBusy (qpEng t.val q.val d.index)) = some d →
      (opOf d.body = 0x02 ∨ opOf d.body = 0x03) → s.refusedAns (qpEng t.val q.val d.index) = none →
      exec (.descWritesDone t q) s = .next ((s.bump (Reg.TN_CNT_BYTES t.val) 0 64 (bf d.body 223 192)).descDone t.val q.val d.index
        d.result d.extra).finish) ∧
    (∀ d : Desc, (s.qp t.val q.val).descs = [d] → d.phase = .working → s.tasks = [] → s.tables = [] → s.indexes = [] →
      s.qpState t.val q.val = 1 → s.cqRoom t.val q.val = false → ∀ res ext : Word,
      ((s.descDone t.val q.val d.index res ext).qp t.val q.val).descs = [{ d with phase := .owed, result := res, extra := ext }] ∧
      (s.descDone t.val q.val d.index res ext).rf (Reg.TN_QP_CTRL t.val q.val) 12 1 = 1)) ∧
  (
  ∀ (dst len va : Nat) (bytes : List Byte) (gauge : Option Nat), va % 128 = 0 → va < dst + len → dst < va + 128 → bytes.length = len →
    ∀ i < 128,
      ((moverFrame dst len va bytes gauge).mask.getLsbD i = decide (dst ≤ va + i ∧ va + i < dst + len)) ∧
      (dst ≤ va + i → va + i < dst + len → lineByte (moverFrame dst len va bytes gauge).data i = bytes.getD (va + i - dst) 0) ∧
      ((moverFrame dst len va bytes gauge).typ = if dst ≤ va ∧ va + 128 ≤ dst + len then (if gauge.isSome then 0x1A else 0x18)
        else (if gauge.isSome then 0x1B else 0x19)) ∧ (moverFrame dst len va bytes gauge).ord = true)

/-- TASK places its task (12_tenants_queues, 13_jets). -/
def Obligations.TaskDescriptors : Prop :=
  ∀ (s : State) (t : Fin 1024) (q : Fin 64) (d : Desc), s.serving = true →
    (s.qp t.val q.val).descs.find? (fun d => opOf d.body == 0x08 && d.phase == .fetched) = some d → s.qpParked t.val q.val = none →
    (∀ (j r : Nat), bf d.body 391 391 = 0 → bf d.body 390 384 = j → s.jetEnabled j = true → s.freeSlot j = some r → ∃ u : State,
      exec (.task t q) s = .next u.finish ∧ (u.task j r).state = .ready ∧ (u.task j r).cause = 5 ∧ (u.task j r).tenant = t.val ∧
      (u.task j r).ctx = s.qpCtx t.val q.val ∧ (u.task j r).legVa = bf d.body 127 64 ∧
      (u.task j r).regs.getX 1 = BitVec.ofNat 64 (bf d.body 191 128) ∧ (u.task j r).regs.getX 2 = BitVec.ofNat 64 (bf d.body 255 192) ∧
      (u.task j r).regs.getX 3 = BitVec.ofNat 64 (bf d.body 319 256) ∧ (u.task j r).regs.getX 4 = BitVec.ofNat 64 (bf d.body 383 320) ∧
      (∀ n, 4 < n → (u.task j r).regs.getX n = 0) ∧ u.mem = s.mem) ∧
    (∀ j : Nat, bf d.body 391 391 = 0 → bf d.body 390 384 = j → s.jetEnabled j = true → s.freeSlot j = none →
      exec (.task t q) s = .next s.finish) ∧
    (bf d.body 391 391 = 0 → s.jetEnabled (bf d.body 390 384) = false →
      exec (.task t q) s = .next (s.descFail t.val q.val d.index 0x14 stTargetLost 0 0 (some (bf d.body 390 384))).finish)

/-- Fences and tenant reset (12_tenants_queues). -/
def Obligations.FencesAndReset : Prop :=
  ∀ (s : State) (w : Writer) (t : Fin 1024),
    (∀ tag : BitVec 16, s.mayWrite w (Reg.TN_FENCE_CMD t.val) false = true → s.busy (fenceRegs t.val) = false →
      (s.mine t.val tag = false → exec (.fenceTag w t tag) s = .next (s.done (fenceRegs t.val) 1).finish ∧
        exec (.unfenceTag w t tag) s = .next (s.done (fenceRegs t.val) 1).finish) ∧
      (∀ (n : Nat) (c : Ctx), s.mine t.val tag = true → s.ctxOf tag = some (n, c) → c.fenced = false → ∃ u : State,
        exec (.fenceTag w t tag) s = .next u.finish ∧ u.ctxEntry n = { c with fenced := true } ∧
        u.drains = s.drains ++ [{ tag := tag, slot := c.tenant }] ∧ u.rf (fenceRegs t.val).status 4 4 = 0 ∧ u.mem = s.mem) ∧
      (s.mine t.val tag = true → (s.drains.any (fun x => x.tag == tag)) = false → s.lostDirty t.val = false → ∃ u : State,
        exec (.unfenceTag w t tag) s = .next u.finish ∧ (∀ e ∈ u.ctxs, e.2.valid = true → e.2.tag = tag → e.2.fenced = false) ∧
        u.rf (fenceRegs t.val).status 4 4 = 0 ∧ u.mem = s.mem)) ∧
    (s.mayWrite w (Reg.TN_FENCE_CMD t.val) false = true → s.busy (fenceRegs t.val) = false →
      exec (.fenceAll w t) s = .next ((s.forEach ((s.tagsOf t.val).map (·.tag)) State.fence).done (fenceRegs t.val) 0).finish ∧
      (s.draining t.val = [] → (s.drains.any (fun x => ((s.tagsOf t.val).map (·.tag)).contains x.tag)) = false → s.lostDirty t.val = false → ∃ u : State,
        exec (.unfenceAll w t) s = .next u.finish ∧ (∀ c ∈ u.tagsOf t.val, c.fenced = false) ∧ u.mem = s.mem)) ∧
    (s.mayWrite w (Reg.TN_RESET_CMD t.val) false = true → s.busy (fenceRegs t.val) = false →
      (s.draining t.val = [] → (s.tagsOf t.val).any (fun c => !c.fenced) = true →
        exec (.tenantReset w t) s = .next (s.done (fenceRegs t.val) 4).finish) ∧
      (s.draining t.val = [] → (s.tagsOf t.val).any (fun c => !c.fenced) = false → ∃ u : State,
        exec (.tenantReset w t) s = .next u.finish ∧ (∀ off, resetRegs t.val off = true → u.reg off = Reg.reset off) ∧
        (∀ e ∈ u.qps, e.1 / 64 ≠ t.val) ∧ (∀ e ∈ u.tables, e.2.tenant ≠ t.val) ∧ (∀ e ∈ u.indexes, e.2.tenant ≠ t.val) ∧
        u.mem = s.mem ∧ u.ctxs = s.ctxs ∧ ∀ k q, k ≠ t.val → q < 64 → u.qp k q = s.qp k q)) ∧
    (∀ (tag : BitVec 16) (x : Drain), s.serving = true → s.drains.find? (fun x => x.tag == tag && x.applied) = some x →
      (s.drained tag = true → ∃ u : State, exec (.fenceDrained tag) s = .next u.finish ∧ u.drains = s.drains.erase x ∧ u.mem = s.mem) ∧
      (s.drained tag = false → exec (.fenceDrained tag) s = .next s.finish))

/-- Every scalar instruction puts its result under way (13_jets). -/
def Obligations.ScalarInstructions : Prop :=
  ∀ (s : State) (j : Fin 104) (r : Nat) (t : Task) (f : ScalarSlot) (x y : Word), x = (t.issued 1).regs.getX f.a.toNat →
    y = scalarOpd f (t.issued 1).regs →
    (∀ row ∈ [(Instr.add j f, 0x01, 1, x + y), (.sub j f, 0x02, 1, x - y), (.and j f, 0x03, 1, x &&& y), (.or j f, 0x04, 1, x ||| y),
        (.xor j f, 0x05, 1, x ^^^ y), (.shl j f, 0x06, 1, x <<< (y.toNat % 64)), (.shr j f, 0x07, 1, x >>> (y.toNat % 64)),
        (.sar j f, 0x08, 1, x.sshiftRight (y.toNat % 64)), (.mul j f, 0x09, 3, x * y), (.min j f, 0x0A, 1, if x.slt y then x else y),
        (.max j f, 0x0B, 1, if x.slt y then y else x), (.cmplt j f, 0x0C, 1, if x.slt y then 1 else 0),
        (.cmpltu j f, 0x0D, 1, if x.ult y then 1 else 0), (.cmpeq j f, 0x0E, 1, if x = y then 1 else 0),
        (.li j f, 0x10, 1, f.imm.signExtend 64), (.lui j f, 0x11, 1, f.imm ++ ((t.issued 1).regs.getX f.d.toNat).setWidth 32),
        (.vext j f, 0x12, 2, (((t.issued 1).regs.getV f.a.toNat) >>> (64 * (f.imm.toNat % 32))).setWidth 64),
        (.stamp j f, 0x16, 1, BitVec.ofNat 64 s.edges)],
      s.atSlot j.val r t 1 (scalarBits row.2.1 f).toNat = true → ∃ u : State, exec row.1 s = .next u.finish ∧
        u.task j.val r = (t.issued 1).later 2 row.2.2.1 (.x f.d.toNat row.2.2.2) ∧ u.mem = s.mem ∧ u.chans = s.chans ∧ u.pending = s.pending) ∧
    (s.atSlot j.val r t 1 (scalarBits 0x13 f).toNat = true → ∃ u : State, exec (.vins j f) s = .next u.finish ∧
      u.task j.val r = (t.issued 1).later 2 2 (.v f.d.toNat (x.setWidth 2048 <<< (64 * (f.imm.toNat % 32)))
        ((BitVec.allOnes 64).setWidth 2048 <<< (64 * (f.imm.toNat % 32)))) ∧ u.mem = s.mem ∧ u.chans = s.chans) ∧
    (∀ a : Nat, bowlAddr (t.issued 1) (x + f.imm.signExtend 64) 8 = some a →
      ¬ ((t.issued 1).leg.exact = true ∧ (t.issued 1).bowlAt = some (t.issued 1).cycle) →
      (s.atSlot j.val r t 1 (scalarBits 0x14 f).toNat = true → ∃ u : State, exec (.bldx j f) s = .next u.finish ∧
        u.task j.val r = ({ t.issued 1 with bowlAt := some (t.issued 1).cycle } : Task).later 2 4
          (.x f.d.toNat (BitVec.ofNat 64 (natOfBytes ((t.issued 1).regs.bowlBytes a 8)))) ∧ u.mem = s.mem) ∧
      (s.atSlot j.val r t 1 (scalarBits 0x15 f).toNat = true → ∃ u : State, exec (.bstx j f) s = .next u.finish ∧
        u.task j.val r = ({ t.issued 1 with bowlAt := some (t.issued 1).cycle } : Task).later 2 1
          (.bowl a (bytesOfNat 8 ((t.issued 1).regs.getX f.d.toNat).toNat)) ∧ u.mem = s.mem))

/-- Control instructions (13_jets). -/
def Obligations.ControlInstructions : Prop :=
  ∀ (s : State) (j : Fin 104) (r : Nat) (t : Task) (f : ControlSlot) (x : Word), x = (t.issued 3).regs.getX f.x.toNat →
    (∀ row ∈ [(Instr.br j f, 0x01, true), (.bnz j f, 0x02, decide (x ≠ 0)), (.bz j f, 0x03, decide (x = 0))],
      s.atSlot j.val r t 3 (controlBits row.2.1 f).toNat = true → ∃ u : State, exec row.1 s = .next u.finish ∧
        u.task j.val r = (t.issued 3).endBundle (s.bundleStep (t.issued 3)) (if row.2.2 then some f.target.toNat else none) ∧
        u.rf (Reg.JT_BUNDLES j.val) 0 64 = (s.rf (Reg.JT_BUNDLES j.val) 0 64 + 1) % 2 ^ 64 ∧ u.mem = s.mem) ∧
    (s.atSlot j.val r t 3 (controlBits 0x04 f).toNat = true → ∃ u : State, exec (.loop j f) s = .next u.finish ∧ u.mem = s.mem ∧
      (x = 0 → (u.task j.val r).pc = f.target.toNat + 1) ∧
      (x ≠ 0 → (u.task j.val r).pc = t.pc + 1 ∧ mget {} (u.task j.val r).regs.lc (f.per.toNat % 4)
        = { count := x, first := t.pc + 1, last := f.target.toNat })) ∧
    (s.atSlot j.val r t 3 (controlBits 0x08 f).toNat = true → ∃ u : State, exec (.legend j f) s = .next u.finish ∧ u.mem = s.mem ∧
      (u.task j.val r).ended = some (f.per.toNat / 2 % 4, x.toNat, f.per.toNat % 2 == 1) ∧ (u.task j.val r).regs = (t.issued 3).regs) ∧
    (s.atSlot j.val r t 3 (controlBits 0x09 f).toNat = true → ∃ u : State, exec (.gwait j f) s = .next u.finish ∧ u.mem = s.mem ∧
      (u.task j.val r).threshold = x ∧ (u.task j.val r).gauge = f.target.toNat % 256 ∧ (u.task j.val r).ended
        = some (3, bitN (decide (x.toNat ≤ (s.reg (Reg.TN_GAUGE_COUNT t.tenant (f.target.toNat % 256))).toNat)), false)) ∧
    (s.atSlot j.val r t 3 (controlBits 0x0A f).toNat = true → ∃ u : State, exec (.waitfc j f) s = .next u.finish ∧ u.mem = s.mem ∧
      (u.task j.val r).waitFc = if x.toNat ≤ (t.issued 3).regs.fc.toNat then none else some x.toNat)

/-- Vector instructions, lanes and masks (13_jets). -/
def Obligations.VectorInstructions : Prop :=
  (
  ∀ (s : State) (j : Fin 104) (r : Nat) (t : Task) (f : VectorSlot) (g : JRegs) (free : BitVec 2048) (fmt bits dst : Nat) (A B : Nat → Nat),
    g = (t.issued 2).regs → free = Config.freeVector s.free → fmt = f.fmt.toNat → bits = elemBits fmt → dst = f.imm.toNat % 16 →
    A = laneOf bits (g.getV f.va.toNat) → B = laneOf bits (g.getV f.vb.toNat) →
    ∀ row ∈ [
        (Instr.vadd j f, 0x01, laneResult f g bits 4 (fun i => (roundTo fmt ((valueOf fmt (A i)).add (valueOf fmt (B i))).1).1), (vecAdd f g).flags),
        (.vsub j f, 0x02, laneResult f g bits 4 (fun i => (roundTo fmt ((valueOf fmt (A i)).add (valueOf fmt (B i)).neg).1).1), (vecSub f g).flags),
        (.vmul j f, 0x03, laneResult f g bits 4 (fun i => (roundTo fmt ((valueOf fmt (A i)).mul (valueOf fmt (B i))).1).1), (vecMul f g).flags),
        (.vfma j f, 0x04, laneResult f g bits 4 (fun i => if isMx fmt then laneOf bits free i
          else (roundTo fmt (((valueOf fmt (A i)).mul (valueOf fmt (B i))).1.add (valueOf fmt (laneOf bits (g.getV f.vc.toNat) i))).1).1),
          (vecFma f g free).flags),
        (.vmin j f, 0x05, laneResult f g bits 4 (fun i => if isMx fmt then laneOf bits free i
          else (pickLane fmt true (laneOf bits free i) (A i) (B i)).1), (vecPick true f g free).flags),
        (.vmax j f, 0x06, laneResult f g bits 4 (fun i => if isMx fmt then laneOf bits free i
          else (pickLane fmt false (laneOf bits free i) (A i) (B i)).1), (vecPick false f g free).flags),
        (.vdot j f, 0x07, [(.v f.vc.toNat (ofLanes 32 ((List.range 64).map (fun k => (roundTo (if fmt = 5 then 6 else 0)
          ((valueOf (if fmt = 5 then 6 else 0) (laneOf 32 (g.getV f.vc.toNat) k)).add
            (dotSum fmt (g.getMs f.vc.toNat) (g.getMs (f.vc.toNat + 1)) (dotGroup fmt * k) ((List.range (dotGroup fmt)).map
              (fun i => (A (dotGroup fmt * k + i), B (dotGroup fmt * k + i))))).1).1).1))) (activeBits f g 32), 6)], (vecDot f g).flags),
        (.vcvt j f, 0x08, if isMx dst then (convert f g free).dests else laneResult f g (elemBits dst) 3 (fun i => if i < lanesOf fmt
          then (roundTo dst (elementValue fmt (g.getMs f.vc.toNat) i (A i)).1).1 else laneOf (elemBits dst) free i), (convert f g free).flags),
        (.vunpk6 j f, 0x09, laneResult f g 8 3 (fun i => (g.getV f.va.toNat).toNat / 2 ^ (6 * i) % 64), 0),
        (.vpack6 j f, 0x0A, [(.v f.vd.toNat (BitVec.ofNat 2048 (joinLanes 6 ((List.range 256).map (fun i => laneOf 8 (g.getV f.va.toNat) i % 64))
          + free.toNat / 2 ^ 1536 * 2 ^ 1536)) (BitVec.ofNat 2048 (joinLanes 6 ((List.range 256).map (fun i => if laneActive f g i then 63 else 0))
          + (2 ^ 512 - 1) * 2 ^ 1536)), 3)], 0),
        (.vcmp j f, 0x0B, [(.vm (f.imm.toNat % 8) (BitVec.ofNat 512 (joinLanes 1 ((List.range (lanesOf fmt)).map (fun i => bitN
          (compareLane (f.imm.toNat / 8 % 8) (elementValue fmt (g.getMs f.vc.toNat) i (A i)).1 (elementValue fmt (g.getMs (f.vc.toNat + 1)) i (B i)).1).1))
          + bitsN free 0 512 / 2 ^ lanesOf fmt * 2 ^ lanesOf fmt)), 2)], (vecCompare f g free).flags),
        (.vsel j f, 0x0C, [(.v f.vd.toNat (ofLanes bits ((List.range (2048 / bits)).map (fun i => if laneActive f g i then A i else B i)))
          (BitVec.allOnes 2048), 2)], 0),
        (.vperm j f, 0x0D, laneResult f g bits 2 (fun i => A (B i % lanesOf fmt)), 0),
        (.vred j f, 0x0E, laneResult f g bits 8 (fun i => if i = 0 then (if isMx fmt then bitsN free 0 bits
          else (reduceLanes fmt (f.imm.toNat % 4) (bitsN free 0 bits) (laneActive f g) ((List.range (lanesOf fmt)).map A)).1) else 0),
          (vecReduce f g free).flags),
        (.vbcast j f, 0x0F, laneResult f g bits 2 (fun _ => (g.getX f.va.toNat).toNat % 2 ^ bits), 0),
        (.pqsum j f, 0x10, laneResult f g 32 5 (fun v => if v < 16 then (match (List.range (f.imm.toNat % 32)).map (fun i =>
            (g.getPq (256 * i + laneOf 8 (g.getV f.va.toNat) (16 * v + i))).toNat) with
          | [] => 0
          | x :: rest => (pqGo (roundTo 0 (valueOf 0 x)).1 (roundTo 0 (valueOf 0 x)).2 rest).1) else 0), (vecPqsum f g).flags),
        (.vmsmov j f, 0x11, [(.ms f.vc.toNat ((g.getV f.va.toNat).setWidth 128), 1)], 0),
        (.accinit j f, 0x18, (List.range (f.imm.toNat % 64 + 1)).map (fun i => (.ac (f.acc.toNat + i)
          { w := 0, scale := (BitVec.ofNat 8 (f.imm.toNat / 256)).toInt }, 1)), 0),
        (.accadd j f, 0x19, ((List.range 64).filter (laneActive f g)).map (fun i => (.ac i ((g.getAc i).addValue (valueOf fmt (A i))), 3)), 0),
        (.accsum j f, 0x1A, [(.ac f.acc.toNat ((((List.range (lanesOf fmt)).filter (laneActive f g)).map (fun i => valueOf fmt (A i))).foldl
          Acc.addValue (g.getAc f.acc.toNat)), 8)], 0),
        (.acccvt j f, 0x1B, (.v f.vd.toNat (ofLanes bits ((List.range 64).map (fun i => (accConvert fmt (g.getAc i).w (g.getAc i).scale).1)))
          (ofLanes bits ((List.range 64).map (fun i => if laneActive f g i then 2 ^ bits - 1 else 0))), 4)
            :: ((List.range 64).filter (fun i => (accConvert fmt (g.getAc i).w (g.getAc i).scale).2 && laneActive f g i)).map
              (fun i => (.ac i { g.getAc i with sat := true }, 4)), 0)],
      s.atSlot j.val r t 2 (vectorBits row.2.1 f).toNat = true → ∃ u : State, exec row.1 s = .next u.finish ∧
        (u.task j.val r).pend = (t.issued 2).pend ++ row.2.2.1.map (fun d =>
          { land := (t.issued 2).cycle + d.2, issued := (t.issued 2).cycle, slot := 3, dest := d.1 }) ∧
        (u.task j.val r).regs = { g with fpflags := g.fpflags ||| row.2.2.2 } ∧ u.mem = s.mem ∧ u.chans = s.chans ∧ u.pending = s.pending) ∧
  (
  (∀ (g : JRegs) (n : Nat) (v m : BitVec 2048) (i : Nat),
      ((g.apply (.v n v m)).getV n).getLsbD i = (if m.getLsbD i then v.getLsbD i else (g.getV n).getLsbD i) ∧
      (∀ k, k ≠ n → (g.apply (.v n v m)).getV k = g.getV k)) ∧
    (∀ (g : JRegs) (v : Word), (g.apply (.x 0 v)).getX 0 = 0 ∧ (g.apply (.x 0 v)) = g) ∧
    (∀ (g : JRegs) (n : Nat) (v : Word), n ≠ 0 → (g.apply (.x n v)).getX n = v ∧ ∀ k, k ≠ n → (g.apply (.x n v)).getX k = g.getX k) ∧
    (∀ (g : JRegs) (v : BitVec 512), (g.apply (.vm 0 v)).getVm 0 = BitVec.allOnes 512) ∧
    (∀ (f : VectorSlot) (g : JRegs) (i : Nat), i < 2048 →
      (activeBits f g 32).getLsbD i = (g.getVm f.mask.toNat).getLsbD (i / 32)) ∧
    (∀ (f : VectorSlot) (g : JRegs), elemBits f.fmt.toNat = 32 → (vecBroadcast f g).flags = 0 ∧
      (vecBroadcast f g).dests.map (fun d => (d.1, d.2)) = [(.v f.vd.toNat
        (ofLanes 32 (List.replicate 64 ((g.getX f.va.toNat).toNat % 2 ^ 32))) (activeBits f g 32), 2)]) ∧
    (∀ (l : List Nat), l.length = 64 → (∀ x ∈ l, x < 2 ^ 32) → lanes 32 (ofLanes 32 l) = l))

/-- Bowl instructions (13_jets). -/
def Obligations.BowlAccesses : Prop :=
  ∀ (s : State) (j : Fin 104) (r : Nat) (t : Task) (m : MemSlot),
    (∀ a : Nat, ¬ ((t.issued 0).leg.exact = true ∧ (t.issued 0).bowlAt = some (t.issued 0).cycle) →
      bowlAddr (t.issued 0) (memAddr m (t.issued 0).regs) 256 = some a →
      ∀ row ∈ [(Instr.bld j m, 0x20, [(JDest.v m.b.toNat (bowlVector (t.issued 0).regs a) (BitVec.allOnes 2048), 4)]),
          (.bst j m, 0x21, [(.bowl a (bytesOfNat 256 ((t.issued 0).regs.getV m.b.toNat).toNat), 1)]),
          (.bacld j m, 0x25, (List.range 8).map (fun i =>
            (.ac (8 * (m.d.toNat % 8) + i) (Acc.ofSaved (natOfBytes ((t.issued 0).regs.bowlBytes (a + 32 * i) 32))), 4))),
          (.bacst j m, 0x26, [(.bowl a ((List.range 8).flatMap (fun i =>
            bytesOfNat 32 ((t.issued 0).regs.getAc (8 * (m.d.toNat % 8) + i)).saved)), 1)])],
        s.atSlot j.val r t 0 (memoryBits row.2.1 m).toNat = true → ∃ u : State, exec row.1 s = .next u.finish ∧
          u.task j.val r = row.2.2.foldl (fun t d => t.later 1 d.2 d.1) { t.issued 0 with bowlAt := some (t.issued 0).cycle } ∧ u.mem = s.mem) ∧
    (∀ row ∈ [(Instr.bld j m, 0x20), (.bst j m, 0x21), (.bacld j m, 0x25), (.bacst j m, 0x26)],
      s.atSlot j.val r t 0 (memoryBits row.2 m).toNat = true → (t.issued 0).leg.exact = false →
      bowlAddr (t.issued 0) (memAddr m (t.issued 0).regs) 256 = none → exec row.1 s
        = .next (((s.issuedAt j.val r t 0).setTask j.val r { t.issued 0 with bowlAt := some (t.issued 0).cycle }).endFault
            j.val r 0x13 stOk 0 0).finish) ∧
    (∀ l : List Nat, ¬ ((t.issued 0).leg.exact = true ∧ (t.issued 0).cycle < (t.issued 0).portFree) → gatherAddrs (t.issued 0) m = some l →
      (s.atSlot j.val r t 0 (memoryBits 0x22 m).toNat = true → ∃ u : State, exec (.bgath j m) s = .next u.finish ∧
        u.task j.val r = ({ t.issued 0 with portFree := (t.issued 0).cycle + 64 } : Task).later 1 70 (.v m.b.toNat
          (ofLanes 32 (l.map (fun a => natOfBytes ((t.issued 0).regs.bowlBytes a 4)))) (BitVec.allOnes 2048)) ∧ u.mem = s.mem) ∧
      (s.atSlot j.val r t 0 (memoryBits 0x23 m).toNat = true → ∃ u : State, exec (.bscat j m) s = .next u.finish ∧
        u.task j.val r = (l.zip (lanes 32 ((t.issued 0).regs.getV m.b.toNat))).foldl (fun t e => t.later 1 1 (.bowl e.1 (bytesOfNat 4 e.2)))
          { t.issued 0 with portFree := (t.issued 0).cycle + 64 } ∧ u.mem = s.mem)) ∧
    (∀ a : Nat, ¬ ((t.issued 0).leg.exact = true ∧ (t.issued 0).cycle < (t.issued 0).portFree) →
      bowlAddr (t.issued 0) (memAddr m (t.issued 0).regs) 16384 = some a →
      s.atSlot j.val r t 0 (memoryBits 0x24 m).toNat = true → ∃ u : State, exec (.pqload j m) s = .next u.finish ∧ u.mem = s.mem ∧
        u.task j.val r = ({ t.issued 0 with portFree := (t.issued 0).cycle + 64 } : Task).later 1 64 (.pq 0
          ((List.range 4096).map (fun i => BitVec.ofNat 32 (natOfBytes ((t.issued 0).regs.bowlBytes (a + 4 * i) 4))))))

/-- Line accesses of legs (13_jets). -/
def Obligations.LineAccesses : Prop :=
  ∀ (s : State) (j : Fin 104) (r : Nat) (t : Task) (m : MemSlot),
    (∀ (sheet : Nat) (x : XEntry) (wr : Bool), s.pinnedFor j.val r (t.issued 0) (memLine m (t.issued 0).regs) = some (sheet, x) →
      (wr = true → (t.issued 0).writable.contains sheet = true) → (t.issued 0).cycle % 7 % 2 = 0 →
      dieOfChan (s.homeChan ((gpaOff (x.gpa (memLine m (t.issued 0).regs))).toNat / 128)) = dieOfJet j.val →
      (t.issued 0).leg.channels.getLsbD (s.homeChan ((gpaOff (x.gpa (memLine m (t.issued 0).regs))).toNat / 128) % 48) = true →
      s.atSlot j.val r t 0 (memoryBits (if wr then 0x02 else 0x01) m).toNat = true → (wr = true → t.system ≠ 2) → ∃ u : State,
        exec (if wr then .est j m else .eld j m) s = .next u.finish ∧ u.mem = s.mem ∧
        (u.chan (s.homeChan ((gpaOff (x.gpa (memLine m (t.issued 0).regs))).toNat / 128))).bound.length
          = (s.chan (s.homeChan ((gpaOff (x.gpa (memLine m (t.issued 0).regs))).toNat / 128))).bound.length + 1 ∧
        (wr = false → (u.task j.val r).ereads = (t.issued 0).ereads ++ [(m.b.toNat, (t.issued 0).cycle + 168)])) ∧
    (∀ (g : Nat) (s1 : State),
      ((translate (.jet j.val r) (t.issued 0).ctx accRead (memLine m (t.issued 0).regs)).on (s.issuedAt j.val r t 0) = (.ok g, s1) →
        s.atSlot j.val r t 0 (memoryBits 0x08 m).toNat = true → exec (.fld j m) s
          = .next (((s1.dropOnce (.jet j.val r)).jetIssued j.val r).jetLoad j.val r g (memLine m (t.issued 0).regs) (.load m.b.toNat)).finish) ∧
      ((translate (.jet j.val r) (t.issued 0).ctx accWrite (memLine m (t.issued 0).regs)).on (s.issuedAt j.val r t 0) = (.ok g, s1) →
        ∀ row ∈ [(Instr.fst j m, 0x09, false, false), (.fgst j m, 0x0A, true, false), (.fseal j m, 0x0B, false, true)],
        s.atSlot j.val r t 0 (memoryBits row.2.1 m).toNat = true → exec row.1 s
          = .next (((s1.dropOnce (.jet j.val r)).jetIssued j.val r).jetStore j.val r g (memLine m (t.issued 0).regs)
              (((t.issued 0).regs.getV m.b.toNat).setWidth 1024)
              (if row.2.2.2 then BitVec.allOnes 128 else ((t.issued 0).regs.getVm (m.d.toNat % 8)).setWidth 128)
              (if row.2.2.1 then some (((t.issued 0).regs.getX m.c.toNat).toNat % 256) else none) row.2.2.2 false).finish) ∧
      ((translate (.jet j.val r) (t.issued 0).ctx accAtomic (memLine m (t.issued 0).regs)).on (s.issuedAt j.val r t 0) = (.ok g, s1) →
        s.atSlot j.val r t 0 (memoryBits 0x0C m).toNat = true → exec (.fatom j m) s
          = .next (((s1.dropOnce (.jet j.val r)).jetIssued j.val r).jetSend j.val r 
              { engFrame 0x1C (t.issued 0).ctx g with ord := true, data := ((t.issued 0).regs.getV m.b.toNat).setWidth 1024 } (memLine m (t.issued 0).regs) (.old m.b.toNat)).finish)) ∧
    (∀ (gs : List Nat) (s1 : State) (n : Nat), n = ((t.issued 0).regs.getX m.c.toNat).toNat → 0 < n → n ≤ 128 →
      (∀ i < n, (bowlAddr (t.issued 0) ((t.issued 0).regs.getX m.b.toNat + BitVec.ofNat 64 (128 * i)) 128).isSome = true) →
      (∀ row ∈ [(Instr.fetchb j m, 0x10, accRead, false), (.storeb j m, 0x12, accWrite, true)],
        (jetTranslateAll j.val r (t.issued 0).ctx row.2.2.1 ((List.range n).map (fun i => memLine m (t.issued 0).regs + 128 * i))).on
          (s.issuedAt j.val r t 0) = (.ok gs, s1) → s.atSlot j.val r t 0 (memoryBits row.2.1 m).toNat = true →
        exec row.1 s = .next (((s1.dropOnce (.jet j.val r)).jetIssued j.val r).forEach ((List.range n).zip (((List.range n).map (fun i =>
          memLine m (t.issued 0).regs + 128 * i)).zip gs)) (fun s e =>
            if row.2.2.2 then s.jetStore j.val r e.2.2 e.2.1 (lineOfBytes ((t.issued 0).regs.bowlBytes
              ((bowlAddr (t.issued 0) ((t.issued 0).regs.getX m.b.toNat + BitVec.ofNat 64 (128 * e.1)) 128).getD 0) 128))
              (BitVec.allOnes 128) none false true
            else s.jetLoad j.val r e.2.2 e.2.1 (.toBowl
              ((bowlAddr (t.issued 0) ((t.issued 0).regs.getX m.b.toNat + BitVec.ofNat 64 (128 * e.1)) 128).getD 0)))).finish)) ∧
    (∀ row ∈ [(Instr.fetchb j m, 0x10), (.storeb j m, 0x12)], (t.issued 0).regs.getX m.c.toNat = 0 →
      s.atSlot j.val r t 0 (memoryBits row.2 m).toNat = true → exec row.1 s = .next ((s.issuedAt j.val r t 0).endFault j.val r 0x10 stOk 0 0).finish) ∧
    (∀ (g : Nat) (s1 : State) (a : Nat), (t.issued 0).regs.getX m.c.toNat = 1 → m.f = 0 → (t.issued 0).resumeAccess = 0 →
      bowlAddr (t.issued 0) ((t.issued 0).regs.getX m.b.toNat) 128 = some a →
      (translate (.jet j.val r) (t.issued 0).ctx accRead ((memAddr m (t.issued 0).regs + BitVec.ofNat 64
        (128 * ((t.issued 0).regs.getV m.d.toNat).toNat % 2 ^ 39)).toNat / 128 * 128)).on (s.issuedAt j.val r t 0) = (.ok g, s1) →
      s.atSlot j.val r t 0 (memoryBits 0x11 m).toNat = true → exec (.fetchg j m) s
        = .next (((s1.dropOnce (.jet j.val r)).jetLoad j.val r g ((memAddr m (t.issued 0).regs + BitVec.ofNat 64
          (128 * ((t.issued 0).regs.getV m.d.toNat).toNat % 2 ^ 39)).toNat / 128 * 128) (.toBowl a)).jetIssued j.val r).finish)

/-- Tasks and legs (13_jets). -/
def Obligations.TasksAndLegs : Prop :=
  ∀ (s : State) (j : Fin 104) (r : Nat) (t : Task), s.serving = true →
    ((s.jet j.val).running = some r → s.task j.val r = t →
      (t.inLeg = false → t.admitted = false → t.step = 1 → t.legVa % 256 ≠ 0 →
        exec (.legAdmission j) s = .next (s.endFault j.val r 0x10 stOk 0 0).finish) ∧
      (∀ (bs : List Byte) (s1 : State), t.inLeg = false → t.admitted = false → t.step = 7 →
        (fetchBytes (.jet j.val r) t.ctx (t.legVa + 256) (32 * t.leg.bundles)).on s = (.ok bs, s1) → s1.task j.val r = t → ∃ u : State,
        exec (.legAdmission j) s = .next u.finish ∧ (u.task j.val r).admitted = true ∧ (u.task j.val r).leg.code
          = (List.range t.leg.bundles).map (fun i => BitVec.ofNat 256 (natOfBytes ((bs.drop (32 * i)).take 32)))) ∧
      (t.inLeg = false → t.admitted = true → t.leg.exact = false → s.rf Reg.GL_PWR_STATE 0 3 < 3 → ∃ u : State,
        exec (.legStart j) s = .next u.finish ∧ (u.task j.val r).inLeg = true ∧ (u.task j.val r).pc = 0 ∧ (u.task j.val r).cycle = 0 ∧
        (u.task j.val r).regs = { t.regs with fc := 0 } ∧ (u.task j.val r).legStart = s.now ∧ u.mem = s.mem) ∧
      (t.ended = some (0, 0, false) → t.waits = [] → t.ereads = [] → t.resume = 0xFFFF → s.eBound j.val r = false → t.pinned = [] →
        s.readyTasks j.val = [] → ∃ u : State, exec (.legEnd j) s = .next u.finish ∧ (u.task j.val r).legVa = (t.legVa + 256 + 32 * t.leg.bundles) % 2 ^ 64 ∧
        (u.task j.val r).admitted = false ∧ (u.task j.val r).step = 1 ∧ (u.task j.val r).regs = t.landAll.regs ∧ (u.jet j.val).running = some r ∧
        u.rf (Reg.JT_LEGS j.val) (if t.leg.exact then 0 else 32) 32 = (s.rf (Reg.JT_LEGS j.val) (if t.leg.exact then 0 else 32) 32 + 1) % 2 ^ 32) ∧
      (t.inLeg = true → exec (.legOverrun j) s
        = .next ((s.atLeast (t.legStart + 1000 * s.gzv 0x5020 0x02)).endFault j.val r 0x12 stOk 0 0).finish)) ∧
    ((s.jet j.val).running = none → s.jetEnabled j.val = true → s.readyTasks j.val = [(r, t)] → s.tagRefused t.ctx = none → ∃ u : State,
      exec (.taskSwitchIn j) s = .next u.finish ∧ (u.jet j.val).running = some r ∧ u.task j.val r = { t with state := .running } ∧ u.mem = s.mem) ∧
    (∀ k : Fin 17, s.task j.val k.val = t → t.state = .parked → t.cause = 3 → t.gx ≠ 0 → ∃ u : State,
      exec (.gwaitTimeout j k) s = .next u.finish ∧ (u.task j.val k.val).state = .ready ∧ u.mem = s.mem ∧
      (u.task j.val k.val).regs.getX t.gx = s.reg (Reg.TN_GAUGE_COUNT t.tenant t.gauge)) ∧
    (∀ k : Nat, s.jetEnabled j.val = true → (s.jet j.val).running = none → s.spareOf (dieOfJet j.val) = some k → ∃ u : State,
      exec (.jetFailed j) s = .next u.finish ∧ u.rf (Reg.JT_STATE j.val) 0 1 = 0 ∧ u.rf (Reg.JT_STATE j.val) 2 1 = 1 ∧ u.tasks = s.tasks ∧ u.mem = s.mem) ∧
    (∀ k : Fin 104, s.rf (Reg.JT_STATE j.val) 2 1 = 1 → dieOfJet j.val = dieOfJet k.val → s.rf (Reg.JT_STATE k.val) 1 1 = 1 →
      s.rf (Reg.JT_STATE k.val) 2 1 = 0 → s.records j.val = [(r, t)] → ∃ u : State, exec (.jetSpareEnabled j k) s = .next u.finish ∧
        u.rf (Reg.JT_STATE k.val) 0 1 = 1 ∧ u.rf (Reg.JT_STATE k.val) 1 1 = 0 ∧ u.task k.val r = t ∧ u.task j.val r = {} ∧ u.mem = s.mem)

/-- Operations on embedding tables, rounds and bags (14_embeddings). -/
def Obligations.EmbeddingTables : Prop :=
  (
  ∀ (s : State) (t : Fin 1024) (q : Fin 64), s.serving = true →
    (∀ d : Desc, s.nextDesc t.val q.val 0x10 = some d →
      (∀ h : Nat, s.freeHandle = some h → bf d.body 309 309 = 0 → exec (.tableOpen t q) s
        = .next (((s.modDesc t.val q.val d.index (fun d => { d with phase := .working })).setTable h
            (tableOf d.body (s.qpCtx t.val q.val) t.val 0)).descDone
              t.val q.val d.index (BitVec.ofNat 64 h) 0).finish) ∧
      (s.freeHandle = none → exec (.tableOpen t q) s = .next (s.descDone t.val q.val d.index (BitVec.ofNat 64 (2 ^ 63)) 0).finish)) ∧
    (∀ (d : Desc) (h : Nat) (x : Table), s.embDesc t.val q.val 0x11 = some (d, h, x) →
      (x.state ≠ 0 → exec (.tableClose t q) s = .next ((s.setTable h {}).descDone t.val q.val d.index (BitVec.ofNat 64 x.upd.length)
        (BitVec.ofNat 64 x.epoch)).finish ∧ mget {} (s.setTable h {}).tables h = {}) ∧
      (x.state = 0 → exec (.tableClose t q) s = .next (s.descFail t.val q.val d.index 0x05 stFenced x.tableVa 0 none).finish)) ∧
    (∀ (d : Desc) (h : Nat) (x : Table) (s1 : State) (r : Word × Nat × Bool), s.embDesc t.val q.val 0x12 = some (d, h, x) →
      ((do let _ ← builtIn t.val q.val d.index; gatherOp t.val q.val d h x : EngM (Word × Nat × Bool))).on
        (s.modDesc t.val q.val d.index (fun d => { d with phase := .working })) = (.ok r, s1) →
      exec (.gather t q) s = .next (if r.2.2 then s1.descWriting t.val q.val d.index r.1 (BitVec.ofNat 64 r.2.1)
        else s1.descDone t.val q.val d.index r.1 (BitVec.ofNat 64 r.2.1)).finish) ∧
    (∀ (d : Desc) (h : Nat) (x : Table) (s1 : State) (r : Word × Nat), s.embDesc t.val q.val 0x13 = some (d, h, x) →
      ((do let _ ← builtIn t.val q.val d.index; scatterOp t.val q.val d h x : EngM (Word × Nat))).on
        (s.modDesc t.val q.val d.index (fun d => { d with phase := .working })) = (.ok r, s1) →
      exec (.scatterAdd t q) s = .next (s1.descDone t.val q.val d.index r.1 (BitVec.ofNat 64 r.2)).finish) ∧
    (∀ (d : Desc) (h : Nat) (x : Table) (s1 : State) (w : Bool), s.embDesc t.val q.val 0x15 = some (d, h, x) →
      ((do let _ ← builtIn t.val q.val d.index; replicaLinkOp t.val q.val d h x : EngM Bool)).on
        (s.modDesc t.val q.val d.index (fun d => { d with phase := .working })) = (.ok w, s1) →
      exec (.replicaLink t q) s = .next (if w then s1.descWriting t.val q.val d.index 0 (BitVec.ofNat 64 x.epoch)
        else s1.descDone t.val q.val d.index 0 (BitVec.ofNat 64 x.epoch)).finish) ∧
    (∀ (d : Desc) (h : Nat) (x : Table) (s1 : State) (w : Bool), s.embDesc t.val q.val 0x16 = some (d, h, x) →
      ((do let _ ← builtIn t.val q.val d.index; snapshotOp t.val q.val d h x : EngM Bool)).on
        (s.modDesc t.val q.val d.index (fun d => { d with phase := .working })) = (.ok w, s1) →
      exec (.snapshot t q) s = .next (if w then s1.descWriting t.val q.val d.index 0 (BitVec.ofNat 64 x.epoch)
        else s1.descDone t.val q.val d.index 0 (BitVec.ofNat 64 x.epoch)).finish) ∧
    (∀ (d : Desc) (h : Nat) (x : Table), s.embDesc t.val q.val 0x14 = some (d, h, x) → h = bf d.body 75 64 → x.state = 1 → x.upd = [] →
      mget {} s.tables h = x →
      (x.commit = none → ∃ u s1 : State,
        exec (.stepCommit t q) s = .next u.finish ∧ s1 = (s.modDesc t.val q.val d.index (fun d => { d with phase := .working })).setTable h
          { x with commit := some { op := ⟨t.val, q.val, d.index⟩, todo := [], rows := 0 } } ∧
        u = s1.runDesc t.val q.val d none (commitWrites t.val q.val d { x with commit := some { op := ⟨t.val, q.val, d.index⟩, todo := [], rows := 0 } })
          (fun s _ => s.descWriting t.val q.val d.index 0 (BitVec.ofNat 64 (x.epoch + 1)))) ∧
      (∀ c : Commit, x.commit = some c → c.op = ⟨t.val, q.val, d.index⟩ → c.running = 0 → c.todo = [] → c.failed = none →
        exec (.commitBatchEnd t q) s = .next ((s.modDesc t.val q.val d.index (fun d => { d with phase := .working })).runDesc t.val q.val d none
          (commitWrites t.val q.val d x) (fun s _ => s.descWriting t.val q.val d.index (commitResult c) (BitVec.ofNat 64 (x.epoch + 1)))).finish))) ∧
  (
  (∀ (cap : Nat) (refs : List RowRef), 0 < cap →
    ((roundsGo cap (fun _ => true) refs 0 []).foldl (fun a r => a + r.1) 0 = refs.length) ∧
    (∀ r ∈ roundsGo cap (fun _ => true) refs 0 [], r.2.length ≤ cap ∧ 0 < r.1 ∧ ∀ y ∈ r.2, y ∈ refs)) ∧
  (∀ (count : Nat) (offs : List Nat), ∀ b ∈ bagsGo count 0 offs, b.1 ≤ b.2) ∧
  (∀ (count : Nat) (offs : List Nat), ∀ b ∈ bagsGo count 0 offs, b.1 < b.2 → b.2 ≤ count))

/-- An accumulator is the same in every order of its addends (R343). -/
def Obligations.AccumulatorsInEveryOrder : Prop :=
  (∀ (a : Acc) (l₁ l₂ : List FV), l₁.Perm l₂ → l₁.foldl Acc.addValue a = l₂.foldl Acc.addValue a) ∧
  (∀ (neg : Bool) (m : Nat) (e scale : Int) (a : Acc), a.scale = scale →
    (∀ n : Int, roundInt neg m (e - scale) = n → n < 2 ^ 127 → -(2 ^ 127) < n →
      a.addValue (.num neg m e) = { a with w := wrap192 (a.w + n) }) ∧
    (∀ n : Int, roundInt neg m (e - scale) = n → 2 ^ 127 ≤ n → a.addValue (.num neg m e) = { a with w := wrap192 (a.w + (2 ^ 127 - 1)), sat := true }) ∧
    (∀ n : Int, roundInt neg m (e - scale) = n → n ≤ -(2 ^ 127) → a.addValue (.num neg m e) = { a with w := wrap192 (a.w - (2 ^ 127 - 1)), sat := true })) ∧
  (∀ (neg : Bool) (m k : Nat), roundInt neg m k = (if neg then -(m : Int) else m) * 2 ^ k) ∧
  (∀ (neg : Bool) (m k : Nat) (n : Int), roundInt neg m (-(k : Int)) = n →
    2 * (n * 2 ^ k - (if neg then -(m : Int) else m)).natAbs ≤ 2 ^ k ∧
    (2 * (n * 2 ^ k - (if neg then -(m : Int) else m)).natAbs = 2 ^ k → n % 2 = 0)) ∧
  (∀ (a : Acc) (b : Bool), a.addValue (.nan b) = { a with nonfinite := true } ∧ a.addValue (.inf b) = { a with nonfinite := true }) ∧
  (∀ (f : VectorSlot) (g : JRegs) (i : Nat) (a : Acc), ((.ac i a : JDest), 3) ∈ (accAdd f g).dests ↔ i < 64 ∧ laneActive f g i = true ∧
    a = (g.getAc i).addValue (valueOf f.fmt.toNat ((lanes (elemBits f.fmt.toNat) (g.getV f.va.toNat)).getD i 0))) ∧
  (∀ (f : VectorSlot) (g : JRegs), (accSum f g).dests = [(.ac f.acc.toNat ((((List.range (lanes (elemBits f.fmt.toNat)
    (g.getV f.va.toNat)).length).filter (laneActive f g)).map (fun i => valueOf f.fmt.toNat
      ((lanes (elemBits f.fmt.toNat) (g.getV f.va.toNat)).getD i 0))).foldl Acc.addValue (g.getAc f.acc.toNat)), 8)]) ∧
  (∀ v : BitVec 96, (slotOp v = 0x19 ∨ slotOp v = 0x1A) → vectorSlotBad v = false →
    (vectorFields v).fmt = 0 ∨ (vectorFields v).fmt = 1 ∨ (vectorFields v).fmt = 2 ∨ (vectorFields v).fmt = 5)

/-- Operations on search indexes (15_neighbour_search). -/
def Obligations.SearchOperations : Prop :=
  ∀ (s : State) (t : Fin 1024) (q : Fin 64), s.serving = true →
    (∀ d : Desc, s.nextDesc t.val q.val 0x20 = some d →
      (∀ h : Nat, (List.range 1024).find? (fun h => (mget {} s.indexes h).state == 0) = some h → exec (.indexOpen t q) s
        = .next ((s.setIndex h (indexOf' d.body (s.qpCtx t.val q.val) t.val)).descDone t.val q.val d.index (BitVec.ofNat 64 h) 0).finish) ∧
      ((List.range 1024).find? (fun h => (mget {} s.indexes h).state == 0) = none → exec (.indexOpen t q) s
        = .next (s.descDone t.val q.val d.index (BitVec.ofNat 64 (2 ^ 63)) 0).finish)) ∧
    (∀ (d : Desc) (h : Nat) (x : Index), s.searchDesc t.val q.val 0x21 = some (d, h, x) → x.state ≠ 0 →
      exec (.indexClose t q) s = .next ((s.setIndex h {}).descDone t.val q.val d.index 0 0).finish) ∧
    (∀ (d : Desc) (h : Nat) (x : Index) (s1 : State), 
      (∀ r : Word × Nat, s.searchDesc t.val q.val 0x22 = some (d, h, x) →
        ((do let _ ← builtIn t.val q.val d.index; searchOp t.val q.val d x : EngM (Word × Nat))).on
          (s.modDesc t.val q.val d.index (fun d => { d with phase := .working })) = (.ok r, s1) →
        exec (.search t q) s = .next (s1.descWriting t.val q.val d.index r.1 (BitVec.ofNat 64 r.2)).finish) ∧
      (∀ r : Word × Bool, s.searchDesc t.val q.val 0x23 = some (d, h, x) →
        ((do let _ ← builtIn t.val q.val d.index; insertOp t.val q.val d x : EngM (Word × Bool))).on
          (s.modDesc t.val q.val d.index (fun d => { d with phase := .working })) = (.ok r, s1) →
        exec (.insert t q) s = .next (if r.2 then s1.descWriting t.val q.val d.index r.1 (BitVec.ofNat 64 (x.epoch + 1))
          else s1.descDone t.val q.val d.index r.1 (BitVec.ofNat 64 x.epoch)).finish) ∧
      (∀ r : Word × Bool, s.searchDesc t.val q.val 0x24 = some (d, h, x) →
        ((do let _ ← builtIn t.val q.val d.index; deleteOp t.val q.val d x : EngM (Word × Bool))).on
          (s.modDesc t.val q.val d.index (fun d => { d with phase := .working })) = (.ok r, s1) →
        exec (.delete t q) s = .next (if r.2 then s1.descWriting t.val q.val d.index r.1 0 else s1.descDone t.val q.val d.index r.1 0).finish) ∧
      (∀ done : Bool, s.searchDesc t.val q.val 0x25 = some (d, h, x) → x.merging = false →
        ((do let _ ← builtIn t.val q.val d.index; mergeOp t.val q.val d h x : EngM Bool)).on
          (s.modDesc t.val q.val d.index (fun d => { d with phase := .working })) = (.ok done, s1) →
        exec (.merge t q) s = .next (if done then s1.descDone t.val q.val d.index 0 0 else s1).finish) ∧
      (∀ dels : Nat, s.searchDesc t.val q.val 0x25 = some (d, h, x) → x.merging = true → x.mergeEnd = some none →
        ((do let _ ← builtIn t.val q.val d.index; mergeBits t.val q.val d x : EngM Nat)).on
          (s.modDesc t.val q.val d.index (fun d => { d with phase := .working })) = (.ok dels, s1) →
        exec (.mergeTaskEnd t q) s = .next ((s1.setIndex h { mget {} s1.indexes h with wrote := true }).descWriting t.val q.val d.index
          (BitVec.ofNat 64 x.annexCount) (BitVec.ofNat 64 dels)).finish)) ∧
    (∀ (d : Desc) (x : Index), mget {} s.indexes (bf d.body 73 64) = x → opOf d.body = 0x23 → ∃ u : State,
      s.mutationEnd t.val q.val d = u.descDone t.val q.val d.index d.result d.extra ∧ mget {} u.indexes (bf d.body 73 64)
        = { x with epoch := x.epoch + 1, annexCount := x.annexCount + bf d.body 96 80, nextNode := x.nextNode + bf d.body 96 80 }) ∧
    (∀ (k : Nat) (l : List (Nat × Nat)), l.length ≤ k → (resultBytes k l).length = 128 * linesFor (8 * k))

/-- Moves of pieces, lending and borrowing (16_tiers_cascade_custody). -/
def Obligations.MovesAndLending : Prop :=
  (∀ (s : State) (w : Writer) (p : Fin 2048) (k : Fin 32) (toPlace : BitVec 2), s.mayWrite w Reg.GL_MOVE_CMD false = true → s.busy moveRegs = false →
    s.mode = .service → (s.parcel p.val).state = .granted → (s.reloc p.val k.val).phase = 0 → s.moves.length < 16 →
    (s.reloc p.val k.val).place ≠ 3 → (toPlace = 0 ∨ toPlace = 2 → toPlace.toNat ≠ (s.reloc p.val k.val).place) →
    (toPlace = 1 ∨ toPlace = 3 → s.isSelf (BitVec.ofNat 14 (s.rf Reg.GL_MOVE_ARG 0 14)) = false) →
    (toPlace = 0 → s.roomForPiece p.val k.val = true) →
    (toPlace = 1 → (s.freeBorrowed (BitVec.ofNat 14 (s.rf Reg.GL_MOVE_ARG 0 14)) (s.rf Reg.GL_MOVE_ARG 16 11) (s.rf Reg.GL_MOVE_ARG 27 5)).isSome = true) →
    ∃ u : State, exec (.move w p k toPlace) s = .next u.finish ∧
      u.reloc p.val k.val = { s.reloc p.val k.val with phase := 1, toPlace := toPlace.toNat } ∧
      u.moves = s.moves ++ [{
        parcel := p.val, piece := k.val, toPlace := toPlace.toNat, device := BitVec.ofNat 14 (s.rf Reg.GL_MOVE_ARG 0 14),
        dparcel := s.rf Reg.GL_MOVE_ARG 16 11, dpiece := s.rf Reg.GL_MOVE_ARG 27 5, tag := BitVec.ofNat 16 (s.rf Reg.GL_MOVE_ARG 32 16) }] ∧
      u.rf Reg.GL_MOVE_STATUS 4 4 = 0 ∧ u.rf Reg.GL_MOVE_STATUS 32 32 = (s.rf Reg.GL_MOVE_STATUS 32 32 + 1) % 2 ^ 32 ∧
      u.mem = s.mem ∧ u.parcels = s.parcels) ∧
  (∀ (s : State) (p : Fin 2048) (k : Fin 32) (m : Move), s.serving = true →
    s.moves.find? (fun m => m.parcel == p.val && m.piece == k.val) = some m → s.copying p.val k.val = false →
    ((s.reloc p.val k.val).phase = 1 → m.copied ≠ 0 → (4 ≤ m.passes ∨ m.dirty.length ≤ 1024) → exec (.moveCopyDone p k) s
      = .next ((s.setReloc p.val k.val { s.reloc p.val k.val with phase := 2 }).modMove p.val k.val (fun m => { m with cutAt := s.now })).finish) ∧
    ((s.reloc p.val k.val).phase = 2 → m.dirty = [] → s.pieceQuiet p.val k.val = true → ∃ u : State, exec (.moveCutDrained p k) s = .next u.finish ∧
      u.reloc p.val k.val = m.dest ∧ u.moves = s.moves.filter (fun x => !(x.parcel == p.val && x.piece == k.val)) ∧
      ((s.reloc p.val k.val).place = 2 → u.mem = s.mem) ∧
      ((s.reloc p.val k.val).place = 0 → ∀ a, u.byte a = if p.val * 2 ^ 30 + k.val * 2 ^ 25 ≤ a ∧ a < p.val * 2 ^ 30 + k.val * 2 ^ 25 + 2 ^ 25 then 0
        else s.byte a))) ∧
  (∀ (s : State) (w : Writer) (p : Fin 2048) (d : BitVec 14), s.mayWrite w Reg.GL_LEND_CMD false = true → s.busy lendRegs = false →
    (s.isSelf d = false → (s.parcel p.val).rights = 0 → mfind s.lends p.val = none → (s.parcel p.val).state = .granted →
      exec (.lend w p d) s = .next (({ s with lends := mset s.lends p.val d } : State).done lendRegs 0).finish) ∧
    ((s.isSelf d = true → exec (.lend w p d) s = .next (s.done lendRegs 3).finish) ∧
     ((mfind s.lends p.val).isSome = true → exec (.unlend w p) s = .next (({ s with lends := merase s.lends p.val } : State).done lendRegs 0).finish) ∧
     (mfind s.lends p.val = none → exec (.unlend w p) s = .next (s.done lendRegs 4).finish)) ∧
    (∀ i : Nat, s.isSelf d = false → (List.range 256).find? (fun i => !(s.borrowAt i).valid) = some i → s.borrowOf d p.val = none →
      exec (.borrow w p d) s = .next ((s.setBorrow i { lender := d, parcel := p.val, valid := true }).done lendRegs 0).finish) ∧
    (∀ (i : Nat) (b : Borrow), s.borrowOf d p.val = some (i, b) →
      exec (.unborrow w p d) s = .next (if b.used = 0 then (s.setBorrow i {}).done lendRegs 0 else s.done lendRegs 1).finish))

/-- Custody records (16_tiers_cascade_custody). -/
def Obligations.CustodyRecords : Prop :=
  ∀ (s : State) (t : Fin 1024),
    (∀ (q : Fin 64) (d : Desc), s.serving = true →
      (∀ (r : Word) (s1 : State), s.nextDesc t.val q.val 0x31 = some d →
        (createOp t.val q.val d (s.qpCtx t.val q.val)).on (s.modDesc t.val q.val d.index (fun d => { d with phase := .working })) = (.ok r, s1) →
        exec (.holdCreate t q) s = .next (s1.descDone t.val q.val d.index r 0).finish) ∧
      ((s.hold t.val (holdKey d.body)).state = cuOwner →
        (s.nextDesc t.val q.val 0x32 = some d → exec (.holdRenew t q) s
          = .next (((s.modDesc t.val q.val d.index (fun d => { d with phase := .working })).setHold t.val (holdKey d.body)
              { s.hold t.val (holdKey d.body) with ctx := s.qpCtx t.val q.val, due := s.edges + msEdges (bf d.body 255 224) }).descDone
                t.val q.val d.index 0 0).finish) ∧
        (s.nextDesc t.val q.val 0x33 = some d → exec (.holdDrop t q) s
          = .next (((s.modDesc t.val q.val d.index (fun d => { d with phase := .working })).setHold t.val (holdKey d.body) {}).descDone
                t.val q.val d.index 0 0).finish)) ∧
      ((s.hold t.val (holdKey d.body)).state = cuFree → s.nextDesc t.val q.val 0x33 = some d → exec (.holdDrop t q) s
        = .next ((s.modDesc t.val q.val d.index (fun d => { d with phase := .working })).descFail t.val q.val d.index 0x05 stNoParcel 0 0 none).finish) ∧
      (∀ (g off : Nat) (s1 : State), s.nextDesc t.val q.val 0x31 = some d →
        (translate (qpEng t.val q.val d.index) (s.qpCtx t.val q.val) accRead (bf d.body 191 128)).on
          (s.modDesc t.val q.val d.index (fun d => { d with phase := .working })) = (.ok g, s1) → gpaVer g = 1 → s1.isSelf (gpaDev g) = true →
        off = (gpaOff g).toNat → off + bf d.body 223 192 ≤ 2 ^ 41 → (s1.hold t.val (holdKey d.body)).state = cuFree →
        s1.custody.length < custodyRoom → exec (.holdCreate t q) s = .next ((s1.setHold t.val (holdKey d.body) {
            state := cuOwner, ctx := s.qpCtx t.val q.val, gen := 1, length := bf d.body 223 192, offset := off,
            due := s1.edges + msEdges (bf d.body 255 224) }).descDone t.val q.val d.index 1 0).finish) ∧
      (∀ (g : Nat) (s1 : State) (x : Custody), s.nextDesc t.val q.val 0x34 = some d → d.stage = 0 → s.hold t.val (holdKey d.body) = x →
        x.state = cuOwner → (translate (qpEng t.val q.val d.index) (s.qpCtx t.val q.val) accWrite (bf d.body 191 128)).on
          (s.modDesc t.val q.val d.index (fun d => { d with phase := .working })) = (.ok g, s1) → exec (.holdOffer t q) s
            = .next ((((s1.setHold t.val (holdKey d.body) { x with state := cuOffered, ctx := s.qpCtx t.val q.val, peer := gpaDev g }).modDesc
                t.val q.val d.index (fun d => { d with stage := 1, acc := [BitVec.ofNat 64 g] })).engSend (dieOfQp t.val q.val)
                  (qpEng t.val q.val d.index) {
                    typ := 0x60, vc := 4, ver := BitVec.ofNat 4 (gpaVer g), ctx := s.qpCtx t.val q.val,
                    dst := gpaDev g, addr := gpaOff g, aux := pack [(32, (x.gen + 1).toNat), (8, bf d.body 231 224)],
                    data := lineOfBytes (bytesOfNat 8 (holdKey d.body) ++ bytesOfNat 4 x.length ++ bytesOfNat 4 (bf d.body 223 192)) }
                  (bf d.body 191 128))).finish) ∧
      (s.owesAlone t.val q.val d = true → (s.hold t.val (holdKey d.body)).state = cuOwner →
        (opOf d.body = 0x32 → ∃ u : State, exec (.holdRenew t q) s = .next u.finish ∧ u.mem = s.mem ∧
          u.hold t.val (holdKey d.body) = { s.hold t.val (holdKey d.body) with
            ctx := s.qpCtx t.val q.val, due := s.edges + msEdges (bf d.body 255 224) } ∧
          (u.qp t.val q.val).descs = [{ d with phase := .owed, result := 0, extra := 0 }]) ∧
        (opOf d.body = 0x33 → ∃ u : State, exec (.holdDrop t q) s = .next u.finish ∧ u.mem = s.mem ∧
          u.hold t.val (holdKey d.body) = {} ∧ (u.qp t.val q.val).descs = [{ d with phase := .owed, result := 0, extra := 0 }])) ∧
      (∀ s1 : State, s.nextDesc t.val q.val 0x34 = some d → d.stage = 0 →
        (offerOp t.val q.val d (s.qpCtx t.val q.val)).on (s.modDesc t.val q.val d.index (fun d => { d with phase := .working })) = (.ok (), s1) →
        exec (.holdOffer t q) s = .next s1.finish)) ∧
    (∀ key : Word, s.serving = true →
      ((s.hold t.val key.toNat).state = cuOwner → ∃ u : State, exec (.holdingDueExpiry t key) s = .next u.finish ∧ u.hold t.val key.toNat = {} ∧
        u.now = max s.now (s.timeOfEdge (s.hold t.val key.toNat).due) ∧ u.mem = s.mem) ∧
      ((s.hold t.val key.toNat).state = cuAccepted → ∃ u : State, exec (.acceptedDueExpiry t key) s = .next u.finish ∧
        u.hold t.val key.toNat = { s.hold t.val key.toNat with state := cuUnresolved, prior := cuAccepted } ∧ u.mem = s.mem) ∧
      ((s.hold t.val key.toNat).state = cuReleased → exec (.tombstoneExpiry t key) s
        = .next ((s.atLeast (s.timeOfEdge (s.hold t.val key.toNat).due)).setHold t.val key.toNat {}).finish)) ∧
    (∀ (w : Writer) (key : Nat) (x : Custody), s.mayWrite w Reg.GL_CUSTODY_CMD false = true → s.busy custodyRegs = false →
      (s.reg Reg.GL_CUSTODY_KEY).toNat = key → s.hold t.val key = x →
      (x.state = cuFree → exec (.custodyFind w t) s = .next (s.done custodyRegs 1).finish) ∧
      (x.state ≠ cuFree → exec (.custodyFind w t) s = .next ((s.showHold t.val key x).done custodyRegs 0).finish) ∧
      (x.state = cuUnresolved → x.prior = cuAccepted → exec (.custodyPromote w t) s = .next (s.putHold t.val key
        { x with state := cuOwner, prior := 0, due := s.edges + msEdges (s.gzv 0x2050 0x03) }).finish) ∧
      (x.state = cuUnresolved → x.prior = cuOffered → exec (.custodyRestore w t) s = .next (s.putHold t.val key
        { x with state := cuOwner, prior := 0, due := s.edges + msEdges (s.gzv 0x2050 0x03),
                 gen := BitVec.ofNat 32 (s.rf Reg.GL_CUSTODY_GEN 0 32) }).finish) ∧
      (x.state = cuOwner ∨ x.state = cuReleased ∨ x.state = cuUnresolved → exec (.custodyDiscard w t) s
        = .next (s.putHold t.val key { x with state := cuFree }).finish) ∧
      (x.state = cuOffered ∨ x.state = cuAccepted → exec (.custodyDiscard w t) s = .next (s.done custodyRegs 2).finish))

/-- The custody exchange at both ends (16_tiers_cascade_custody). -/
def Obligations.CustodyExchange : Prop :=
  (∀ (s v : State) (p : Fin 48) (f : Frame) (t : Nat), v = s.counted p.val 1 f.vc →
    (s.takesOwn p { f with typ := 0x60 } = true → v.checkCustody { f with typ := 0x60 } (field (lineWord f.data 1) 0 32) true = .allow t →
      (v.hold t (lineWord f.data 0).toNat).state = cuFree →
      ((v.holdsOf t).any (fun e => e.1 != (lineWord f.data 0).toNat && e.2.offset == f.addr.toNat)) = false → v.custody.length < custodyRoom →
      ∃ u : State, exec (.offerRx p f) s = .next (u.portDone p.val { f with typ := 0x60 }).finish ∧ u.mem = s.mem ∧
        u.hold t (lineWord f.data 0).toNat = {
          state := cuAccepted, ctx := f.ctx, peer := f.src, gen := f.aux.setWidth 32, length := field (lineWord f.data 1) 0 32,
          offset := f.addr.toNat, due := s.edges + usEdges (s.gzv 0x2050 0x02), retain := field (lineWord f.data 1) 32 32 }) ∧
    (∀ (r : OutReq) (q : Nat) (d : Desc), s.takesOwn p { f with typ := 0x61 } = true → s.matchOut f = some r → r.f.typ = 0x60 →
      s.offerOf r = some (t, q, d) → d.phase ≠ .fenced → f.aux.toNat % 2 ^ 32 = ((s.hold t (holdKey d.body)).gen + 1).toNat →
      ∃ u : State, exec (.acceptRx p f) s = .next (u.portDone p.val { f with typ := 0x61 }).finish ∧ u.mem = s.mem ∧
        u.hold t (holdKey d.body) = { s.hold t (holdKey d.body) with
          state := cuReleased, gen := (s.hold t (holdKey d.body)).gen + 1, due := s.edges + msEdges (s.gzv 0x2050 0x01) }) ∧
    (∀ (key : Nat) (x : Custody), s.takesOwn p { f with typ := 0x62 } = true → v.checkCustody { f with typ := 0x62 } 0 false = .allow t →
      (s.holdsOf t).find? (fun e => e.2.offset == f.addr.toNat) = some (key, x) → x.state = cuAccepted → x.gen = f.aux.setWidth 32 →
      ∃ u : State, exec (.custodyReleaseRx p f) s = .next (u.portDone p.val { f with typ := 0x62 }).finish ∧ u.mem = s.mem ∧
        u.hold t key = { x with state := cuOwner, ctx := f.ctx, due := s.edges + msEdges x.retain })) ∧
  (∀ (s : State) (p : Fin 48) (f : Frame),
    (s.takesOwn p { f with typ := 0x60 } = true → exec (.offerRx p f) s
      = .next (((s.counted p.val 1 f.vc).offerArrives { f with typ := 0x60 } (.port p.val)).portDone p.val { f with typ := 0x60 }).finish) ∧
    (∀ (r : OutReq) (t q : Nat) (d : Desc), s.takesOwn p { f with typ := 0x61 } = true → s.matchOut f = some r → r.f.typ = 0x60 →
      s.offerOf r = some (t, q, d) → exec (.acceptRx p f) s
        = .next (((s.counted p.val 1 f.vc).acceptFor t q d r { f with typ := 0x61 }).portDone p.val { f with typ := 0x61 }).finish) ∧
    (s.takesOwn p { f with typ := 0x62 } = true → exec (.custodyReleaseRx p f) s
      = .next (((s.counted p.val 1 f.vc).releaseArrives { f with typ := 0x62 } (.port p.val)).portDone p.val { f with typ := 0x62 }).finish)) ∧
  (∀ (s : State) (f : Frame) (o : Origin) (t : Nat),
    (s.checkCustody f (field (lineWord f.data 1) 0 32) true = .allow t → (s.hold t (lineWord f.data 0).toNat).state = cuFree →
      ((s.holdsOf t).any (fun e => e.1 != (lineWord f.data 0).toNat && e.2.offset == f.addr.toNat)) = false → s.custody.length < custodyRoom →
      (s.offerArrives f o).hold t (lineWord f.data 0).toNat = {
        state := cuAccepted, ctx := f.ctx, peer := f.src, gen := f.aux.setWidth 32,
        length := field (lineWord f.data 1) 0 32, offset := f.addr.toNat, due := s.edges + usEdges (s.gzv 0x2050 0x02),
        retain := field (lineWord f.data 1) 32 32 } ∧ (s.offerArrives f o).mem = s.mem) ∧
    (∀ st : Nat, s.checkCustody f (field (lineWord f.data 1) 0 32) true = .refuse st → s.offerArrives f o = s.respond f o 0x50 st 0 0) ∧
    (∀ (key : Nat) (x : Custody), s.checkCustody f 0 false = .allow t → (s.holdsOf t).find? (fun e => e.2.offset == f.addr.toNat) = some (key, x) →
      x.state = cuAccepted → x.gen = f.aux.setWidth 32 →
      (s.releaseArrives f o).hold t key = { x with state := cuOwner, ctx := f.ctx, due := s.edges + msEdges x.retain } ∧
      (s.releaseArrives f o).mem = s.mem) ∧
    (∀ (q : Nat) (d : Desc) (r : OutReq), f.aux.toNat % 2 ^ 32 = ((s.hold t (holdKey d.body)).gen + 1).toNat → d.phase ≠ .fenced →
      (s.acceptFor t q d r f).hold t (holdKey d.body) = { s.hold t (holdKey d.body) with
        state := cuReleased,
        gen := (s.hold t (holdKey d.body)).gen + 1, due := s.edges + msEdges (s.gzv 0x2050 0x01) } ∧ (s.acceptFor t q d r f).mem = s.mem) ∧
    (∀ (q : Nat) (d : Desc) (r : OutReq), f.aux.toNat % 2 ^ 32 ≠ ((s.hold t (holdKey d.body)).gen + 1).toNat → s.acceptFor t q d r f = s) ∧
    (∀ (q : Nat) (d : Desc) (gone : Nat), d.stage = 1 → d.phase = .fenced → (gone = stContext ∨ gone = stNoParcel ∨ gone = stFenced) →
      s.offerAnswered t q d gone = s.setHold t (holdKey d.body) { s.hold t (holdKey d.body) with state := cuOwner }))

/-- Windows of a cascade (16_tiers_cascade_custody). -/
def Obligations.CascadeWindows : Prop :=
  ∀ (s : State) (t : Fin 1024) (q : Fin 64), s.serving = true →
    (∀ (d : Desc) (s1 : State), (s.qp t.val q.val).descs.find? (fun d => opOf d.body == 0x30 && (d.phase == .fetched || d.phase == .working)
        && (mfind (s.qp t.val q.val).casc d.index).isNone) = some d →
      ((do let _ ← builtIn t.val q.val d.index; pure () : EngM Unit)).on
        (s.modDesc t.val q.val d.index (fun d => { d with phase := .working })) = (.ok (), s1) →
      exec (.cascade t q) s = .next (s1.setCasc t.val q.val d.index { start := s1.now }).finish) ∧
    (∀ (d : Desc) (j r : Nat), s.soleDesc t.val q.val d = true → opOf d.body = 0x30 → mfind (s.qp t.val q.val).casc d.index = none →
      s.tasksOf t.val q.val d.index = [] → s.anyJet (dieOfQp t.val q.val) = some j → s.freeSlot j = some r → ∃ u : State,
      exec (.cascade t q) s = .next u.finish ∧ (u.task j r).state = .ready ∧ (u.task j r).system = 1 ∧ (u.task j r).tenant = t.val ∧
      (u.task j r).desc = d.index ∧ mfind (u.qp t.val q.val).casc d.index = some { start := s.now } ∧ u.mem = s.mem) ∧
    (∀ (d : Desc) (c : Casc) (w : Window) (s1 : State), s.cascOf t.val q.val = some (d, c) →
      ((do let _ ← builtIn t.val q.val d.index
           readWindow (qpEng t.val q.val d.index) (s.qpCtx t.val q.val) d.body c.outcomes.length : EngM Window)).on
        (s.modDesc t.val q.val d.index (fun d => { d with phase := .working })) = (.ok w, s1) →
      (s.refusedAns (qpEng t.val q.val d.index) = none → c.stages d.body = true → c.staging = true →
        s.cascWrites (qpEng t.val q.val d.index) false = false → s1.now ≤ c.due w → exec (.cascadeStaged t q) s
          = .next ((s1.dropAcks (qpEng t.val q.val d.index)).setCasc t.val q.val d.index
              { c with outcomes := c.outcomes ++ [0], staging := false }).finish) ∧
      (c.outcomes.length < bf d.body 236 224 → exec (.cascadeDeadline t q) s
        = .next ((s1.atLeast (c.due w)).cascMiss t.val q.val d c w).finish)) ∧
    (∀ (d : Desc) (c : Casc) (o : Nat) (rest : List Nat) (s1 : State), s.cascOf t.val q.val = some (d, c) → c.marking = false →
      c.outcomes.drop c.delivered = o :: rest →
      ((do let _ ← builtIn t.val q.val d.index
           deliverOp t.val (qpEng t.val q.val d.index) (s.qpCtx t.val q.val) d.body c.delivered o : EngM Unit)).on
        (s.modDesc t.val q.val d.index (fun d => { d with phase := .working })) = (.ok (), s1) →
      exec (.cascadeDeliver t q) s = .next (s1.setCasc t.val q.val d.index { c with marking := true }).finish) ∧
    (∀ (d : Desc) (c : Casc) (w : Window), ∃ u : State, s.cascMiss t.val q.val d c w = u ∧
      mget {} (u.qp t.val q.val).casc d.index = { c with outcomes := c.outcomes ++ [w.fallback + 1], staging := false } ∧
      u.rf (Reg.TN_CASCADE_MISS t.val) 0 64 = (s.rf (Reg.TN_CASCADE_MISS t.val) 0 64 + 1) % 2 ^ 64 ∧ u.mem = s.mem) ∧
    (∀ i outcome bytes stamp : Nat, i < 2 ^ 32 → outcome < 256 → bytes < 2 ^ 64 → stamp < 2 ^ 64 →
      (lineWord (markLine i outcome bytes stamp) 0).toNat = i + 2 ^ 32 * outcome ∧ (lineWord (markLine i outcome bytes stamp) 1).toNat = bytes ∧
      (lineWord (markLine i outcome bytes stamp) 2).toNat = stamp)

/-- Messages of the gazetteer on the buses (17_gazetteer). -/
def Obligations.GazetteerMessages : Prop :=
  ∀ (s : State) (u : Bus) (m : BusMsg), s.busOn u = true →
    (m.src ≠ s.mgmt.address → m.dest = s.mgmt.address → m.src ≠ 0 → m.src.toNat ≤ 0x0F → s.gzVendor m.index.toNat = false →
      (∀ row ∈ [(Instr.gzBusRead u m, opRead), (.gzBusWrite u m, opWrite), (.gzBusInfo u m, opInfo), (.gzBusAbort u m, opAbort)],
        (∀ k : Kept, (mfind s.mgmt.kept m.src.toNat).filter (fun k => k.matches row.2 m) = some k →
          exec row.1 s = .next (s.send (.bus u k.reply)).finish) ∧
        ((mfind s.mgmt.kept m.src.toNat).filter (fun k => k.matches row.2 m) = none → ∃ (s1 : State) (a : GzAns),
          s.gzPerform (busCode u) m.src.toNat (gzMsgOf row.2 m) = (s1, a) ∧ exec row.1 s = .next (({ s1 with
            mgmt := { s1.mgmt with kept := mset s1.mgmt.kept m.src.toNat { op := row.2, msg := m, reply := s1.busReply row.2 m a } } } : State).send
              (.bus u (s1.busReply row.2 m a))).finish))) ∧
    (∀ (g : GzMsg) (e : GzEntry), m.src ≠ s.mgmt.address → m.dest = s.mgmt.address → m.src ≠ 0 → m.src.toNat ≤ 0x0F →
      s.gzVendor m.index.toNat = false → mfind s.mgmt.kept m.src.toNat = none → s.transfer m.src.toNat = none →
      (g = gzMsgOf opRead m → s.gzCheck m.src.toNat g = gzOk → s.gzEntry g.idx g.sub = some e → g.seg = 0 →
        (s.gzValue g.idx g.sub e).length ≤ 48 → ∃ t : State, exec (.gzBusRead u m) s = .next t.finish ∧ t.mem = s.mem ∧ t.regs = s.regs ∧
          t.wire = .bus u (s.busReply opRead m { result := gzOk, last := true, data := s.gzValue g.idx g.sub e }) :: s.wire) ∧
      (g = gzMsgOf opWrite m → s.gzCheck m.src.toNat g = gzOk → g.idx = 0x3010 → g.sub = 1 → g.seg = 0 → g.last = true → g.count = 4 →
        64 ≤ natOfBytes ((m.data ++ List.replicate 48 0).take 4) → natOfBytes ((m.data ++ List.replicate 48 0).take 4) ≤ 4096 → ∃ t : State,
          exec (.gzBusWrite u m) s = .next t.finish ∧ t.mem = s.mem ∧ t.gzv 0x3010 0x01 = natOfBytes ((m.data ++ List.replicate 48 0).take 4) ∧
          t.wire = .bus u (s.busReply opWrite m { result := gzOk }) :: s.wire) ∧
      (g = gzMsgOf opInfo m → s.gzCheck m.src.toNat g = gzOk → s.gzEntry g.idx g.sub = some e → ∃ t : State,
        exec (.gzBusInfo u m) s = .next t.finish ∧ t.mem = s.mem ∧ t.wire = .bus u (s.busReply opInfo m (gzInfo g e)) :: s.wire) ∧
      (g = gzMsgOf opAbort m → s.gzCheck m.src.toNat g = gzOk → ∃ t : State, exec (.gzBusAbort u m) s = .next t.finish ∧ t.mem = s.mem ∧
        t.transfer m.src.toNat = none ∧ t.wire = .bus u (s.busReply opAbort m { result := gzOk }) :: s.wire)) ∧
    (s.busVendor u m = true → ∀ c ∈ [Instr.gzBusRead u m, .gzBusWrite u m, .gzBusInfo u m, .gzBusAbort u m], exec c s = .refused .vendorTest) ∧
    (∀ (x : Fin 16) (t : Transfer), s.transfer x.val = some t →
      exec (.gzTransferTimeout x) s = .next ((s.atLeast (t.at_ + 1000000000)).dropTransfer x.val).finish ∧
      ((s.atLeast (t.at_ + 1000000000)).dropTransfer x.val).transfer x.val = none) ∧
    (exec .beaconTimer s = .next (({ s.atLeast (s.mgmt.beaconAt + 1000000 * s.gzv 0x1020 0x05) with mgmt := { s.mgmt with
      beaconAt := max s.now (s.mgmt.beaconAt + 1000000 * s.gzv 0x1020 0x05) } } : State).sendBeacon).finish) ∧
    (∃ t : State, exec (.busOff u) s = .next t.finish ∧ (t.bus u).off = true ∧ (t.bus u).offSince = s.now ∧ t.busOn u = false ∧ t.mem = s.mem) ∧
    (∃ t : State, exec (.addressConflict u) s = .next t.finish ∧ t.gzv 0x1020 0x09 = (s.gzv 0x1020 0x09 + 1) % 2 ^ 32 ∧ t.mem = s.mem) ∧
    (∀ v : Bus, (s.bus v).off = true → ∃ t : State, exec (.busRecovered v) s = .next t.finish ∧ (t.bus v).off = false ∧ t.mem = s.mem)

/-- The register window of the gazetteer, and its operations (17_gazetteer, 20_security). -/
def Obligations.GazetteerWindow : Prop :=
  (∀ (s : State) (w : Writer) (m : GzMsg) (e : GzEntry), s.mayWrite w Reg.GL_GZ_CMD false = true → s.busy gzRegs = false →
    s.windowVendor = false → s.transfer 0 = none →
    (m = s.gzWindowMsg (pack [(4, 1)]) → s.gzCheck 0 m = gzOk → s.gzEntry m.idx m.sub = some e → m.seg = 0 → s.gzValue m.idx m.sub e ≠ [] →
      (s.gzValue m.idx m.sub e).length ≤ 48 → ∃ u : State, exec (.gzWindowRead w) s = .next u.finish ∧ u.mem = s.mem ∧
        u.rf Reg.GL_GZ_STATUS 1 1 = 1 ∧ u.rf Reg.GL_GZ_STATUS 8 8 = 0 ∧ u.rf Reg.GL_GZ_STATUS 16 6 = (s.gzValue m.idx m.sub e).length ∧
        ∀ i < 6, u.reg (Reg.GL_GZ_DATA i) = BitVec.ofNat 64 (natOfBytes (((s.gzValue m.idx m.sub e).drop (8 * i)).take 8))) ∧
    (m = s.gzWindowMsg (pack [(4, 2), (1, 1), (3, 0), (6, 4)]) → s.gzCheck 0 m = gzOk → m.idx = 0x3010 → m.sub = 1 → m.seg = 0 →
      64 ≤ (s.reg (Reg.GL_GZ_DATA 0)).toNat % 2 ^ 32 → (s.reg (Reg.GL_GZ_DATA 0)).toNat % 2 ^ 32 ≤ 4096 → ∃ u : State,
        exec (.gzWindowWrite w true 4) s = .next u.finish ∧ u.mem = s.mem ∧ u.rf Reg.GL_GZ_STATUS 8 8 = 0 ∧
        u.gzv 0x3010 0x01 = (s.reg (Reg.GL_GZ_DATA 0)).toNat % 2 ^ 32) ∧
    (m = s.gzWindowMsg (pack [(4, 3)]) → s.gzCheck 0 m = gzOk → s.gzEntry m.idx m.sub = some e → ∃ u : State,
      exec (.gzWindowInfo w) s = .next u.finish ∧ u.mem = s.mem ∧ u.rf Reg.GL_GZ_STATUS 8 8 = 0 ∧ u.rf Reg.GL_GZ_STATUS 16 6 = 32 ∧
      ∀ i < 4, u.reg (Reg.GL_GZ_DATA i) = BitVec.ofNat 64 (natOfBytes (((gzInfo m e).data.drop (8 * i)).take 8))) ∧
    (∃ u : State, exec (.gzWindowAbort w) s = .next u.finish ∧ u.mem = s.mem ∧ u.rf Reg.GL_GZ_STATUS 8 8 = 0 ∧ u.transfer 0 = none)) ∧
  (∀ (s : State) (w : Writer) (last : Bool) (count : BitVec 6), s.mayWrite w Reg.GL_GZ_CMD false = true → s.busy gzRegs = false →
    s.windowVendor = false →
    ∀ row ∈ [(Instr.gzWindowRead w, pack [(4, 1)]), (.gzWindowWrite w last count, pack [(4, 2), (1, bitN last), (3, 0), (6, count.toNat)]),
        (.gzWindowInfo w, pack [(4, 3)]), (.gzWindowAbort w, pack [(4, 4)])], ∃ (s1 s2 : State) (a : GzAns),
      s.gzPerform 2 0 (s.gzWindowMsg row.2) = (s1, a) ∧ s2 = (if a.data.isEmpty then s1 else s1.setGzData a.data) ∧
      exec row.1 s = .next (s2.setReg Reg.GL_GZ_STATUS (pack [(1, 0), (1, bitN a.last), (6, 0), (8, a.result), (6, a.data.length), (10, 0),
        (32, s2.rf Reg.GL_GZ_STATUS 32 32 + 1)])).finish) ∧
  (∀ (s : State) (w : Writer) (last : Bool) (count : BitVec 6), s.windowOpen w = true → s.windowVendor = true →
    ∀ c ∈ [Instr.gzWindowRead w, .gzWindowWrite w last count, .gzWindowInfo w, .gzWindowAbort w], exec c s = .refused .vendorTest) ∧
  (∀ (s : State) (path addr : Nat) (m : GzMsg) (e : GzEntry), s.transfer addr = none → s.gzCheck addr m = gzOk → s.gzEntry m.idx m.sub = some e →
    (m.op = opRead → m.seg = 0 → (s.gzPerform path addr m).2 = {
      result := gzOk, last := Nat.ble (s.gzValue m.idx m.sub e).length 48,
      data := (s.gzValue m.idx m.sub e).take 48 }) ∧
    (m.op = opRead → m.seg ≠ 0 → s.gzPerform path addr m = (s, { result := gzSegment })) ∧
    (m.op = opInfo → s.gzPerform path addr m = (s, gzInfo m e) ∧ (gzInfo m e).data.length = 32)) ∧
  (∀ (s : State) (path addr : Nat) (v : BitVec 32),
    s.gzEntry 0x3010 0x01 = some (gzRW tU32 64 4096 1) ∧
    s.gzWrite path addr 0x3010 0x01 (gzRW tU32 64 4096 1) (bytesOfNat 4 v.toNat)
      = (if 64 ≤ v.toNat ∧ v.toNat ≤ 4096 then (s.setGz 0x3010 0x01 v.toNat, gzOk) else (s, gzRange)) ∧
    ((s.setGz 0x3010 0x01 v.toNat).gzv 0x3010 0x01 = v.toNat)) ∧
  (∀ (s : State) (addr : Nat) (m : GzMsg), m.idx = 0x9030 → m.sub = 0x01 → m.op = opWrite → s.gzCheck addr m ≠ gzRefused)

/-- Surveys (18_telemetry). -/
def Obligations.Surveys : Prop :=
  ∀ s : State,
    (∀ w : Writer, s.mayWrite w Reg.GL_SVY_CMD true = true →
      (s.surveyPending = false → exec (.svyNow w) s = .next (s.schedule (s.edges + 64)).finish) ∧
      (s.surveyPending = true → exec (.svyNow w) s = .next (s.bump Reg.GL_SVY_DROPS 0 32 1).finish)) ∧
    (∀ w : Writer, s.mayWrite w Reg.GL_SVY_CMD false = true → s.surveyPending = false →
      (s.edges + 64 ≤ (s.reg Reg.GL_SVY_AT).toNat → exec (.svyAt w) s = .next (s.schedule (s.reg Reg.GL_SVY_AT).toNat).finish) ∧
      ((s.reg Reg.GL_SVY_AT).toNat < s.edges + 64 → exec (.svyAt w) s = .next (s.setRf Reg.GL_SVY_STATUS 4 4 1).finish)) ∧
    (∀ e : Nat, (s.schedule e).tele.survey = some { edge := e, number := s.tele.surveys + 1 } ∧ (s.schedule e).rf Reg.GL_SVY_STATUS 0 1 = 1 ∧
      (s.schedule e).reg Reg.GL_SVY_NEXT = BitVec.ofNat 64 e ∧ (s.schedule e).mem = s.mem) ∧
    (s.alive = true →
      (0 < s.gzv 0x7010 0x02 → s.surveyPending = false → ∃ u : State, exec .surveyPeriodEdge s = .next u.finish ∧
        u.tele.survey = some { edge := s.periodEdge (s.gzv 0x7010 0x02), number := s.tele.surveys + 1 } ∧
        s.periodEdge (s.gzv 0x7010 0x02) % s.gzv 0x7010 0x02 = 0 ∧ s.edges + 64 ≤ s.periodEdge (s.gzv 0x7010 0x02) ∧ u.mem = s.mem) ∧
      (∀ v : Survey, s.tele.survey = some v →
        (v.announced = false → ∃ u : State, exec .surveyAnnounce s = .next u.finish ∧ u.tele.survey = some { v with announced := true } ∧
          u.now = max s.now (s.timeOfEdge (v.edge - 64)) ∧ u.mem = s.mem ∧ u.regs = s.regs) ∧
        (v.announced = true → v.captured = false →
          (∀ die : Fin 4, ∃ u : State, exec (.surveyAbandon die) s = .next u.finish ∧ u.tele.survey = none ∧
            u.rf Reg.GL_SVY_STATUS 0 1 = 0 ∧ u.tele.bank0 = s.tele.bank0 ∧ u.tele.bank1 = s.tele.bank1 ∧ u.mem = s.mem) ∧
          (∃ u : State, exec .surveyCapture s = .next u.finish ∧ u.tele.survey = some { v with captured := true } ∧
            (if v.number % 2 = 0 then u.tele.bank0 else u.tele.bank1) = (s.atLeast (s.timeOfEdge v.edge)).counters ∧
            (if v.number % 2 = 0 then u.tele.bank1 = s.tele.bank1 else u.tele.bank0 = s.tele.bank0) ∧ u.reg (bankReg v.number) = 0 ∧ u.mem = s.mem)) ∧
        (v.captured = true → ∃ u : State, exec .surveyComplete s = .next u.finish ∧ u.tele.survey = none ∧ u.tele.lastSurvey = v.number ∧
          u.reg (bankReg v.number) = BitVec.ofNat 64 v.number ∧ u.reg (edgeReg v.number) = BitVec.ofNat 64 v.edge ∧
          u.rf Reg.GL_SVY_STATUS 0 1 = 0 ∧ u.tele.bank0 = s.tele.bank0 ∧ u.tele.bank1 = s.tele.bank1 ∧ u.mem = s.mem)))

/-- Commands of the trust block (20_security, 21_startup_recovery). -/
def Obligations.TrustCommands : Prop :=
  ∀ s : State,
    (∀ (u : Bus) (m : BusMsg), s.busOn u = true → m.src ≠ s.mgmt.address → m.dest = s.mgmt.address → m.src ≠ 0 → m.src.toNat ≤ 0x0F →
      (mfind s.mgmt.kept m.src.toNat).filter (fun k => k.matches opWrite { m with index := 0x9030, sub := 1 }) = none →
      ∃ (s1 : State) (a : GzAns), s.gzPerform (busCode u) m.src.toNat (gzMsgOf opWrite { m with index := 0x9030, sub := 1 }) = (s1, a) ∧
        ∃ t : State, exec (.challenge u m) s = .next t.finish ∧ t.sec = s1.sec ∧ t.mem = s1.mem) ∧
    (∀ nonce : List Byte, s.attest ≠ atBusy → s.zeroized = false → s.pfw = false → s.tooSoon = false → s.epochOpen = true → s.leavesUsed < 1024 →
      (s.challenge nonce).attest = atBusy ∧ (s.challenge nonce).leavesUsed = s.leavesUsed + 1 ∧ (s.challenge nonce).sec.nonce = nonce ∧
      (s.challenge nonce).mem = s.mem) ∧
    (∀ nonce : List Byte, s.attest ≠ atBusy → s.zeroized = true → (s.challenge nonce).attest = atZeroized ∧ (s.challenge nonce).sec = s.sec) ∧
    (∀ signature : List Byte, s.alive = true → s.attest = atBusy → s.sec.pulses = [] → s.sec.opening = false → ∃ u : State,
      exec (.evidenceReady signature) s = .next u.finish ∧ u.attest = atReady ∧
      u.sec.evidence = s.evidenceHead ++ (signature ++ List.replicate 5396 0).take 5396 ∧ u.mem = s.mem) ∧
    (∀ w : Writer, w ≠ .bus → s.windowOpen w = true → s.boot.accepted = true → s.alarm = 0 → s.pfw = false →
      (∀ v : Byte, v.toNat = s.boot.svn → s.svnMin < v.toNat → v.toNat ≤ 63 → ∃ u : State, exec (.svnCommit w v) s = .next u.finish ∧
        u.svnMin = v.toNat ∧ u.mem = s.mem) ∧
      (∀ v : Byte, v.toNat ≠ s.boot.svn → exec (.svnCommit w v) s = .next s.finish) ∧
      (∀ (k : Byte) (i : Nat), k.toNat ≤ 3 → k.toNat ≠ s.rf Reg.GL_SEC_SLOTS 8 2 → i < 4 → i ≠ k.toNat → s.rf Reg.GL_SEC_SLOTS i 1 = 1 →
        s.rf Reg.GL_SEC_SLOTS (4 + i) 1 = 0 → ∃ u : State, exec (.keySlotRevoke w k) s = .next u.finish ∧
        u.rf Reg.GL_SEC_SLOTS (4 + k.toNat) 1 = 1 ∧ u.mem = s.mem) ∧
      (∀ v : Byte, v.toNat ≤ 2 → s.policy ≤ v.toNat → ∃ u : State, exec (.policyWrite w v) s = .next u.finish ∧ u.policy = v.toNat ∧ u.mem = s.mem) ∧
      (∀ v : Byte, v.toNat < s.policy → exec (.policyWrite w v) s = .next s.finish)) ∧
    (s.alive = true →
      (∀ c : Tamper, c = .cold ∨ c = .mesh → ∃ u : State, exec (.tamperTrip c) s = .next u.finish ∧ 2 ≤ u.alarm ∧
        u.rf Reg.GL_SEC_CAUSES (Tamper.bit c) 1 = 1 ∧ u.mem = s.mem) ∧
      (∃ u : State, exec (.tamperTrip .voltage) s = .next u.finish ∧ 1 ≤ u.alarm ∧ u.rf Reg.GL_SEC_CAUSES 0 1 = 1 ∧
        u.rf Reg.GL_SEC_TRIPS 0 16 = (s.rf Reg.GL_SEC_TRIPS 0 16 + 1) % 2 ^ 16 ∧ u.mem = s.mem) ∧
      (s.atStep 0 = true → exec (.romSelfcheck true) s = .next ((s.setStep21 1).trainThoit).finish) ∧
      (s.boot.copies.getLsbD 0 = true → ∀ c ∈ [Instr.watchdogTimeout, .trustSelfcheckFail, .romSelfcheck false], ∃ u : State,
        exec c s = .next u.finish ∧ u.boot.copies.getLsbD 0 = false ∧ u.boot.copies.getLsbD 1 = s.boot.copies.getLsbD 1 ∧
        u.boot.accepted = false ∧ u.rf Reg.GL_SEC_STATE 2 1 = 1 ∧ u.epochOpen = false ∧ u.mem = s.mem) ∧
      (∀ (p : Pulse) (rest : List Pulse), s.sec.pulses = p :: rest → rest ≠ [] → ∃ u : State, exec .fusePulseDone s = .next u.finish ∧
        u.sec.pulses = rest ∧ u.now = s.now + 100000 ∧ u.mem = s.mem))

/-- Joining the fabric, modes and commons (21_startup_recovery). -/
def Obligations.JoiningAndModes : Prop :=
  ∀ (s : State) (w : Writer),
    (s.mayWrite w Reg.GL_JOIN_CMD false = true → s.busy joinRegs = false →
      (∀ port : BitVec 6, port.toNat ≤ 47 → s.portUp port.toNat = true →
        (∃ u : State, exec (.joinDiscover w port) s = .next u.finish ∧ u.busy joinRegs = true ∧ u.boot.joinToken = Config.joinToken s.free ∧
          u.boot.joinAssign = false ∧ u.boot.joinAt = s.now ∧ u.mem = s.mem) ∧
        (∀ id : BitVec 14, ∃ u : State, exec (.joinAssign w port id) s = .next u.finish ∧ u.busy joinRegs = true ∧
          u.boot.joinToken = Config.joinToken s.free ∧ u.boot.joinAssign = true ∧ u.mem = s.mem)) ∧
      (∀ port : BitVec 6, 47 < port.toNat → exec (.joinDiscover w port) s = .next (s.done joinRegs 4).finish) ∧
      (∀ port : BitVec 6, port.toNat ≤ 47 → s.portUp port.toNat = false → exec (.joinDiscover w port) s = .next (s.done joinRegs 2).finish)) ∧
    (s.serving = true → s.busy joinRegs = true → exec .joinAnswerTimeout s = .next ((s.atLeast (s.boot.joinAt + 100000)).done joinRegs 1).finish) ∧
    (∀ id : BitVec 16, w ≠ .bus → s.windowOpen w = true → s.boot.accepted = true → s.alarm = 0 → id.toNat ≤ 0x3FFF →
      (s.boot.deviceId = none → exec (.deviceIdWrite w id) s = .next (s.takeId (BitVec.ofNat 14 id.toNat) 1 0xFF).finish ∧
        (s.takeId (BitVec.ofNat 14 id.toNat) 1 0xFF).boot.deviceId = some (BitVec.ofNat 14 id.toNat)) ∧
      (s.boot.deviceId.isSome = true → exec (.deviceIdWrite w id) s = .next s.finish)) ∧
    (s.mayWrite w Reg.GL_MODE_CMD true = true → s.busy modeRegs = false →
      (s.mode = .commons ∨ s.mode = .recovery → exec (.enterService w) s = .next ((s.forEach ((s.parcels.filter (fun e =>
          e.2.state == .commons)).map (·.1)) State.convertCommons).keepBusy modeRegs (pack [(4, 1)])).finish) ∧
      (s.mode = .commons → exec (.enterTest w) s = .next ((s.enterMode .test 0xFF).done modeRegs 0).finish ∧
        ((s.enterMode .test 0xFF).done modeRegs 0).mode = .test) ∧
      (s.mode ≠ .commons → exec (.enterTest w) s = .next (s.done modeRegs 1).finish) ∧
      (s.mode = .service → exec (.recover w) s = .next ((s.enterCommons .recovery).done modeRegs 0).finish ∧
        ((s.enterCommons .recovery).done modeRegs 0).mode = .recovery) ∧
      (s.mode ≠ .service → exec (.recover w) s = .next (s.done modeRegs 1).finish) ∧
      (s.mode ≠ .commons → s.mode ≠ .recovery → exec (.enterService w) s = .next (s.done modeRegs 1).finish)) ∧
    (∀ p : Nat, (s.parcel p).state = .commons →
      (s.rf (Reg.GL_COMMONS_KEEP p) 14 1 = 1 → (s.convertCommons p).parcel p = { s.parcel p with
        state := .granted, tenant := s.rf (Reg.GL_COMMONS_KEEP p) 0 10, rights := BitVec.ofNat 4 (s.rf (Reg.GL_COMMONS_KEEP p) 10 4),
        gen := (s.parcel p).gen + 1 } ∧ (s.convertCommons p).mem = s.mem) ∧
      (s.rf (Reg.GL_COMMONS_KEEP p) 14 1 = 0 → s.linesInUse p = [] → (s.convertCommons p).parcel p = { s.parcel p with state := .closing })) ∧
    (s.serving = true → s.busy modeRegs = true → field (s.runningWord modeRegs) 0 4 = 1 →
      (s.parcels.any (fun e => e.2.state == .closing || e.2.state == .commons)) = false →
      exec .serviceEntryDone s = .next ((s.enterMode .service 0xFF).done modeRegs 0).finish ∧
      ((s.enterMode .service 0xFF).done modeRegs 0).mode = .service) ∧
    (s.mayWrite w Reg.GL_COMMONS_CMD true = true → s.busy commonsRegs = false → ∀ p : Fin 2048,
      (s.mode = .commons ∨ s.mode = .recovery → (s.parcel p.val).state = .commons →
        (∀ (t : Fin 1024) (rights : BitVec 4), exec (.keep w p t rights) s = .next ((s.setReg (Reg.GL_COMMONS_KEEP p.val)
          (pack [(10, t.val), (4, rights.toNat), (1, 1)])).done commonsRegs 0).finish) ∧
        exec (.unkeep w p) s = .next ((s.setReg (Reg.GL_COMMONS_KEEP p.val) 0).done commonsRegs 0).finish) ∧
      (s.mode ≠ .commons → s.mode ≠ .recovery → exec (.unkeep w p) s = .next (s.done commonsRegs 2).finish))

/-- Start-up, the image and the ring (01_architecture, 20_security, 21_startup_recovery). -/
def Obligations.StartUpSteps : Prop :=
  ∀ s : State,
    (∀ (addr : BitVec 46) (data : Line), s.serving = true → s.groupUp s.anyGroup = true → s.bootMode = true → s.freeEntry s.anyGroup < 12 →
      s.imageOpen .thoit = true →
      (addr.toNat / 128 % 2 ^ 23 < 2 ^ 17 → ∃ u : State, exec (.image addr data) s = .next u.finish ∧
        mfind u.boot.image (addr.toNat / 128 % 2 ^ 23) = some data ∧ u.boot.buffer = ibLoading ∧ u.boot.lastImage = s.now ∧ u.mem = s.mem) ∧
      (2 ^ 17 ≤ addr.toNat / 128 % 2 ^ 23 → ∃ u : State, exec (.image addr data) s = .next u.finish ∧ u.boot.buffer = ibRefused ∧
        u.boot.image = [] ∧ u.gzv 0x1030 0x03 = 1 ∧ u.mem = s.mem) ∧
      (∀ n : BitVec 32, n.toNat ≤ 2 ^ 24 → ∃ u : State, exec (.imageEnd n) s = .next u.finish ∧ u.boot.buffer = ibChecking ∧
        u.boot.length = n.toNat ∧ (s.atStep 1 = true → u.step21 = 2) ∧ u.mem = s.mem)) ∧
    (s.alive = true →
      (s.boot.buffer = ibLoading → s.boot.owner = .thoit → exec .imageBufferTimeout s
        = .next ((s.atLeast (s.boot.lastImage + 1000000000)).emptyBuffer ibEmpty).finish) ∧
      (∀ r : ImageFacts, s.boot.buffer = ibChecking →
        (s.imageReason r = 0 → exec (.imageCheckDone r) s = .next (s.imageAccepted r.digest).finish ∧
          (s.imageAccepted r.digest).boot.accepted = true ∧ (s.imageAccepted r.digest).boot.svn = s.imageSvn ∧
          (s.imageAccepted r.digest).gzv 0x1000 0x05 = s.imageVersion ∧ (s.imageAccepted r.digest).mem = s.mem) ∧
        (s.imageReason r ≠ 0 → ∃ u : State, exec (.imageCheckDone r) s = .next u.finish ∧ u.boot.buffer = ibRefused ∧
          u.boot.accepted = s.boot.accepted ∧ u.gzv 0x1030 0x03 = s.imageReason r ∧ u.mem = s.mem)) ∧
      (∀ r : SelfTest, s.atStep 3 = true →
        (r.failedDies ≠ 0 → exec (.selfTestsDone r) s = .next (s.bootFails 0 (firstDie r.failedDies)).finish) ∧
        (r.failedDies = 0 → popCount (s.boot.edges ||| r.failedEdges) < 2 → ∃ u : State, exec (.selfTestsDone r) s = .next u.finish ∧
          u.step21 = 4 ∧ u.mode = .boot ∧ u.mem = s.mem)) ∧
      (∀ r : TrainingResult, s.atStep 4 = true →
        (2 ≤ popCount (s.failedStacks r) → exec (.reservoirTrainingDone r) s = .next ((s.repairs r).bootFails 1 0xFF).finish) ∧
        (popCount (s.failedStacks r) < 2 → ∃ u : State, exec (.reservoirTrainingDone r) s = .next u.finish ∧ u.step21 = 5 ∧ u.boot.logExists = true ∧
          (∀ d < 4, (u.die d).running = true) ∧ u.mem = s.mem)) ∧
      (s.atStep 5 = true → ∃ u : State, exec .bootClearingDone s = .next u.finish ∧ u.mem = [] ∧ u.boot.cleared = true ∧ u.step21 = 6) ∧
      (s.mode = .boot → s.boot.cleared = true → s.boot.deviceId.isSome = true → ∃ u : State, exec .commonsEntry s = .next u.finish ∧
        u.mode = .commons ∧ u.step21 = 7 ∧ u.mem = s.mem)) ∧
    (s.serving = true → ∀ e : Edge, s.boot.edges.getLsbD (Edge.code e) = false →
      (s.boot.edges = 0 → ∃ u : State, exec (.bridgeEdgeFail e) s = .next u.finish ∧ u.boot.edges = withBit 0 (Edge.code e) ∧
        u.mode = s.mode ∧ u.mem = s.mem) ∧
      (s.boot.edges ≠ 0 → ∃ u : State, exec (.bridgeEdgeFail e) s = .next u.finish ∧ u.mode = .halted ∧ u.mem = s.mem))

/-- The power stage, the resets and the test port (19_power_clocks, 20_security, 22_physical). -/
def Obligations.PowerStage : Prop :=
  ∀ s : State,
    (∀ vin : BitVec 16,
      (6500 < vin.toNat → exec (.inputRise vin) s = .fault .absoluteMaximum ∧ exec (.overvoltageShutdown vin) s = .fault .absoluteMaximum) ∧
      (s.power.running = false → s.power.overvoltage = false → 4550 < vin.toNat → vin.toNat ≤ 6400 →
        exec (.inputRise vin) s = .next ({ s with power := { s.power with running := true } } : State).finish) ∧
      (6200 ≤ vin.toNat → vin.toNat ≤ 6500 → exec (.overvoltageShutdown vin) s = .next (s.powerOff false true)) ∧
      (s.power.overvoltage = true → vin.toNat < 6000 → exec (.overvoltageRecovery vin) s = .next ({ s with
        power := { s.power with overvoltage := false, running := decide (4550 < vin.toNat) } } : State).finish) ∧
      (s.alive = true → s.pfw = false → vin.toNat < 4600 → ∃ u : State, exec (.inputBelowWarning vin) s = .next u.finish ∧ u.pfw = true ∧
        u.rf Reg.GL_PWR_STATE 32 16 = vin.toNat ∧ u.pfailN = false ∧ u.mem = s.mem) ∧
      (s.alive = true → s.pfw = true → 4600 < vin.toNat → ∃ u : State, exec (.inputRecovered vin) s = .next u.finish ∧ u.pfw = false ∧
        u.rf Reg.GL_PWR_STATE 32 16 = vin.toNat ∧ u.pfailN = true ∧ u.mem = s.mem) ∧
      (s.power.running = true → vin.toNat < 4000 → exec (.inputBelowTurnOff vin) s = .next (s.powerOff false s.power.overvoltage)) ∧
      (s.power.running = true → 4000 ≤ vin.toNat → vin.toNat < 4450 →
        exec (.inputBelowTurnOff vin) s = .next ((s.atLeast (s.now + 1000000)).powerOff true s.power.overvoltage))) ∧
    (∀ heldUp ov : Bool, (s.powerOff heldUp ov).mem = [] ∧ (s.powerOff heldUp ov).boot.powered = false ∧ (s.powerOff heldUp ov).parcels = [] ∧
      (s.powerOff heldUp ov).pending = s.pending ∧ (s.sec.pulses = [] → (s.powerOff heldUp ov).svnMin = s.svnMin ∧
        (s.powerOff heldUp ov).policy = s.policy ∧ (s.powerOff heldUp ov).epochsUsed = s.epochsUsed)) ∧
    (∀ (f : FuseRead) (x : Straps), s.power.running = true → s.boot.powered = false → ∃ u : State, exec (.powerOnResetRelease f x) s = .next u.finish ∧
      u.alive = true ∧ u.mode = .boot ∧ u.step21 = 0 ∧ u.mem = [] ∧ u.edges = 0 ∧ u.mgmt.address = x.busAddress ∧ s.svnMin ≤ u.svnMin) ∧
    (∀ (c : StageFault) (left : Byte), s.alive = true → (∃ u : State, exec (.powerStageFault c left true) s = .next u.finish ∧
        u.power.forced = true ∧ u.rf Reg.GL_PWR_STATE 0 3 = 5 ∧ u.rf Reg.GL_PWR_STATE 6 1 = 1 ∧ u.rf Reg.GL_REPLACE 8 1 = 1 ∧ u.mem = s.mem) ∧
      exec (.powerStageFault c left false) s = .next (s.powerOff false s.power.overvoltage)) ∧
    (s.alive = true → ∃ u : State, exec .modRstAssert s = .next u.finish ∧ u.boot.inReset = true ∧ u.alive = false ∧ u.mem = s.mem) ∧
    (s.boot.inReset = true → ∃ u : State, exec .modRstRelease s = .next u.finish ∧ u.mem = [] ∧ u.boot.powered = true ∧
      u.boot.inReset = false ∧ u.mode = .boot ∧ u.edges = 0 ∧ u.now = s.now + 1000000 ∧ u.reg Reg.GL_REPLACE = s.reg Reg.GL_REPLACE ∧
      u.alarm = s.alarm ∧ u.pending = s.pending) ∧
    (s.power.running = true → s.boot.powered = true →
      (∀ v : Byte, jtagKnown v = true → exec (.jtagInstructionLoad v) s = .next ({ s with boot := { s.boot with jtag := v } } : State).finish) ∧
      (∀ v : Byte, jtagKnown v = false → ∃ u : State, exec (.jtagInstructionLoad v) s = .next u.finish ∧ u.rf Reg.GL_SEC_CAUSES 4 1 = 1 ∧
        u.mem = s.mem)) ∧
    exec .trstNAssert s = .next ({ s with boot := { s.boot with jtag := 0x01 } } : State).finish

/-- The power cap, lost clocks and temperature (19_power_clocks). -/
def Obligations.PowerAndTemperature : Prop :=
  ∀ s : State, s.alive = true →
    (∀ watts vin : BitVec 16, ∃ u : State, exec (.powerMeasure watts vin) s = .next u.finish ∧
      u.power.samples = (watts.toNat :: s.power.samples).take 100 ∧ u.power.measuredAt = max s.now (s.power.measuredAt + 10000) ∧
      u.rf Reg.GL_PWR_STATE 32 16 = vin.toNat ∧ u.rf Reg.GL_PWR_STATE 0 3 = (if u.power.forced then 5 else u.power.capLevel) % 8 ∧
      u.power.forced = s.power.forced ∧ u.mem = s.mem) ∧
    (∀ (x : Power) (now mean peak cap : Nat),
      (3200 < peak → (x.capStep now mean peak cap).capLevel = 5) ∧
      (peak ≤ 3200 → cap < mean → x.lastRise = none → x.capLevel ≤ 5 → (x.capStep now mean peak cap).capLevel = min 5 (x.capLevel + 1)) ∧
      (peak ≤ 3200 → mean ≤ cap → cap ≤ mean + 50 → (x.capStep now mean peak cap).capLevel = x.capLevel) ∧
      (∀ t : Nat, peak ≤ 3200 → mean + 50 < cap → x.lowSince = some t → t + 1000000 ≤ now →
        (x.capStep now mean peak cap).capLevel = x.capLevel - 1)) ∧
    (s.serving = true → ∀ (d : Fin 4) (c : ClockSource), ∃ u : State, exec (.clockLost d c) s = .next u.finish ∧ u.mode = .halted ∧
      u.serving = false ∧ u.mem = s.mem) ∧
    (∀ t : Temps, s.mode ≠ .halted →
      (tripOf t = none → ∃ u : State, exec (.sensorRead t) s = .next u.finish ∧ u.mode = s.mode ∧ u.mem = s.mem ∧
        u.reg Reg.GL_TEMP = pack [(8, (hottest ((List.range 4).map (dieTemp t))).toNat), (8, (hottest t.weir.toList).toNat),
          (8, (hottest t.stack.toList).toNat)]) ∧
      (∀ x : Nat × Nat × Byte, tripOf t = some x → ∃ u : State, exec (.sensorRead t) s = .next u.finish ∧ u.mode = .halted ∧ u.mem = s.mem ∧
        (∀ j < 104, u.jetEnabled j = false) ∧ ∀ c < 192, u.rf (chanCfg c) 7 1 = 1))

/-- Register writes and reads (00_scope, 02_addressing). -/
def Obligations.RegisterWrites : Prop :=
  (∀ (s : State) (off : Nat) (v : Word) (r : Reg.Row), Reg.rowOf off = some r →
    (∀ i < 64, ((s.plainWrite off v).reg off).getLsbD i
      = ((if r.rw.testBit i then v.getLsbD i else (s.reg off).getLsbD i) && !(v.getLsbD i && r.w1c.testBit i))) ∧
    (∀ k, k ≠ off → (s.plainWrite off v).reg k = s.reg k) ∧ (s.plainWrite off v).mem = s.mem) ∧
  (∀ (s : State) (off : Nat) (v : Word), Reg.rowOf off = none → s.plainWrite off v = s) ∧
  (∀ (s : State) (w : Writer) (off : BitVec 28) (v : Word), s.mayWrite w off.toNat (mirrored off.toNat) = true → s.registerVendor w off.toNat v = false →
    exec (.registerWrite w off v) s = .next (s.writeReg off.toNat v).finish ∧
    (off.toNat % 8 ≠ 0 → s.writeReg off.toNat v = s) ∧
    (off.toNat ∈ [Reg.GL_PARCEL_ARG, Reg.GL_SVY_AT, Reg.GL_CUSTODY_KEY, Reg.GL_CUSTODY_GEN, Reg.GL_MOVE_ARG, Reg.GL_GZ_SEL] →
      s.writeReg off.toNat v = s.plainWrite off.toNat v)) ∧
  (∀ (s : State) (w : Writer) (off : BitVec 28) (v : Word), (s.pathWorks w && s.admits w off.toNat (mirrored off.toNat)) = false →
    s.registerVendor w off.toNat v = false → exec (.registerWrite w off v) s = .next s.finish) ∧
  (∀ (s : State) (w : Writer) (v : Word), s.registerVendor w Reg.GL_GZ_CMD v = true →
    exec (.registerWrite w (BitVec.ofNat 28 Reg.GL_GZ_CMD) v) s = .refused .vendorTest) ∧
  (∀ (s : State) (off : Nat), (s.readReg off).1 = s.peek off ∧ (∀ k, k ≠ off → (s.readReg off).2.reg k = s.reg k) ∧
    (s.readReg off).2.mem = s.mem ∧ ∀ r : Reg.Row, Reg.rowOf off = some r →
      (s.readReg off).2.reg off = s.reg off &&& ~~~ BitVec.ofNat 64 r.rc) ∧
  (∀ (s : State) (w : Writer) (off : Nat) (data : Line) (mask : Mask), (∀ i < 16, wordMask mask i ≠ 0xFF) → s.writeRegLine w off data mask = s)

/-- Who writes the privileged registers of a tenant block (R323). -/
def Obligations.PrivilegedRange : Prop :=
  (∀ (s : State) (tag : BitVec 16) (off : BitVec 28) (v : Word), s.serving = true → s.isMgmt tag = false →
    s.admits (.tag tag) off.toNat (mirrored off.toNat) = true → privileged off.toNat = true →
    exec (.registerWrite (.tag tag) off v) s = .next (s.bump (Reg.TN_CNT_DROPS ((off.toNat - 0x100_0000) / 0x1_0000)) 32 32 1).finish) ∧
  (∀ (s : State) (tag x : BitVec 16) (t : Fin 1024), s.serving = true → s.isMgmt tag = false →
    (s.admits (.tag tag) (Reg.TN_FENCE_CMD t.val) false = true → ∀ c ∈ [Instr.fenceTag (.tag tag) t x, .unfenceTag (.tag tag) t x,
      .fenceAll (.tag tag) t, .unfenceAll (.tag tag) t], exec c s = .next (s.bump (Reg.TN_CNT_DROPS t.val) 32 32 1).finish) ∧
    (s.admits (.tag tag) (Reg.TN_RESET_CMD t.val) false = true →
      exec (.tenantReset (.tag tag) t) s = .next (s.bump (Reg.TN_CNT_DROPS t.val) 32 32 1).finish)) ∧
  (∀ (s : State) (x : BitVec 16) (t : Fin 1024), ∀ c ∈ [Instr.fenceTag .bus t x, .unfenceTag .bus t x, .fenceAll .bus t, .unfenceAll .bus t,
    .tenantReset .bus t], exec c s = .next s.finish) ∧
  (∀ (s : State) (w : Writer) (x : BitVec 16) (t : Fin 1024), s.busy (fenceRegs t.val) = true →
    (s.mayWrite w (Reg.TN_FENCE_CMD t.val) false = true → ∀ c ∈ [Instr.fenceTag w t x, .unfenceTag w t x, .fenceAll w t, .unfenceAll w t],
      exec c s = .next (s.bump (Reg.TN_CMD_DROPS t.val) 0 32 1).finish) ∧
    (s.mayWrite w (Reg.TN_RESET_CMD t.val) false = true →
      exec (.tenantReset w t) s = .next (s.bump (Reg.TN_CMD_DROPS t.val) 0 32 1).finish)) ∧
  (∀ (s : State) (w : Writer) (x : BitVec 16) (t k : Fin 1024), k ≠ t → s.mayWrite w (Reg.TN_FENCE_CMD t.val) false = true →
    s.busy (fenceRegs t.val) = false → s.mine t.val x = false → ∃ u : State, exec (.fenceTag w t x) s = .next u.finish ∧
      u.rf (Reg.TN_CMD_STATUS t.val) 4 4 = 1 ∧ u.reg (Reg.TN_CMD_STATUS k.val) = s.reg (Reg.TN_CMD_STATUS k.val) ∧
      u.reg (Reg.TN_CMD_DROPS k.val) = s.reg (Reg.TN_CMD_DROPS k.val))

/-- The line hash places a broad parcel's lines (R43). -/
def Obligations.LineHash : Prop :=
  (∀ (s : State) (p l : Nat), p < 2048 → l < 2 ^ 23 → (s.parcel p).broad = true →
    s.stackOf (2 ^ 23 * p + l) = 3 * ((l + p) % 12 % 4) + (l + p) % 12 / 4) ∧
  (∀ (s : State) (p l : Nat), p < 2048 → l < 2 ^ 23 → (s.parcel p).broad = true →
    s.stackOf (2 ^ 23 * p + l) < 12 ∧ ∀ j < 12, s.stackOf (2 ^ 23 * p + (l + j)) = s.stackOf (2 ^ 23 * p + l) → l + j < 2 ^ 23 → j = 0)

/-- The state after power-on reset (00_scope, 17_gazetteer, 21_startup_recovery). -/
def Obligations.ResetState : Prop :=
  State.reset.mode = .boot ∧ State.reset.step21 = 0 ∧ State.reset.alive = true ∧ State.reset.mem = [] ∧ State.reset.edges = 0 ∧
  State.reset.alarm = 0 ∧ State.reset.tele.head = 0 ∧ State.reset.surveyPending = false ∧ State.reset.boot.deviceId = none ∧
  State.reset.boot.accepted = false ∧ State.reset.pending = [] ∧ Memory.wf State.reset.mem = true ∧ RegFile.wf State.reset.regs = true ∧
  (∀ off, off ≠ Reg.GL_SEC_SLOTS → State.reset.reg off = Reg.reset off) ∧ (∀ p, (State.reset.parcel p).state = .free) ∧
  (∀ n, State.reset.entry n = {}) ∧ (∀ t q, State.reset.qpState t q = 0) ∧ (∀ p, p < 48 → State.reset.linkState p = 0) ∧
  State.reset.gzv 0x8010 0x01 = 2800 ∧ State.reset.gzv 0x5010 0x01 = 512 ∧ State.reset.gzv 0x4030 0x02 = 4

/-- Every slot of a bundle decodes to what was encoded (13_jets). -/
def Obligations.BundleRoundTrip : Prop :=
  (∀ (op : Nat) (m : MemSlot), op < 256 → slotOp (memoryBits op m) = op ∧ memoryFields (memoryBits op m) = m) ∧
  (∀ (op : Nat) (f : ScalarSlot), op < 256 → slotOp (scalarBits op f) = op ∧ scalarFields (scalarBits op f) = f) ∧
  (∀ (op : Nat) (f : VectorSlot), op < 256 → slotOp (vectorBits op f) = op ∧ vectorFields (vectorBits op f) = f) ∧
  (∀ (op : Nat) (f : ControlSlot), op < 256 → slotOp (controlBits op f) = op ∧ controlFields (controlBits op f) = f) ∧
  (∀ v : BitVec 64, memoryBits (slotOp v) (memoryFields v) = v ∧ scalarBits (slotOp v) (scalarFields v) = v) ∧
  (∀ v : BitVec 96, vectorBits (slotOp v) (vectorFields v) = v) ∧
  (∀ v : BitVec 32, controlBits (slotOp v) (controlFields v) = v) ∧
  (∀ (c : BitVec 32) (v : BitVec 96) (x m : BitVec 64), memorySlot (c ++ v ++ x ++ m) = m ∧ scalarSlot (c ++ v ++ x ++ m) = x ∧
    vectorSlot (c ++ v ++ x ++ m) = v ∧ controlSlot (c ++ v ++ x ++ m) = c)

/-- An unpowered Golik stays empty (19_power_clocks, 21_startup_recovery). -/
def Obligations.DarkStaysDark : Prop :=
  ∀ s t : State, s.dark = true → step s = .next t → t.dark = true

/-- Power-off leaves an empty Golik (19_power_clocks). -/
def Obligations.PowerOffLeavesDark : Prop :=
  (∀ (s : State) (heldUp ov : Bool), (s.pending.all (fun c => !isPowerOnReset c)) = true → (s.powerOff heldUp ov).dark = true) ∧
  (∀ s : State, s.dark = true → s.alive = false ∧ s.serving = false ∧ s.finish = s ∧ ∀ w off m, s.mayWrite w off m = false)

/-- Operations of embedding tables and search indexes run to their ends on plain operands: one index, one row, one node (14_embeddings,
15_neighbour_search). -/
def Obligations.EngineOperationsComplete : Prop :=
  ∀ (s w : State) (t : Fin 1024) (q : Fin 64) (d : Desc) (h : Nat) (e : Eng), e = qpEng t.val q.val d.index →
    w = s.modDesc t.val q.val d.index (fun d => { d with phase := .working }) →
    (s.owesAlone t.val q.val d = true →
      (opOf d.body = 0x10 → bf d.body 309 309 = 0 → s.freeHandle = some h → (∀ y ∈ s.tables, y.2.knows ⟨t.val, q.val, d.index⟩ = false) →
        ∃ u : State, exec (.tableOpen t q) s = .next u.finish ∧ u.mem = s.mem ∧
          mget {} u.tables h = tableOf d.body (s.qpCtx t.val q.val) t.val 0 ∧
          (u.qp t.val q.val).descs = [{ d with phase := .owed, result := BitVec.ofNat 64 h, extra := 0 }]) ∧
      (∀ x : Table, s.embDesc t.val q.val 0x11 = some (d, h, x) → x.state ≠ 0 →
        (∀ y ∈ s.tables, y.1 ≠ h → y.2.knows ⟨t.val, q.val, d.index⟩ = false) → ∃ u : State,
          exec (.tableClose t q) s = .next u.finish ∧ u.mem = s.mem ∧ mget {} u.tables h = {} ∧ (u.qp t.val q.val).descs
            = [{ d with phase := .owed, result := BitVec.ofNat 64 x.upd.length, extra := BitVec.ofNat 64 x.epoch }]) ∧
      (opOf d.body = 0x20 → (List.range 1024).find? (fun h => (mget {} s.indexes h).state == 0) = some h →
        (∀ y ∈ s.indexes, y.2.knows ⟨t.val, q.val, d.index⟩ = false) → ∃ u : State, exec (.indexOpen t q) s = .next u.finish ∧ u.mem = s.mem ∧
          mget {} u.indexes h = indexOf' d.body (s.qpCtx t.val q.val) t.val ∧
          (u.qp t.val q.val).descs = [{ d with phase := .owed, result := BitVec.ofNat 64 h, extra := 0 }]) ∧
      (∀ x : Index, s.searchDesc t.val q.val 0x21 = some (d, h, x) → x.state ≠ 0 →
        (∀ y ∈ s.indexes, y.1 ≠ h → y.2.knows ⟨t.val, q.val, d.index⟩ = false) → ∃ u : State,
          exec (.indexClose t q) s = .next u.finish ∧ u.mem = s.mem ∧ mget {} u.indexes h = {} ∧
          (u.qp t.val q.val).descs = [{ d with phase := .owed, result := 0, extra := 0 }])) ∧
    (s.soleDesc t.val q.val d = true → ∀ x : Table, s.embDesc t.val q.val 0x14 = some (d, h, x) → x.state = 1 ∨ x.state = 2 →
      x.upd = [] → x.links = [] → x.snaps = [] →
      (x.commit = none → ∃ u : State, exec (.stepCommit t q) s = .next u.finish ∧ u.mem = s.mem ∧
        mget {} u.tables h = { x with commit := some { op := ⟨t.val, q.val, d.index⟩, todo := [], rows := 0 } } ∧
        (u.qp t.val q.val).descs = [{ d with phase := .writing, stage := 30, result := 0, extra := BitVec.ofNat 64 (x.epoch + 1) }]) ∧
      (∀ c : Commit, x.commit = some c → c.op = ⟨t.val, q.val, d.index⟩ → c.running = 0 → c.todo = [] → c.failed = none → ∃ u : State,
        exec (.commitBatchEnd t q) s = .next u.finish ∧ u.mem = s.mem ∧ mget {} u.tables h = x ∧ (u.qp t.val q.val).descs
          = [{ d with
              phase := .writing, stage := 30, result := pack [(32, c.rows), (16, min c.sat 65535), (15, min c.nonfinite 32767)],
              extra := BitVec.ofNat 64 (x.epoch + 1) }])) ∧
    (s.soleDesc t.val q.val d = true → s.hasBuiltIn t.val q.val d.index = true →
      (∀ x : Table, x.state = 1 ∨ x.state = 2 →
        (s.embDesc t.val q.val 0x15 = some (d, h, x) → bf d.body 78 78 = 1 → exec (.replicaLink t q) s
          = .next ((w.setTable h { x with links := merase x.links (bf d.body 77 76) }).descDone t.val q.val d.index 0
              (BitVec.ofNat 64 x.epoch)).finish) ∧
        (s.embDesc t.val q.val 0x16 = some (d, h, x) → bf d.body 79 79 = 0 → bf d.body 303 288 ≠ 0 → exec (.snapshot t q) s
          = .next ((w.setTable h { x with snaps := mset x.snaps (bf d.body 78 76) {
              listVa := bf d.body 191 128, dstVa := bf d.body 255 192, k := bf d.body 287 256, interval := bf d.body 303 288,
              gauge := bf d.body 87 80 } }).descDone t.val q.val d.index 0 (BitVec.ofNat 64 x.epoch)).finish) ∧
        (∀ (r : Nat) (idx row : List Byte) (s1 s2 : State), x.replica = false → x.sparse = false → bf d.body 77 76 = 0 → bf d.body 351 320 = 1 →
          (readBytes e x.ctx (bf d.body 191 128) (if bf d.body 78 78 = 1 then 8 else 4)).on w = (.ok idx, s1) →
          natOfBytes (idx.take (if bf d.body 78 78 = 1 then 8 else 4)) = r → r < x.rows →
          (∀ s3 s4 : State, s.embDesc t.val q.val 0x12 = some (d, h, x) → d.acc = [] → outLines x.dim (bf d.body 83 80) = 1 →
            (readBytes e x.ctx (x.tableVa + 128 * x.rowLines * r) (x.dim * elemBytes x.fmt)).on s1 = (.ok row, s2) →
            (translateAll e x.ctx accWrite [bf d.body 319 256]).on s2 = (.ok (), s3) →
            (writeVa e x.ctx (bf d.body 319 256) {
              typ := 0x1A, ord := true, gauge := BitVec.ofNat 8 (bf d.body 91 84),
              data := lineOfBytes ((outputBytes (bf d.body 83 80) x.dim (rowFp32 x.fmt x.dim row)).take 128) }).on s3 = (.ok (), s4) →
            exec (.gather t q) s = .next ((({ s4.countRefs t.val 1 0 0 with free := s4.free + 1 } : State).bump
              (Reg.TN_EMB_READS t.val) 0 64 1).descWriting t.val q.val d.index (pack [(32, 1), (31, 0), (1, 0)])
                (BitVec.ofNat 64 x.epoch)).finish) ∧
          (∀ y : Table, s.embDesc t.val q.val 0x13 = some (d, h, x) →
            (readBytes e x.ctx (bf d.body 319 256) (x.dim * elemBytes (bf d.body 83 80))).on s1 = (.ok row, s2) →
            y = mget {} s2.tables h → mfind y.upd r = none → s2.reserveFails y 1 = none → exec (.scatterAdd t q) s
              = .next ((((s2.setTable h { y with
                  upd := mset (mset y.upd r (List.replicate y.dim { scale := y.scale })) r
                    (((List.replicate y.dim ({ scale := y.scale } : Acc)).zip (rowValues (bf d.body 83 80) x.dim row)).map
                    (fun p => p.1.addValue p.2)) }).countRefs t.val 1 0 0).bump (Reg.TN_EMB_ADDS t.val) 0 64 y.dim).descDone
                  t.val q.val d.index (pack [(32, 1), (31, 0), (1, 0)]) (BitVec.ofNat 64 x.epoch)).finish))) ∧
      (∀ x : Index, x.state = 1 ∨ x.state = 2 →
        (∀ (ep v k : Nat) (qb vec : List Byte) (l : Line) (s1 s2 s3 s4 s5 s6 : State), s.searchDesc t.val q.val 0x22 = some (d, h, x) →
          x.searches.find? (fun y => y.1 == ⟨t.val, q.val, d.index⟩) = some (⟨t.val, q.val, d.index⟩, (ep, 0, 1)) → x.pq = false →
          bf d.body 87 87 = 1 → k = bf d.body 86 76 → 1 ≤ k → k ≤ 16 →
          (readBytes e x.ctx (bf d.body 191 128) (4 * x.dims)).on w = (.ok qb, s1) →
          (readVa e x.ctx (x.nodeVa 0 0)).on s1 = (.ok l, s2) → natOfBytes (lineBytes l 8 8) ≤ ep →
          (readBytes e x.ctx (x.nodeVa 0 3) (x.dims * elemBytes x.fmt)).on s2 = (.ok vec, s3) →
          scoreOf x.metric (numbersOf 4 x.dims qb) (rowFp32 x.fmt x.dims vec) = v → (valueOf 0 v).isNan = false →
          (tombBit e x 0).on s3 = (.ok false, s4) → (translateAll e x.ctx accWrite [bf d.body 255 192]).on s4 = (.ok (), s5) →
          (writeVa e x.ctx (bf d.body 255 192) {
              typ := 0x1A, ord := true, gauge := BitVec.ofNat 8 (bf d.body 111 104),
              data := lineOfBytes ((resultBytes k [(v, 0)]).take 128) }).on s5 = (.ok (), s6) → exec (.search t q) s
              = .next ((((s6.bump (Reg.TN_SRCH_SCORED t.val) 0 64 1).bump (Reg.TN_SRCH_SKIPS t.val) 0 32 0).bump
                  (Reg.TN_SRCH_SKIPS t.val) 32 32 0).descWriting t.val q.val d.index (pack [(16, 1), (32, 0), (15, 0), (1, 0)])
                    (BitVec.ofNat 64 ep)).finish) ∧
        (∀ (vec : List Byte) (recs : List Line) (s1 s2 s3 s4 s5 : State), s.searchDesc t.val q.val 0x23 = some (d, h, x) →
          bf d.body 96 80 = 1 → x.nextNode < x.nodes → x.annexCount < x.annexMax →
          (readBytes e x.ctx (bf d.body 191 128) (128 * x.vecLines)).on w = (.ok vec, s1) → recs = nodeRecord x (Config.freeLine s1.free) vec →
          (translateAll e x.ctx accWrite ((List.range recs.length).map (x.nodeVa x.nextNode))).on s1 = (.ok (), s2) →
          (translateAll e x.ctx accWrite (linesOfVa (x.annexVa + 16 * x.annexCount) 16)).on s2 = (.ok (), s3) →
          (engEach (fun y => writeVa e x.ctx y.1 { typ := 0x18, ord := true, data := y.2 })
            (((List.range recs.length).zip recs).map (fun y => (x.nodeVa x.nextNode y.1, y.2)))).on
              (({ s3 with free := s3.free + 1 } : State).modDesc t.val q.val d.index (fun d => { d with stage := 1 })) = (.ok (), s4) →
          (appendAnnex e x [(x.nextNode, 1)]).on s4 = (.ok (), s5) → exec (.insert t q) s
            = .next (s5.descWriting t.val q.val d.index (BitVec.ofNat 64 x.nextNode) (BitVec.ofNat 64 (x.epoch + 1))).finish) ∧
        (∀ (m : Nat) (bs : List Byte) (s1 s2 s3 s4 : State), s.searchDesc t.val q.val 0x24 = some (d, h, x) → bf d.body 96 80 = 1 →
          x.annexCount = 0 → 0 < x.annexMax → (readBytes e x.ctx (bf d.body 191 128) 4).on w = (.ok bs, s1) → natOfBytes (bs.take 4) = m →
          m < x.nextNode → (tombBit e x m).on s1 = (.ok false, s2) →
          (translateAll e x.ctx accWrite (linesOfVa x.annexVa 16)).on s2 = (.ok (), s3) →
          (appendAnnex e x [(m, 2)]).on (s3.modDesc t.val q.val d.index (fun d => { d with stage := 1 })) = (.ok (), s4) →
          exec (.delete t q) s = .next (s4.descWriting t.val q.val d.index (pack [(32, 1), (31, 0)]) 0).finish) ∧
        (s.searchDesc t.val q.val 0x25 = some (d, h, x) →
          (x.merging = false → x.annexCount = 0 → exec (.merge t q) s = .next (w.descDone t.val q.val d.index 0 0).finish) ∧
          (∀ (j r : Nat) (bs : List Byte) (s1 : State), x.merging = false → x.annexCount ≠ 0 →
            (readBytes e x.ctx x.annexVa (16 * x.annexCount)).on w = (.ok bs, s1) → s1.anyJet (dieOfQp t.val q.val) = some j →
            s1.freeSlot j = some r → ∃ u : State, exec (.merge t q) s = .next u.finish ∧ (mget {} u.indexes h).merging = true ∧
              (u.task j r).state = .ready ∧ (u.task j r).system = 2 ∧ (u.task j r).legVa = bf d.body 191 128 ∧ u.mem = s1.mem) ∧
          (x.merging = true → x.mergeEnd = some none → x.annexCount = 0 → ∃ u : State, exec (.mergeTaskEnd t q) s = .next u.finish ∧
            u.mem = s.mem ∧ mget {} u.indexes h = { x with wrote := true } ∧
            (u.qp t.val q.val).descs = [{ d with phase := .writing, result := 0, extra := 0 }]))))
end

