-- ==== Sys2Proof/Laws/Bits.lean ====
section
/-!
SUPPORT. Fields of packed words: a field read back from a word built by pack is what was put in, and a field set reads as set while
every field apart from it stays.
-/

set_option Elab.async false

namespace Sys2Proof.Machine

/-- The total width of a list of fields. -/
def widths (l : List (Nat × Nat)) : Nat := (l.map (·.1)).sum

theorem packNat_lt (l : List (Nat × Nat)) : packNat l < 2 ^ widths l := by
  induction l with
  | nil => simp [packNat, widths]
  | cons a l ih =>
    obtain ⟨w, v⟩ := a
    have h1 : v % 2 ^ w < 2 ^ w := Nat.mod_lt _ (by positivity)
    have h2 : widths ((w, v) :: l) = w + widths l := by simp [widths]
    rw [h2, pow_add, packNat]
    calc v % 2 ^ w + 2 ^ w * packNat l < 2 ^ w + 2 ^ w * packNat l := by omega
      _ = 2 ^ w * (packNat l + 1) := by ring
      _ ≤ 2 ^ w * 2 ^ widths l := Nat.mul_le_mul_left _ ih

theorem packNat_field (pre post : List (Nat × Nat)) (w v : Nat) :
    packNat (pre ++ (w, v) :: post) / 2 ^ widths pre % 2 ^ w = v % 2 ^ w := by
  induction pre with
  | nil => simp [packNat, widths, Nat.add_mul_mod_self_left]
  | cons a l ih =>
    obtain ⟨w', v'⟩ := a
    have h1 : v' % 2 ^ w' < 2 ^ w' := Nat.mod_lt _ (by positivity)
    have h2 : widths ((w', v') :: l) = w' + widths l := by simp [widths]
    rw [h2, pow_add, List.cons_append, packNat, ← Nat.div_div_eq_div_mul,
      Nat.add_mul_div_left _ _ (by positivity : 0 < 2 ^ w'), Nat.div_eq_of_lt h1, Nat.zero_add, ih]

/-- A field of a packed word: the value put there, cut to its width. -/
theorem field_pack (pre post : List (Nat × Nat)) (lo w v : Nat) (hlo : lo = widths pre)
    (h : widths (pre ++ (w, v) :: post) ≤ 64) : field (pack (pre ++ (w, v) :: post)) lo w = v % 2 ^ w := by
  subst hlo
  have hl := packNat_lt (pre ++ (w, v) :: post)
  have : packNat (pre ++ (w, v) :: post) < 2 ^ 64 := lt_of_lt_of_le hl (Nat.pow_le_pow_right (by norm_num) h)
  rw [field, pack, BitVec.toNat_ofNat, Nat.mod_eq_of_lt this, packNat_field]

theorem pack_toNat (l : List (Nat × Nat)) (h : widths l ≤ 64) : (pack l).toNat = packNat l := by
  rw [pack, BitVec.toNat_ofNat, Nat.mod_eq_of_lt (lt_of_lt_of_le (packNat_lt l) (Nat.pow_le_pow_right (by norm_num) h))]

/-- The lowest field of a packed word. -/
theorem field_pack_head (w v : Nat) (l : List (Nat × Nat)) (h : w + widths l ≤ 64) :
    field (pack ((w, v) :: l)) 0 w = v % 2 ^ w :=
  field_pack [] l 0 w v rfl (by simpa [widths] using h)

/-- A field above the lowest one is a field of the rest. -/
theorem field_pack_tail (w v lo k : Nat) (l : List (Nat × Nat)) (hw : w ≤ lo) (h : w + widths l ≤ 64) :
    field (pack ((w, v) :: l)) lo k = field (pack l) (lo - w) k := by
  obtain ⟨d, rfl⟩ := Nat.exists_eq_add_of_le hw
  have h1 : v % 2 ^ w < 2 ^ w := Nat.mod_lt _ (by positivity)
  rw [field, field, pack_toNat _ (by simpa [widths] using h), pack_toNat _ (by omega), packNat, Nat.add_sub_cancel_left, pow_add,
    ← Nat.div_div_eq_div_mul, Nat.add_mul_div_left _ _ (by positivity : 0 < 2 ^ w), Nat.div_eq_of_lt h1, Nat.zero_add]

/-- Every field of an empty word is zero. -/
@[simp] theorem field_pack_nil (lo k : Nat) : field (pack []) lo k = 0 := by simp [field, pack, packNat]

/-! ### A field set -/

theorem testBit_field (v : Word) (lo w i : Nat) : (field v lo w).testBit i = (decide (i < w) && v.getLsbD (lo + i)) := by
  rw [field, Nat.testBit_mod_two_pow, ← Nat.shiftRight_eq_div_pow, Nat.testBit_shiftRight]
  rfl

theorem getLsbD_withField (v : Word) (lo w x i : Nat) (h : lo + w ≤ 64) :
    (withField v lo w x).getLsbD i = if lo ≤ i ∧ i < lo + w then x.testBit (i - lo) else v.getLsbD i := by
  by_cases hi : i < 64
  · have hx : (x % 2 ^ w * 2 ^ lo).testBit i = (decide (lo ≤ i) && (decide (i - lo < w) && x.testBit (i - lo))) := by
      rw [← Nat.shiftLeft_eq, Nat.testBit_shiftLeft, Nat.testBit_mod_two_pow]
    have hm : (2 ^ w - 1).testBit (i - lo) = decide (i - lo < w) := Nat.testBit_two_pow_sub_one w (i - lo)
    rw [withField, BitVec.getLsbD_or, BitVec.getLsbD_and, BitVec.getLsbD_not, BitVec.getLsbD_shiftLeft, lowMask,
      BitVec.getLsbD_ofNat, BitVec.getLsbD_ofNat, hx, hm]
    by_cases h1 : lo ≤ i
    · by_cases h2 : i < lo + w
      · simp [hi, h1, h2, show i - lo < w by omega, show i - lo < 64 by omega, show ¬ i < lo by omega]
      · simp [hi, h2, show ¬ i - lo < w by omega]
    · simp [hi, h1, show i < lo by omega]
  · rw [BitVec.getLsbD_of_ge _ _ (by omega), BitVec.getLsbD_of_ge _ _ (by omega)]
    rw [if_neg (by omega)]

/-- The field that was set reads what was put in, cut to its width. -/
theorem field_withField (v : Word) (lo w x : Nat) (h : lo + w ≤ 64) : field (withField v lo w x) lo w = x % 2 ^ w := by
  apply Nat.eq_of_testBit_eq
  intro i
  rw [testBit_field, getLsbD_withField v lo w x _ h, Nat.testBit_mod_two_pow]
  by_cases hi : i < w
  · simp [hi]
  · simp [hi]

/-- A field apart from the one that was set is as it was. -/
theorem field_withField_apart (v : Word) (lo w x lo' w' : Nat) (h : lo + w ≤ 64) (ha : lo' + w' ≤ lo ∨ lo + w ≤ lo') :
    field (withField v lo w x) lo' w' = field v lo' w' := by
  apply Nat.eq_of_testBit_eq
  intro i
  rw [testBit_field, testBit_field, getLsbD_withField v lo w x _ h]
  by_cases hi : i < w'
  · rw [if_neg (by omega)]
  · simp [hi]

end Sys2Proof.Machine
end

