-- ==== Sys2Proof/Laws/Quiet.lean ====
section
/-!
SUPPORT. What the end of a command does to a Golik with nothing left to do: nothing.
-/

set_option Elab.async false

namespace Sys2Proof.Machine

theorem foldl_fixed {α β : Type} (l : List α) (f : β → α → β) (b : β) (h : ∀ a ∈ l, f b a = b) : l.foldl f b = b := by
  induction l with
  | nil => rfl
  | cons a l ih => rw [List.foldl_cons, h a (by simp)]; exact ih (fun x hx => h x (by simp [hx]))

/-- The parts of quiet. -/
theorem quiet_parts {s : State} (h : s.quiet = true) :
    s.acts = [] ∧ s.txns = [] ∧ s.uprobes = [] ∧ s.ans = [] ∧ s.sluice.deliver = [] ∧ s.moves = []
      ∧ (∀ e ∈ s.jets, (s.jet e.1).running = none) ∧ s.tasks = [] ∧ s.drains = [] ∧ s.qps = []
      ∧ (∀ e ∈ s.ports, e.2.held = []) ∧ s.thoit.want = false := by
  simp only [State.quiet, Bool.and_eq_true, List.isEmpty_iff, List.all_eq_true, Option.isNone_iff_eq_none,
    Bool.not_eq_true'] at h
  obtain ⟨⟨⟨⟨⟨⟨⟨⟨⟨⟨⟨a, b⟩, c⟩, d⟩, e⟩, f⟩, g⟩, h⟩, i⟩, j⟩, k⟩, l⟩ := h
  exact ⟨a, b, c, d, e, f, g, h, i, j, k, l⟩

theorem quiet_jetsGo {s : State} (h : ∀ e ∈ s.jets, (s.jet e.1).running = none) : s.jetsGo = s :=
  foldl_fixed _ _ _ (fun e he => by simp [State.runningTask, h e he])

theorem quiet_creditsGo {s : State} (h : ∀ e ∈ s.ports, e.2.held = []) : s.creditsGo = s := by
  have : s.ports.filter (fun e => !e.2.held.isEmpty) = [] := by
    simp only [List.filter_eq_nil_iff]; intro e he; simp [h e he]
  simp [State.creditsGo, this, State.forEach]

theorem quiet_round {s : State} (h : s.quiet = true) : s.round = s := by
  obtain ⟨a, b, c, d, e, f, g, h, i, j, k, l⟩ := quiet_parts h
  have h1 : s.actsGo = s := by simp [State.actsGo, a]
  have h2 : s.linesGo = s := by simp [State.linesGo, b, State.forEach]
  have h3 : s.uprobesGo = s := by simp [State.uprobesGo, c]
  have h4 : s.settleAns = s := by simp [State.settleAns, d, settleGo, settleOne]
  have h5 : s.ringAnswers = s := by
    have : ({ s with ans := [] } : State) = s := by rw [← d]
    simp [State.ringAnswers, d, State.forEach, this]
  have h6 : s.deliveredGo = s := by simp [State.deliveredGo, e]
  have h7 : s.offersGo = s := by simp [State.offersGo, d, offersGo]
  have h8 : s.cascadesGo = s := by simp [State.cascadesGo, j, State.forEach]
  have h9 : s.movesGo = s := by simp [State.movesGo, f, State.forEach]
  have h10 : s.gaugesGo = s := by simp [State.gaugesGo, h, State.forEach]
  have h11 : s.jetsGo = s := quiet_jetsGo g
  have h12 : s.parkedGo = s := by simp [State.parkedGo, h, State.forEach]
  have h13 : s.fencesGo = s := by simp [State.fencesGo, i, State.forEach]
  have h14 : s.fencedGo = s := by simp [State.fencedGo, j, State.forEach]
  have h15 : s.thoitGo = s := by simp [State.thoitGo, l]
  have h16 : s.creditsGo = s := quiet_creditsGo k
  have h17 : s.cportSweep = s := by simp [State.cportSweep, State.sweepAt, b]
  have h18 : s.memberSweep = s := by simp [State.memberSweep, State.sweepAt, b]
  simp [State.round, h1, h2, h3, h4, h5, h6, h7, h8, h9, h10, h11, h12, h13, h14, h15, h16, h17, h18, j, State.forEach]

/-- The end of a command leaves a quiet Golik as it is. -/
theorem finish_quiet {s : State} (h : s.quiet = true) : s.finish = s := by
  obtain ⟨a, _, _, d, e, _⟩ := quiet_parts h
  have u : s.unfinished = false := by simp [State.unfinished, a, d, e]
  simp [State.finish, finishGo, quiet_round h, u]

/-- A Golik that does not run does nothing at the end of a command. -/
theorem finish_dead {s : State} (h : s.alive = false) : s.finish = s := by simp [State.finish, h]

end Sys2Proof.Machine
end

