-- ==== Sys2Proof/Laws/Commands.lean ====
section
/-!
SUPPORT. What the operations every command register shares do: a write by a writer who may write is the write, a command written while
BUSY is 0 runs.
-/

set_option Elab.async false

namespace Sys2Proof.Machine

/-- A write by a writer who may write it is performed. -/
theorem writeAs_of_mayWrite {s : State} {w : Writer} {off : Nat} {m : Bool} (h : s.mayWrite w off m = true)
    (run : State → State) : s.writeAs w off m run = run s := by
  simp only [State.mayWrite, Bool.and_eq_true, Bool.not_eq_true'] at h
  simp [State.writeAs, State.writeBy, h.1.1, h.1.2, h.2]

/-- A write by a writer who may not reach the register changes nothing. -/
theorem writeAs_of_not {s : State} {w : Writer} {off : Nat} {m : Bool} (h : (s.pathWorks w && s.admits w off m) = false)
    (run : State → State) : s.writeAs w off m run = s := by
  simp [State.writeAs, h]

/-- A command written while BUSY is 0 runs (R49). -/
theorem command_of_idle {s : State} {c : CmdRegs} (h : s.busy c = false) (run : State → State) : s.command c run = run s := by
  simp [State.command, h]

/-- A command written while BUSY is 1 is counted in DROPS and does nothing else (R49). -/
theorem command_of_busy {s : State} {c : CmdRegs} (h : s.busy c = true) (run : State → State) :
    s.command c run = s.bump c.drops 0 32 1 := by
  simp [State.command, h]

/-- What a serving Golik makes of a command. -/
theorem whileServing_of {s : State} (h : s.serving = true) (run : State → State) : whileServing s run = .next (run s).finish := by
  simp [whileServing, ends, h]

/-- What a running Golik makes of a command. -/
theorem whileAlive_of {s : State} (h : s.alive = true) (run : State → State) : whileAlive s run = .next (run s).finish := by
  simp [whileAlive, ends, h]

end Sys2Proof.Machine
end

