-- ==== Sys2Proof/Laws/Map.lean ====
section
/-!
SUPPORT. Sparse data by key: what is read after a write, and that a write keeps the canonical form.
-/

set_option Elab.async false

namespace Sys2Proof.Machine

variable {α : Type}

@[simp] theorem mget_nil (d : α) (k : Nat) : mget d [] k = d := rfl

theorem mget_cons (d : α) (e : Nat × α) (m : List (Nat × α)) (k : Nat) : mget d (e :: m) k = if e.1 = k then e.2 else mget d m k := rfl

@[simp] theorem mget_merase_self (d : α) (m : List (Nat × α)) (k : Nat) : mget d (merase m k) k = d := by
  induction m with
  | nil => rfl
  | cons e m ih => by_cases h : e.1 = k <;> simp [merase, mget_cons, h, ih]

theorem mget_merase_ne (d : α) (m : List (Nat × α)) {k j : Nat} (hj : j ≠ k) : mget d (merase m k) j = mget d m j := by
  induction m with
  | nil => rfl
  | cons e m ih =>
    by_cases h : e.1 = k
    · simp [merase, mget_cons, h, ih, Ne.symm hj]
    · simp [merase, mget_cons, h, ih]

theorem mget_mins_self (d v : α) (m : List (Nat × α)) (k : Nat) (h : ∀ e ∈ m, e.1 ≠ k) : mget d (mins m k v) k = v := by
  induction m with
  | nil => simp [mins, mget_cons]
  | cons e m ih =>
    have he := h e (by simp)
    have := ih (fun x hx => h x (by simp [hx]))
    by_cases hl : k < e.1
    · simp [mins, mget_cons, hl]
    · simp [mins, mget_cons, hl, he, this]

theorem mget_mins_ne (d v : α) (m : List (Nat × α)) {k j : Nat} (hj : j ≠ k) : mget d (mins m k v) j = mget d m j := by
  induction m with
  | nil => simp [mins, mget_cons, Ne.symm hj]
  | cons e m ih =>
    by_cases hl : k < e.1
    · simp [mins, mget_cons, hl, Ne.symm hj]
    · simp [mins, mget_cons, hl, ih]

theorem merase_keys (m : List (Nat × α)) (k : Nat) : ∀ e ∈ merase m k, e.1 ≠ k ∧ e ∈ m := by
  induction m with
  | nil => simp [merase]
  | cons e m ih =>
    intro x hx
    by_cases h : e.1 = k
    · have := ih x (by simpa [merase, h] using hx); exact ⟨this.1, by simp [this.2]⟩
    · rcases List.mem_cons.mp (by simpa [merase, h] using hx) with rfl | hx
      · exact ⟨h, by simp⟩
      · have := ih x hx; exact ⟨this.1, by simp [this.2]⟩

@[simp] theorem mget_mset_self (d v : α) (m : List (Nat × α)) (k : Nat) : mget d (mset m k v) k = v :=
  mget_mins_self d v _ k (fun e he => (merase_keys m k e he).1)

theorem mget_mset_ne (d v : α) (m : List (Nat × α)) {k j : Nat} (hj : j ≠ k) : mget d (mset m k v) j = mget d m j := by
  rw [mset, mget_mins_ne d v _ hj, mget_merase_ne d m hj]

@[simp] theorem mget_mput_self [DecidableEq α] (d v : α) (m : List (Nat × α)) (k : Nat) : mget d (mput d m k v) k = v := by
  unfold mput
  split
  · next h => simp [h]
  · exact mget_mset_self d v m k

theorem mget_mput_ne [DecidableEq α] (d c v : α) (m : List (Nat × α)) {k j : Nat} (hj : j ≠ k) :
    mget d (mput c m k v) j = mget d m j := by
  unfold mput
  split
  · exact mget_merase_ne d m hj
  · exact mget_mset_ne d v m hj

/-- What is read after a write. -/
theorem mget_mput [DecidableEq α] (d v : α) (m : List (Nat × α)) (k j : Nat) :
    mget d (mput d m k v) j = if j = k then v else mget d m j := by
  split
  · next h => simp [h]
  · next h => exact mget_mput_ne d d v m h

/-! ### The canonical form -/

theorem msorted_cons {e : Nat × α} {m : List (Nat × α)} : msorted (e :: m) = true ↔ (∀ x ∈ m, e.1 < x.1) ∧ msorted m = true := by
  induction m generalizing e with
  | nil => simp [msorted]
  | cons x m ih =>
    obtain ⟨a, b⟩ := e; obtain ⟨c, d⟩ := x
    simp only [msorted, Bool.and_eq_true, decide_eq_true_eq, ih, List.mem_cons, forall_eq_or_imp]
    constructor
    · rintro ⟨h, h1, h2⟩; exact ⟨⟨h, fun y hy => Nat.lt_trans h (h1 y hy)⟩, h1, h2⟩
    · rintro ⟨⟨h, _⟩, h1, h2⟩; exact ⟨h, h1, h2⟩

theorem msorted_merase {m : List (Nat × α)} (h : msorted m = true) (k : Nat) : msorted (merase m k) = true := by
  induction m with
  | nil => rfl
  | cons e m ih =>
    have ⟨h1, h2⟩ := msorted_cons.mp h
    by_cases hk : e.1 = k
    · simpa [merase, hk] using ih h2
    · simpa [merase, hk] using msorted_cons.mpr ⟨fun x hx => h1 x (merase_keys m k x hx).2, ih h2⟩

theorem mins_keys (m : List (Nat × α)) (k : Nat) (v : α) : ∀ e ∈ mins m k v, e = (k, v) ∨ e ∈ m := by
  induction m with
  | nil => simp [mins]
  | cons e m ih =>
    intro x hx
    by_cases hl : k < e.1
    · simpa [mins, hl] using hx
    · rcases List.mem_cons.mp (by simpa [mins, hl] using hx) with rfl | hx
      · simp
      · rcases ih x hx with h | h <;> simp [h]

theorem msorted_mins {m : List (Nat × α)} (h : msorted m = true) {k : Nat} (hk : ∀ e ∈ m, e.1 ≠ k) (v : α) :
    msorted (mins m k v) = true := by
  induction m with
  | nil => rfl
  | cons e m ih =>
    have ⟨h1, h2⟩ := msorted_cons.mp h
    by_cases hl : k < e.1
    · rw [show mins (e :: m) k v = (k, v) :: e :: m by simp [mins, hl]]
      refine msorted_cons.mpr ⟨?_, h⟩
      intro x hx
      rcases List.mem_cons.mp hx with rfl | hx
      · exact hl
      · exact Nat.lt_trans hl (h1 x hx)
    · rw [show mins (e :: m) k v = e :: mins m k v by simp [mins, hl]]
      refine msorted_cons.mpr ⟨?_, ih h2 (fun x hx => hk x (by simp [hx]))⟩
      intro x hx
      have := hk e (by simp)
      rcases mins_keys m k v x hx with rfl | hx
      · show e.1 < k; omega
      · exact h1 x hx

/-- Writing a key keeps the canonical form: keys rising, nothing listed at what its key reads unlisted. -/
theorem mwf_mput [DecidableEq α] {d : Nat → α} {m : List (Nat × α)} (h : mwf d m = true) (k : Nat) (v : α) :
    mwf d (mput (d k) m k v) = true := by
  simp only [mwf, Bool.and_eq_true, List.all_eq_true, decide_eq_true_eq] at h ⊢
  unfold mput
  split
  · exact ⟨msorted_merase h.1 k, fun e he => h.2 e (merase_keys m k e he).2⟩
  · next hv =>
    refine ⟨msorted_mins (msorted_merase h.1 k) (fun e he => (merase_keys m k e he).1) v, fun e he => ?_⟩
    rcases mins_keys _ k v e he with rfl | he
    · exact hv
    · exact h.2 e (merase_keys m k e he).2

/-! ### Filters by key -/

theorem mget_filter (d : α) (m : List (Nat × α)) (p : Nat → Bool) (k : Nat) :
    mget d (m.filter (fun c => p c.1)) k = if p k then mget d m k else d := by
  induction m with
  | nil => simp
  | cons e m ih =>
    by_cases hp : p e.1
    · by_cases hk : e.1 = k
      · simp [mget_cons, hk, hk ▸ hp]
      · simp [hp, mget_cons, hk, ih]
    · by_cases hk : e.1 = k
      · subst hk; simp [hp, ih]
      · simp [hp, mget_cons, hk, ih]

theorem mget_append (d : α) (l m : List (Nat × α)) (k : Nat) (h : ∀ e ∈ l, e.1 ≠ k) : mget d (l ++ m) k = mget d m k := by
  induction l with
  | nil => rfl
  | cons e l ih => simp [mget_cons, h e (by simp), ih (fun x hx => h x (by simp [hx]))]

theorem mget_append_left (d : α) (l m : List (Nat × α)) (k : Nat) (h : ∀ e ∈ m, e.1 ≠ k) : mget d (l ++ m) k = mget d l k := by
  induction l with
  | nil =>
    induction m with
    | nil => rfl
    | cons e m ih => simpa [mget_cons, h e (by simp)] using ih (fun x hx => h x (by simp [hx]))
  | cons e l ih => simp [mget_cons, ih]

theorem msorted_filter {m : List (Nat × α)} (h : msorted m = true) (p : Nat × α → Bool) : msorted (m.filter p) = true := by
  induction m with
  | nil => rfl
  | cons e m ih =>
    have ⟨h1, h2⟩ := msorted_cons.mp h
    by_cases hp : p e
    · rw [List.filter_cons_of_pos hp]
      exact msorted_cons.mpr ⟨fun x hx => h1 x (List.mem_filter.mp hx).1, ih h2⟩
    · rw [List.filter_cons_of_neg hp]; exact ih h2

theorem msorted_append {l m : List (Nat × α)} (h : msorted l = true) (h' : msorted m = true)
    (hlm : ∀ x ∈ l, ∀ y ∈ m, x.1 < y.1) : msorted (l ++ m) = true := by
  induction l with
  | nil => exact h'
  | cons e l ih =>
    have ⟨h1, h2⟩ := msorted_cons.mp h
    refine msorted_cons.mpr ⟨fun x hx => ?_, ih h2 (fun x hx y hy => hlm x (by simp [hx]) y hy)⟩
    rcases List.mem_append.mp hx with hx | hx
    · exact h1 x hx
    · exact hlm e (by simp) x hx

end Sys2Proof.Machine
end

