-- ==== Sys2Proof/Laws/Memory.lean ====
section
/-!
SUPPORT. Memory: what a byte reads after each operation that writes memory, and that each keeps the canonical form.
-/

set_option Elab.async false

namespace Sys2Proof.Machine

theorem lineCells_range (base : Nat) (l : Line) : ∀ c ∈ lineCells base l, base ≤ c.1 ∧ c.1 < base + 128 ∧ c.2 ≠ 0 := by
  intro c hc
  simp only [lineCells, List.mem_filter, List.mem_map, List.mem_range, decide_eq_true_eq] at hc
  obtain ⟨⟨i, hi, rfl⟩, hz⟩ := hc
  exact ⟨by show base ≤ base + i; omega, by show base + i < base + 128; omega, hz⟩

theorem cells_sorted (base : Nat) (f : Nat → Byte) : ∀ n k : Nat,
    msorted ((List.range' k n).map (fun i => (base + i, f i))) = true
  | 0, _ => rfl
  | n + 1, k => by
    rw [List.range'_succ, List.map_cons]
    refine msorted_cons.mpr ⟨fun x hx => ?_, cells_sorted base f n (k + 1)⟩
    simp only [List.mem_map, List.mem_range'_1] at hx
    obtain ⟨i, hi, rfl⟩ := hx
    show base + k < base + i
    omega

theorem lineCells_sorted (base : Nat) (l : Line) : msorted (lineCells base l) = true := by
  unfold lineCells
  rw [List.range_eq_range']
  exact msorted_filter (cells_sorted base _ 128 0) _

theorem mget_cells (base : Nat) (f : Nat → Byte) (a : Nat) : ∀ n k : Nat,
    mget 0 ((List.range' k n).map (fun i => (base + i, f i))) (base + a) = if k ≤ a ∧ a < k + n then f a else 0
  | 0, k => by
    rw [if_neg (by omega)]
    rfl
  | n + 1, k => by
    rw [List.range'_succ, List.map_cons, mget_cons, mget_cells base f a n (k + 1)]
    by_cases h : k = a
    · subst h; simp
    · have e2 : (k + 1 ≤ a ∧ a < k + 1 + n) ↔ (k ≤ a ∧ a < k + (n + 1)) := by omega
      rw [if_neg (show ¬ base + k = base + a by omega)]
      simp only [e2]

theorem mget_nonzero (m : List Host.Cell) (a : Nat) (h : msorted m = true) :
    mget 0 (m.filter (fun c => decide (c.2 ≠ 0))) a = mget 0 m a := by
  induction m with
  | nil => rfl
  | cons e m ih =>
    have ⟨h1, h2⟩ := msorted_cons.mp h
    by_cases hz : e.2 = 0
    · rw [List.filter_cons_of_neg (by simp [hz]), ih h2, mget_cons]
      split
      · next hk =>
        rw [hz]
        have : ∀ x ∈ m, x.1 ≠ a := fun x hx => by have := h1 x hx; omega
        simpa using mget_append (0 : Byte) m [] a this
      · rfl
    · rw [List.filter_cons_of_pos (by exact decide_eq_true hz), mget_cons, mget_cons, ih h2]

theorem lineCells_byte (base : Nat) (l : Line) (i : Nat) (hi : i < 128) : mget 0 (lineCells base l) (base + i) = lineByte l i := by
  unfold lineCells
  rw [List.range_eq_range', mget_nonzero _ _ (cells_sorted base _ 128 0), mget_cells]
  simp [hi]

/-- A byte after a line is written: the line's own byte within it, what it was elsewhere. -/
theorem byte_setLine (s : State) (n : Nat) (l : Line) (a : Nat) :
    (s.setLine n l).byte a = if 128 * n ≤ a ∧ a < 128 * n + 128 then lineByte l (a - 128 * n) else s.byte a := by
  have low : ∀ e ∈ s.mem.filter (fun c => decide (c.1 < 128 * n)), e.1 < 128 * n := fun e he => by
    simpa using (List.mem_filter.mp he).2
  have high : ∀ e ∈ s.mem.filter (fun c => decide (128 * n + 128 ≤ c.1)), 128 * n + 128 ≤ e.1 := fun e he => by
    simpa using (List.mem_filter.mp he).2
  have mid := lineCells_range (128 * n) l
  unfold State.byte State.setLine
  show mget 0 (_ ++ _ ++ _) a = _
  split
  · next h =>
    rw [mget_append_left _ _ _ _ (fun e he => by have := high e he; omega),
      mget_append _ _ _ _ (fun e he => by have := low e he; omega)]
    have := lineCells_byte (128 * n) l (a - 128 * n) (by omega)
    rwa [show 128 * n + (a - 128 * n) = a by omega] at this
  · next h =>
    by_cases hl : a < 128 * n
    · rw [mget_append_left _ _ _ _ (fun e he => by have := high e he; omega),
        mget_append_left _ _ _ _ (fun e he => by have := mid e he; omega)]
      rw [mget_filter 0 s.mem (fun k => decide (k < 128 * n)) a]
      simp [hl]
    · rw [mget_append _ _ _ _ (fun e he => by
        rcases List.mem_append.mp he with he | he
        · have := low e he; omega
        · have := mid e he; omega)]
      rw [mget_filter 0 s.mem (fun k => decide (128 * n + 128 ≤ k)) a]
      have : 128 * n + 128 ≤ a := by omega
      simp [this]

/-- A byte after a range is cleared. -/
theorem byte_clearBytes (s : State) (lo hi a : Nat) : (s.clearBytes lo hi).byte a = if lo ≤ a ∧ a < hi then 0 else s.byte a := by
  unfold State.byte State.clearBytes
  show mget 0 (s.mem.filter (fun c => decide (c.1 < lo) || decide (hi ≤ c.1))) a = _
  rw [mget_filter 0 s.mem (fun k => decide (k < lo) || decide (hi ≤ k)) a]
  by_cases h : lo ≤ a ∧ a < hi
  · simp [h, show ¬ a < lo by omega, show ¬ hi ≤ a by omega]
  · have : a < lo ∨ hi ≤ a := by omega
    simp [h, this]

theorem wf_iff (m : List Host.Cell) : Memory.wf m = true ↔ msorted m = true ∧ ∀ c ∈ m, c.2 ≠ 0 := by
  simp [Memory.wf, mwf]

/-- Writing a line keeps the canonical form. -/
theorem wf_setLine {s : State} (h : Memory.wf s.mem = true) (n : Nat) (l : Line) : Memory.wf (s.setLine n l).mem = true := by
  have ⟨h1, h2⟩ := (wf_iff _).mp h
  have mid := lineCells_range (128 * n) l
  refine (wf_iff _).mpr ⟨?_, ?_⟩
  · refine msorted_append (msorted_append (msorted_filter h1 _) (lineCells_sorted _ l) ?_) (msorted_filter h1 _) ?_
    · intro x hx y hy
      have : x.1 < 128 * n := by simpa using (List.mem_filter.mp hx).2
      have := mid y hy
      omega
    · intro x hx y hy
      have hy' : 128 * n + 128 ≤ y.1 := by simpa using (List.mem_filter.mp hy).2
      rcases List.mem_append.mp hx with hx | hx
      · have : x.1 < 128 * n := by simpa using (List.mem_filter.mp hx).2
        omega
      · have := mid x hx; omega
  · intro c hc
    rcases List.mem_append.mp hc with hc | hc
    · rcases List.mem_append.mp hc with hc | hc
      · exact h2 c (List.mem_filter.mp hc).1
      · exact (mid c hc).2.2
    · exact h2 c (List.mem_filter.mp hc).1

/-- Writing some bytes of a line keeps it. -/
theorem wf_writeLine {s : State} (h : Memory.wf s.mem = true) (n : Nat) (l : Line) (m : Mask) : Memory.wf (s.writeLine n l m).mem = true :=
  wf_setLine h n _

/-- Clearing a range keeps it. -/
theorem wf_clearBytes {s : State} (h : Memory.wf s.mem = true) (lo hi : Nat) : Memory.wf (s.clearBytes lo hi).mem = true := by
  have ⟨h1, h2⟩ := (wf_iff _).mp h
  exact (wf_iff _).mpr ⟨msorted_filter h1 _, fun c hc => h2 c (List.mem_filter.mp hc).1⟩

/-- Memory after reset is in the canonical form. -/
theorem wf_reset : Memory.wf State.reset.mem = true := rfl

/-- Writing a register keeps the register file's form. -/
theorem wf_setReg {s : State} (h : RegFile.wf s.regs = true) (off : Nat) (v : Word) : RegFile.wf (s.setReg off v).regs = true :=
  mwf_mput h off v

end Sys2Proof.Machine
end

