-- ==== Sys2Proof/Laws/State.lean ====
section
/-!
SUPPORT. What each named update of the state leaves as it was, field by field, and what it makes its own field read: a proof that cites
these never unfolds a record update.
-/

set_option Elab.async false

namespace Sys2Proof.Machine

/-! ### setReg -/

@[simp] theorem State.setReg_now (s : State) (off : Nat) (v : Word) : (s.setReg off v).now = s.now := rfl
@[simp] theorem State.setReg_benchBase (s : State) (off : Nat) (v : Word) : (s.setReg off v).benchBase = s.benchBase := rfl
@[simp] theorem State.setReg_free (s : State) (off : Nat) (v : Word) : (s.setReg off v).free = s.free := rfl
@[simp] theorem State.setReg_pending (s : State) (off : Nat) (v : Word) : (s.setReg off v).pending = s.pending := rfl
@[simp] theorem State.setReg_parityLines (s : State) (off : Nat) (v : Word) : (s.setReg off v).parityLines = s.parityLines := rfl
@[simp] theorem State.setReg_steps (s : State) (off : Nat) (v : Word) : (s.setReg off v).steps = s.steps := rfl
@[simp] theorem State.setReg_ring (s : State) (off : Nat) (v : Word) : (s.setReg off v).ring = s.ring := rfl
@[simp] theorem State.setReg_inval (s : State) (off : Nat) (v : Word) : (s.setReg off v).inval = s.inval := rfl
@[simp] theorem State.setReg_storeIO (s : State) (off : Nat) (v : Word) : (s.setReg off v).storeIO = s.storeIO := rfl
@[simp] theorem State.setReg_storeReads (s : State) (off : Nat) (v : Word) : (s.setReg off v).storeReads = s.storeReads := rfl
@[simp] theorem State.setReg_lostFreed (s : State) (off : Nat) (v : Word) : (s.setReg off v).lostFreed = s.lostFreed := rfl
@[simp] theorem State.setReg_mem (s : State) (off : Nat) (v : Word) : (s.setReg off v).mem = s.mem := rfl
@[simp] theorem State.setReg_bad (s : State) (off : Nat) (v : Word) : (s.setReg off v).bad = s.bad := rfl
@[simp] theorem State.setReg_acts (s : State) (off : Nat) (v : Word) : (s.setReg off v).acts = s.acts := rfl
@[simp] theorem State.setReg_oldPieces (s : State) (off : Nat) (v : Word) : (s.setReg off v).oldPieces = s.oldPieces := rfl
@[simp] theorem State.setReg_parity (s : State) (off : Nat) (v : Word) : (s.setReg off v).parity = s.parity := rfl
@[simp] theorem State.setReg_gz (s : State) (off : Nat) (v : Word) : (s.setReg off v).gz = s.gz := rfl
@[simp] theorem State.setReg_blobs (s : State) (off : Nat) (v : Word) : (s.setReg off v).blobs = s.blobs := rfl
@[simp] theorem State.setReg_parcels (s : State) (off : Nat) (v : Word) : (s.setReg off v).parcels = s.parcels := rfl
@[simp] theorem State.setReg_ctxs (s : State) (off : Nat) (v : Word) : (s.setReg off v).ctxs = s.ctxs := rfl
@[simp] theorem State.setReg_cports (s : State) (off : Nat) (v : Word) : (s.setReg off v).cports = s.cports := rfl
@[simp] theorem State.setReg_members (s : State) (off : Nat) (v : Word) : (s.setReg off v).members = s.members := rfl
@[simp] theorem State.setReg_routes (s : State) (off : Nat) (v : Word) : (s.setReg off v).routes = s.routes := rfl
@[simp] theorem State.setReg_lends (s : State) (off : Nat) (v : Word) : (s.setReg off v).lends = s.lends := rfl
@[simp] theorem State.setReg_borrows (s : State) (off : Nat) (v : Word) : (s.setReg off v).borrows = s.borrows := rfl
@[simp] theorem State.setReg_relocs (s : State) (off : Nat) (v : Word) : (s.setReg off v).relocs = s.relocs := rfl
@[simp] theorem State.setReg_moves (s : State) (off : Nat) (v : Word) : (s.setReg off v).moves = s.moves := rfl
@[simp] theorem State.setReg_custody (s : State) (off : Nat) (v : Word) : (s.setReg off v).custody = s.custody := rfl
@[simp] theorem State.setReg_atlas (s : State) (off : Nat) (v : Word) : (s.setReg off v).atlas = s.atlas := rfl
@[simp] theorem State.setReg_txns (s : State) (off : Nat) (v : Word) : (s.setReg off v).txns = s.txns := rfl
@[simp] theorem State.setReg_uprobes (s : State) (off : Nat) (v : Word) : (s.setReg off v).uprobes = s.uprobes := rfl
@[simp] theorem State.setReg_orders (s : State) (off : Nat) (v : Word) : (s.setReg off v).orders = s.orders := rfl
@[simp] theorem State.setReg_echoes (s : State) (off : Nat) (v : Word) : (s.setReg off v).echoes = s.echoes := rfl
@[simp] theorem State.setReg_series (s : State) (off : Nat) (v : Word) : (s.setReg off v).series = s.series := rfl
@[simp] theorem State.setReg_out (s : State) (off : Nat) (v : Word) : (s.setReg off v).out = s.out := rfl
@[simp] theorem State.setReg_ans (s : State) (off : Nat) (v : Word) : (s.setReg off v).ans = s.ans := rfl
@[simp] theorem State.setReg_increments (s : State) (off : Nat) (v : Word) : (s.setReg off v).increments = s.increments := rfl
@[simp] theorem State.setReg_chans (s : State) (off : Nat) (v : Word) : (s.setReg off v).chans = s.chans := rfl
@[simp] theorem State.setReg_stackTable (s : State) (off : Nat) (v : Word) : (s.setReg off v).stackTable = s.stackTable := rfl
@[simp] theorem State.setReg_pass (s : State) (off : Nat) (v : Word) : (s.setReg off v).pass = s.pass := rfl
@[simp] theorem State.setReg_ports (s : State) (off : Nat) (v : Word) : (s.setReg off v).ports = s.ports := rfl
@[simp] theorem State.setReg_sluice (s : State) (off : Nat) (v : Word) : (s.setReg off v).sluice = s.sluice := rfl
@[simp] theorem State.setReg_thoit (s : State) (off : Nat) (v : Word) : (s.setReg off v).thoit = s.thoit := rfl
@[simp] theorem State.setReg_dies (s : State) (off : Nat) (v : Word) : (s.setReg off v).dies = s.dies := rfl
@[simp] theorem State.setReg_qps (s : State) (off : Nat) (v : Word) : (s.setReg off v).qps = s.qps := rfl
@[simp] theorem State.setReg_jets (s : State) (off : Nat) (v : Word) : (s.setReg off v).jets = s.jets := rfl
@[simp] theorem State.setReg_tasks (s : State) (off : Nat) (v : Word) : (s.setReg off v).tasks = s.tasks := rfl
@[simp] theorem State.setReg_tables (s : State) (off : Nat) (v : Word) : (s.setReg off v).tables = s.tables := rfl
@[simp] theorem State.setReg_indexes (s : State) (off : Nat) (v : Word) : (s.setReg off v).indexes = s.indexes := rfl
@[simp] theorem State.setReg_drains (s : State) (off : Nat) (v : Word) : (s.setReg off v).drains = s.drains := rfl
@[simp] theorem State.setReg_power (s : State) (off : Nat) (v : Word) : (s.setReg off v).power = s.power := rfl
@[simp] theorem State.setReg_sec (s : State) (off : Nat) (v : Word) : (s.setReg off v).sec = s.sec := rfl
@[simp] theorem State.setReg_boot (s : State) (off : Nat) (v : Word) : (s.setReg off v).boot = s.boot := rfl
@[simp] theorem State.setReg_mgmt (s : State) (off : Nat) (v : Word) : (s.setReg off v).mgmt = s.mgmt := rfl
@[simp] theorem State.setReg_tele (s : State) (off : Nat) (v : Word) : (s.setReg off v).tele = s.tele := rfl
@[simp] theorem State.setReg_running (s : State) (off : Nat) (v : Word) : (s.setReg off v).running = s.running := rfl
@[simp] theorem State.setReg_walked (s : State) (off : Nat) (v : Word) : (s.setReg off v).walked = s.walked := rfl
@[simp] theorem State.setReg_wire (s : State) (off : Nat) (v : Word) : (s.setReg off v).wire = s.wire := rfl

/-! ### setRf -/

@[simp] theorem State.setRf_now (s : State) (off lo w x : Nat) : (s.setRf off lo w x).now = s.now := rfl
@[simp] theorem State.setRf_benchBase (s : State) (off lo w x : Nat) : (s.setRf off lo w x).benchBase = s.benchBase := rfl
@[simp] theorem State.setRf_free (s : State) (off lo w x : Nat) : (s.setRf off lo w x).free = s.free := rfl
@[simp] theorem State.setRf_pending (s : State) (off lo w x : Nat) : (s.setRf off lo w x).pending = s.pending := rfl
@[simp] theorem State.setRf_parityLines (s : State) (off lo w x : Nat) : (s.setRf off lo w x).parityLines = s.parityLines := rfl
@[simp] theorem State.setRf_steps (s : State) (off lo w x : Nat) : (s.setRf off lo w x).steps = s.steps := rfl
@[simp] theorem State.setRf_ring (s : State) (off lo w x : Nat) : (s.setRf off lo w x).ring = s.ring := rfl
@[simp] theorem State.setRf_inval (s : State) (off lo w x : Nat) : (s.setRf off lo w x).inval = s.inval := rfl
@[simp] theorem State.setRf_storeIO (s : State) (off lo w x : Nat) : (s.setRf off lo w x).storeIO = s.storeIO := rfl
@[simp] theorem State.setRf_storeReads (s : State) (off lo w x : Nat) : (s.setRf off lo w x).storeReads = s.storeReads := rfl
@[simp] theorem State.setRf_lostFreed (s : State) (off lo w x : Nat) : (s.setRf off lo w x).lostFreed = s.lostFreed := rfl
@[simp] theorem State.setRf_mem (s : State) (off lo w x : Nat) : (s.setRf off lo w x).mem = s.mem := rfl
@[simp] theorem State.setRf_bad (s : State) (off lo w x : Nat) : (s.setRf off lo w x).bad = s.bad := rfl
@[simp] theorem State.setRf_acts (s : State) (off lo w x : Nat) : (s.setRf off lo w x).acts = s.acts := rfl
@[simp] theorem State.setRf_oldPieces (s : State) (off lo w x : Nat) : (s.setRf off lo w x).oldPieces = s.oldPieces := rfl
@[simp] theorem State.setRf_parity (s : State) (off lo w x : Nat) : (s.setRf off lo w x).parity = s.parity := rfl
@[simp] theorem State.setRf_gz (s : State) (off lo w x : Nat) : (s.setRf off lo w x).gz = s.gz := rfl
@[simp] theorem State.setRf_blobs (s : State) (off lo w x : Nat) : (s.setRf off lo w x).blobs = s.blobs := rfl
@[simp] theorem State.setRf_parcels (s : State) (off lo w x : Nat) : (s.setRf off lo w x).parcels = s.parcels := rfl
@[simp] theorem State.setRf_ctxs (s : State) (off lo w x : Nat) : (s.setRf off lo w x).ctxs = s.ctxs := rfl
@[simp] theorem State.setRf_cports (s : State) (off lo w x : Nat) : (s.setRf off lo w x).cports = s.cports := rfl
@[simp] theorem State.setRf_members (s : State) (off lo w x : Nat) : (s.setRf off lo w x).members = s.members := rfl
@[simp] theorem State.setRf_routes (s : State) (off lo w x : Nat) : (s.setRf off lo w x).routes = s.routes := rfl
@[simp] theorem State.setRf_lends (s : State) (off lo w x : Nat) : (s.setRf off lo w x).lends = s.lends := rfl
@[simp] theorem State.setRf_borrows (s : State) (off lo w x : Nat) : (s.setRf off lo w x).borrows = s.borrows := rfl
@[simp] theorem State.setRf_relocs (s : State) (off lo w x : Nat) : (s.setRf off lo w x).relocs = s.relocs := rfl
@[simp] theorem State.setRf_moves (s : State) (off lo w x : Nat) : (s.setRf off lo w x).moves = s.moves := rfl
@[simp] theorem State.setRf_custody (s : State) (off lo w x : Nat) : (s.setRf off lo w x).custody = s.custody := rfl
@[simp] theorem State.setRf_atlas (s : State) (off lo w x : Nat) : (s.setRf off lo w x).atlas = s.atlas := rfl
@[simp] theorem State.setRf_txns (s : State) (off lo w x : Nat) : (s.setRf off lo w x).txns = s.txns := rfl
@[simp] theorem State.setRf_uprobes (s : State) (off lo w x : Nat) : (s.setRf off lo w x).uprobes = s.uprobes := rfl
@[simp] theorem State.setRf_orders (s : State) (off lo w x : Nat) : (s.setRf off lo w x).orders = s.orders := rfl
@[simp] theorem State.setRf_echoes (s : State) (off lo w x : Nat) : (s.setRf off lo w x).echoes = s.echoes := rfl
@[simp] theorem State.setRf_series (s : State) (off lo w x : Nat) : (s.setRf off lo w x).series = s.series := rfl
@[simp] theorem State.setRf_out (s : State) (off lo w x : Nat) : (s.setRf off lo w x).out = s.out := rfl
@[simp] theorem State.setRf_ans (s : State) (off lo w x : Nat) : (s.setRf off lo w x).ans = s.ans := rfl
@[simp] theorem State.setRf_increments (s : State) (off lo w x : Nat) : (s.setRf off lo w x).increments = s.increments := rfl
@[simp] theorem State.setRf_chans (s : State) (off lo w x : Nat) : (s.setRf off lo w x).chans = s.chans := rfl
@[simp] theorem State.setRf_stackTable (s : State) (off lo w x : Nat) : (s.setRf off lo w x).stackTable = s.stackTable := rfl
@[simp] theorem State.setRf_pass (s : State) (off lo w x : Nat) : (s.setRf off lo w x).pass = s.pass := rfl
@[simp] theorem State.setRf_ports (s : State) (off lo w x : Nat) : (s.setRf off lo w x).ports = s.ports := rfl
@[simp] theorem State.setRf_sluice (s : State) (off lo w x : Nat) : (s.setRf off lo w x).sluice = s.sluice := rfl
@[simp] theorem State.setRf_thoit (s : State) (off lo w x : Nat) : (s.setRf off lo w x).thoit = s.thoit := rfl
@[simp] theorem State.setRf_dies (s : State) (off lo w x : Nat) : (s.setRf off lo w x).dies = s.dies := rfl
@[simp] theorem State.setRf_qps (s : State) (off lo w x : Nat) : (s.setRf off lo w x).qps = s.qps := rfl
@[simp] theorem State.setRf_jets (s : State) (off lo w x : Nat) : (s.setRf off lo w x).jets = s.jets := rfl
@[simp] theorem State.setRf_tasks (s : State) (off lo w x : Nat) : (s.setRf off lo w x).tasks = s.tasks := rfl
@[simp] theorem State.setRf_tables (s : State) (off lo w x : Nat) : (s.setRf off lo w x).tables = s.tables := rfl
@[simp] theorem State.setRf_indexes (s : State) (off lo w x : Nat) : (s.setRf off lo w x).indexes = s.indexes := rfl
@[simp] theorem State.setRf_drains (s : State) (off lo w x : Nat) : (s.setRf off lo w x).drains = s.drains := rfl
@[simp] theorem State.setRf_power (s : State) (off lo w x : Nat) : (s.setRf off lo w x).power = s.power := rfl
@[simp] theorem State.setRf_sec (s : State) (off lo w x : Nat) : (s.setRf off lo w x).sec = s.sec := rfl
@[simp] theorem State.setRf_boot (s : State) (off lo w x : Nat) : (s.setRf off lo w x).boot = s.boot := rfl
@[simp] theorem State.setRf_mgmt (s : State) (off lo w x : Nat) : (s.setRf off lo w x).mgmt = s.mgmt := rfl
@[simp] theorem State.setRf_tele (s : State) (off lo w x : Nat) : (s.setRf off lo w x).tele = s.tele := rfl
@[simp] theorem State.setRf_running (s : State) (off lo w x : Nat) : (s.setRf off lo w x).running = s.running := rfl
@[simp] theorem State.setRf_walked (s : State) (off lo w x : Nat) : (s.setRf off lo w x).walked = s.walked := rfl
@[simp] theorem State.setRf_wire (s : State) (off lo w x : Nat) : (s.setRf off lo w x).wire = s.wire := rfl

/-! ### bump -/

@[simp] theorem State.bump_now (s : State) (off lo w n : Nat) : (s.bump off lo w n).now = s.now := rfl
@[simp] theorem State.bump_benchBase (s : State) (off lo w n : Nat) : (s.bump off lo w n).benchBase = s.benchBase := rfl
@[simp] theorem State.bump_free (s : State) (off lo w n : Nat) : (s.bump off lo w n).free = s.free := rfl
@[simp] theorem State.bump_pending (s : State) (off lo w n : Nat) : (s.bump off lo w n).pending = s.pending := rfl
@[simp] theorem State.bump_parityLines (s : State) (off lo w n : Nat) : (s.bump off lo w n).parityLines = s.parityLines := rfl
@[simp] theorem State.bump_steps (s : State) (off lo w n : Nat) : (s.bump off lo w n).steps = s.steps := rfl
@[simp] theorem State.bump_ring (s : State) (off lo w n : Nat) : (s.bump off lo w n).ring = s.ring := rfl
@[simp] theorem State.bump_inval (s : State) (off lo w n : Nat) : (s.bump off lo w n).inval = s.inval := rfl
@[simp] theorem State.bump_storeIO (s : State) (off lo w n : Nat) : (s.bump off lo w n).storeIO = s.storeIO := rfl
@[simp] theorem State.bump_storeReads (s : State) (off lo w n : Nat) : (s.bump off lo w n).storeReads = s.storeReads := rfl
@[simp] theorem State.bump_lostFreed (s : State) (off lo w n : Nat) : (s.bump off lo w n).lostFreed = s.lostFreed := rfl
@[simp] theorem State.bump_mem (s : State) (off lo w n : Nat) : (s.bump off lo w n).mem = s.mem := rfl
@[simp] theorem State.bump_bad (s : State) (off lo w n : Nat) : (s.bump off lo w n).bad = s.bad := rfl
@[simp] theorem State.bump_acts (s : State) (off lo w n : Nat) : (s.bump off lo w n).acts = s.acts := rfl
@[simp] theorem State.bump_oldPieces (s : State) (off lo w n : Nat) : (s.bump off lo w n).oldPieces = s.oldPieces := rfl
@[simp] theorem State.bump_parity (s : State) (off lo w n : Nat) : (s.bump off lo w n).parity = s.parity := rfl
@[simp] theorem State.bump_gz (s : State) (off lo w n : Nat) : (s.bump off lo w n).gz = s.gz := rfl
@[simp] theorem State.bump_blobs (s : State) (off lo w n : Nat) : (s.bump off lo w n).blobs = s.blobs := rfl
@[simp] theorem State.bump_parcels (s : State) (off lo w n : Nat) : (s.bump off lo w n).parcels = s.parcels := rfl
@[simp] theorem State.bump_ctxs (s : State) (off lo w n : Nat) : (s.bump off lo w n).ctxs = s.ctxs := rfl
@[simp] theorem State.bump_cports (s : State) (off lo w n : Nat) : (s.bump off lo w n).cports = s.cports := rfl
@[simp] theorem State.bump_members (s : State) (off lo w n : Nat) : (s.bump off lo w n).members = s.members := rfl
@[simp] theorem State.bump_routes (s : State) (off lo w n : Nat) : (s.bump off lo w n).routes = s.routes := rfl
@[simp] theorem State.bump_lends (s : State) (off lo w n : Nat) : (s.bump off lo w n).lends = s.lends := rfl
@[simp] theorem State.bump_borrows (s : State) (off lo w n : Nat) : (s.bump off lo w n).borrows = s.borrows := rfl
@[simp] theorem State.bump_relocs (s : State) (off lo w n : Nat) : (s.bump off lo w n).relocs = s.relocs := rfl
@[simp] theorem State.bump_moves (s : State) (off lo w n : Nat) : (s.bump off lo w n).moves = s.moves := rfl
@[simp] theorem State.bump_custody (s : State) (off lo w n : Nat) : (s.bump off lo w n).custody = s.custody := rfl
@[simp] theorem State.bump_atlas (s : State) (off lo w n : Nat) : (s.bump off lo w n).atlas = s.atlas := rfl
@[simp] theorem State.bump_txns (s : State) (off lo w n : Nat) : (s.bump off lo w n).txns = s.txns := rfl
@[simp] theorem State.bump_uprobes (s : State) (off lo w n : Nat) : (s.bump off lo w n).uprobes = s.uprobes := rfl
@[simp] theorem State.bump_orders (s : State) (off lo w n : Nat) : (s.bump off lo w n).orders = s.orders := rfl
@[simp] theorem State.bump_echoes (s : State) (off lo w n : Nat) : (s.bump off lo w n).echoes = s.echoes := rfl
@[simp] theorem State.bump_series (s : State) (off lo w n : Nat) : (s.bump off lo w n).series = s.series := rfl
@[simp] theorem State.bump_out (s : State) (off lo w n : Nat) : (s.bump off lo w n).out = s.out := rfl
@[simp] theorem State.bump_ans (s : State) (off lo w n : Nat) : (s.bump off lo w n).ans = s.ans := rfl
@[simp] theorem State.bump_increments (s : State) (off lo w n : Nat) : (s.bump off lo w n).increments = s.increments := rfl
@[simp] theorem State.bump_chans (s : State) (off lo w n : Nat) : (s.bump off lo w n).chans = s.chans := rfl
@[simp] theorem State.bump_stackTable (s : State) (off lo w n : Nat) : (s.bump off lo w n).stackTable = s.stackTable := rfl
@[simp] theorem State.bump_pass (s : State) (off lo w n : Nat) : (s.bump off lo w n).pass = s.pass := rfl
@[simp] theorem State.bump_ports (s : State) (off lo w n : Nat) : (s.bump off lo w n).ports = s.ports := rfl
@[simp] theorem State.bump_sluice (s : State) (off lo w n : Nat) : (s.bump off lo w n).sluice = s.sluice := rfl
@[simp] theorem State.bump_thoit (s : State) (off lo w n : Nat) : (s.bump off lo w n).thoit = s.thoit := rfl
@[simp] theorem State.bump_dies (s : State) (off lo w n : Nat) : (s.bump off lo w n).dies = s.dies := rfl
@[simp] theorem State.bump_qps (s : State) (off lo w n : Nat) : (s.bump off lo w n).qps = s.qps := rfl
@[simp] theorem State.bump_jets (s : State) (off lo w n : Nat) : (s.bump off lo w n).jets = s.jets := rfl
@[simp] theorem State.bump_tasks (s : State) (off lo w n : Nat) : (s.bump off lo w n).tasks = s.tasks := rfl
@[simp] theorem State.bump_tables (s : State) (off lo w n : Nat) : (s.bump off lo w n).tables = s.tables := rfl
@[simp] theorem State.bump_indexes (s : State) (off lo w n : Nat) : (s.bump off lo w n).indexes = s.indexes := rfl
@[simp] theorem State.bump_drains (s : State) (off lo w n : Nat) : (s.bump off lo w n).drains = s.drains := rfl
@[simp] theorem State.bump_power (s : State) (off lo w n : Nat) : (s.bump off lo w n).power = s.power := rfl
@[simp] theorem State.bump_sec (s : State) (off lo w n : Nat) : (s.bump off lo w n).sec = s.sec := rfl
@[simp] theorem State.bump_boot (s : State) (off lo w n : Nat) : (s.bump off lo w n).boot = s.boot := rfl
@[simp] theorem State.bump_mgmt (s : State) (off lo w n : Nat) : (s.bump off lo w n).mgmt = s.mgmt := rfl
@[simp] theorem State.bump_tele (s : State) (off lo w n : Nat) : (s.bump off lo w n).tele = s.tele := rfl
@[simp] theorem State.bump_running (s : State) (off lo w n : Nat) : (s.bump off lo w n).running = s.running := rfl
@[simp] theorem State.bump_walked (s : State) (off lo w n : Nat) : (s.bump off lo w n).walked = s.walked := rfl
@[simp] theorem State.bump_wire (s : State) (off lo w n : Nat) : (s.bump off lo w n).wire = s.wire := rfl

/-! ### setGz -/

@[simp] theorem State.setGz_now (s : State) (idx sub v : Nat) : (s.setGz idx sub v).now = s.now := rfl
@[simp] theorem State.setGz_benchBase (s : State) (idx sub v : Nat) : (s.setGz idx sub v).benchBase = s.benchBase := rfl
@[simp] theorem State.setGz_free (s : State) (idx sub v : Nat) : (s.setGz idx sub v).free = s.free := rfl
@[simp] theorem State.setGz_pending (s : State) (idx sub v : Nat) : (s.setGz idx sub v).pending = s.pending := rfl
@[simp] theorem State.setGz_parityLines (s : State) (idx sub v : Nat) : (s.setGz idx sub v).parityLines = s.parityLines := rfl
@[simp] theorem State.setGz_steps (s : State) (idx sub v : Nat) : (s.setGz idx sub v).steps = s.steps := rfl
@[simp] theorem State.setGz_ring (s : State) (idx sub v : Nat) : (s.setGz idx sub v).ring = s.ring := rfl
@[simp] theorem State.setGz_inval (s : State) (idx sub v : Nat) : (s.setGz idx sub v).inval = s.inval := rfl
@[simp] theorem State.setGz_storeIO (s : State) (idx sub v : Nat) : (s.setGz idx sub v).storeIO = s.storeIO := rfl
@[simp] theorem State.setGz_storeReads (s : State) (idx sub v : Nat) : (s.setGz idx sub v).storeReads = s.storeReads := rfl
@[simp] theorem State.setGz_lostFreed (s : State) (idx sub v : Nat) : (s.setGz idx sub v).lostFreed = s.lostFreed := rfl
@[simp] theorem State.setGz_regs (s : State) (idx sub v : Nat) : (s.setGz idx sub v).regs = s.regs := rfl
@[simp] theorem State.setGz_mem (s : State) (idx sub v : Nat) : (s.setGz idx sub v).mem = s.mem := rfl
@[simp] theorem State.setGz_bad (s : State) (idx sub v : Nat) : (s.setGz idx sub v).bad = s.bad := rfl
@[simp] theorem State.setGz_acts (s : State) (idx sub v : Nat) : (s.setGz idx sub v).acts = s.acts := rfl
@[simp] theorem State.setGz_oldPieces (s : State) (idx sub v : Nat) : (s.setGz idx sub v).oldPieces = s.oldPieces := rfl
@[simp] theorem State.setGz_parity (s : State) (idx sub v : Nat) : (s.setGz idx sub v).parity = s.parity := rfl
@[simp] theorem State.setGz_blobs (s : State) (idx sub v : Nat) : (s.setGz idx sub v).blobs = s.blobs := rfl
@[simp] theorem State.setGz_parcels (s : State) (idx sub v : Nat) : (s.setGz idx sub v).parcels = s.parcels := rfl
@[simp] theorem State.setGz_ctxs (s : State) (idx sub v : Nat) : (s.setGz idx sub v).ctxs = s.ctxs := rfl
@[simp] theorem State.setGz_cports (s : State) (idx sub v : Nat) : (s.setGz idx sub v).cports = s.cports := rfl
@[simp] theorem State.setGz_members (s : State) (idx sub v : Nat) : (s.setGz idx sub v).members = s.members := rfl
@[simp] theorem State.setGz_routes (s : State) (idx sub v : Nat) : (s.setGz idx sub v).routes = s.routes := rfl
@[simp] theorem State.setGz_lends (s : State) (idx sub v : Nat) : (s.setGz idx sub v).lends = s.lends := rfl
@[simp] theorem State.setGz_borrows (s : State) (idx sub v : Nat) : (s.setGz idx sub v).borrows = s.borrows := rfl
@[simp] theorem State.setGz_relocs (s : State) (idx sub v : Nat) : (s.setGz idx sub v).relocs = s.relocs := rfl
@[simp] theorem State.setGz_moves (s : State) (idx sub v : Nat) : (s.setGz idx sub v).moves = s.moves := rfl
@[simp] theorem State.setGz_custody (s : State) (idx sub v : Nat) : (s.setGz idx sub v).custody = s.custody := rfl
@[simp] theorem State.setGz_atlas (s : State) (idx sub v : Nat) : (s.setGz idx sub v).atlas = s.atlas := rfl
@[simp] theorem State.setGz_txns (s : State) (idx sub v : Nat) : (s.setGz idx sub v).txns = s.txns := rfl
@[simp] theorem State.setGz_uprobes (s : State) (idx sub v : Nat) : (s.setGz idx sub v).uprobes = s.uprobes := rfl
@[simp] theorem State.setGz_orders (s : State) (idx sub v : Nat) : (s.setGz idx sub v).orders = s.orders := rfl
@[simp] theorem State.setGz_echoes (s : State) (idx sub v : Nat) : (s.setGz idx sub v).echoes = s.echoes := rfl
@[simp] theorem State.setGz_series (s : State) (idx sub v : Nat) : (s.setGz idx sub v).series = s.series := rfl
@[simp] theorem State.setGz_out (s : State) (idx sub v : Nat) : (s.setGz idx sub v).out = s.out := rfl
@[simp] theorem State.setGz_ans (s : State) (idx sub v : Nat) : (s.setGz idx sub v).ans = s.ans := rfl
@[simp] theorem State.setGz_increments (s : State) (idx sub v : Nat) : (s.setGz idx sub v).increments = s.increments := rfl
@[simp] theorem State.setGz_chans (s : State) (idx sub v : Nat) : (s.setGz idx sub v).chans = s.chans := rfl
@[simp] theorem State.setGz_stackTable (s : State) (idx sub v : Nat) : (s.setGz idx sub v).stackTable = s.stackTable := rfl
@[simp] theorem State.setGz_pass (s : State) (idx sub v : Nat) : (s.setGz idx sub v).pass = s.pass := rfl
@[simp] theorem State.setGz_ports (s : State) (idx sub v : Nat) : (s.setGz idx sub v).ports = s.ports := rfl
@[simp] theorem State.setGz_sluice (s : State) (idx sub v : Nat) : (s.setGz idx sub v).sluice = s.sluice := rfl
@[simp] theorem State.setGz_thoit (s : State) (idx sub v : Nat) : (s.setGz idx sub v).thoit = s.thoit := rfl
@[simp] theorem State.setGz_dies (s : State) (idx sub v : Nat) : (s.setGz idx sub v).dies = s.dies := rfl
@[simp] theorem State.setGz_qps (s : State) (idx sub v : Nat) : (s.setGz idx sub v).qps = s.qps := rfl
@[simp] theorem State.setGz_jets (s : State) (idx sub v : Nat) : (s.setGz idx sub v).jets = s.jets := rfl
@[simp] theorem State.setGz_tasks (s : State) (idx sub v : Nat) : (s.setGz idx sub v).tasks = s.tasks := rfl
@[simp] theorem State.setGz_tables (s : State) (idx sub v : Nat) : (s.setGz idx sub v).tables = s.tables := rfl
@[simp] theorem State.setGz_indexes (s : State) (idx sub v : Nat) : (s.setGz idx sub v).indexes = s.indexes := rfl
@[simp] theorem State.setGz_drains (s : State) (idx sub v : Nat) : (s.setGz idx sub v).drains = s.drains := rfl
@[simp] theorem State.setGz_power (s : State) (idx sub v : Nat) : (s.setGz idx sub v).power = s.power := rfl
@[simp] theorem State.setGz_sec (s : State) (idx sub v : Nat) : (s.setGz idx sub v).sec = s.sec := rfl
@[simp] theorem State.setGz_boot (s : State) (idx sub v : Nat) : (s.setGz idx sub v).boot = s.boot := rfl
@[simp] theorem State.setGz_mgmt (s : State) (idx sub v : Nat) : (s.setGz idx sub v).mgmt = s.mgmt := rfl
@[simp] theorem State.setGz_tele (s : State) (idx sub v : Nat) : (s.setGz idx sub v).tele = s.tele := rfl
@[simp] theorem State.setGz_running (s : State) (idx sub v : Nat) : (s.setGz idx sub v).running = s.running := rfl
@[simp] theorem State.setGz_walked (s : State) (idx sub v : Nat) : (s.setGz idx sub v).walked = s.walked := rfl
@[simp] theorem State.setGz_wire (s : State) (idx sub v : Nat) : (s.setGz idx sub v).wire = s.wire := rfl

/-! ### setLine -/

@[simp] theorem State.setLine_now (s : State) (n : Nat) (l : Line) : (s.setLine n l).now = s.now := rfl
@[simp] theorem State.setLine_benchBase (s : State) (n : Nat) (l : Line) : (s.setLine n l).benchBase = s.benchBase := rfl
@[simp] theorem State.setLine_free (s : State) (n : Nat) (l : Line) : (s.setLine n l).free = s.free := rfl
@[simp] theorem State.setLine_pending (s : State) (n : Nat) (l : Line) : (s.setLine n l).pending = s.pending := rfl
@[simp] theorem State.setLine_parityLines (s : State) (n : Nat) (l : Line) : (s.setLine n l).parityLines = s.parityLines := rfl
@[simp] theorem State.setLine_steps (s : State) (n : Nat) (l : Line) : (s.setLine n l).steps = s.steps := rfl
@[simp] theorem State.setLine_ring (s : State) (n : Nat) (l : Line) : (s.setLine n l).ring = s.ring := rfl
@[simp] theorem State.setLine_inval (s : State) (n : Nat) (l : Line) : (s.setLine n l).inval = s.inval := rfl
@[simp] theorem State.setLine_storeIO (s : State) (n : Nat) (l : Line) : (s.setLine n l).storeIO = s.storeIO := rfl
@[simp] theorem State.setLine_storeReads (s : State) (n : Nat) (l : Line) : (s.setLine n l).storeReads = s.storeReads := rfl
@[simp] theorem State.setLine_lostFreed (s : State) (n : Nat) (l : Line) : (s.setLine n l).lostFreed = s.lostFreed := rfl
@[simp] theorem State.setLine_regs (s : State) (n : Nat) (l : Line) : (s.setLine n l).regs = s.regs := rfl
@[simp] theorem State.setLine_bad (s : State) (n : Nat) (l : Line) : (s.setLine n l).bad = s.bad := rfl
@[simp] theorem State.setLine_acts (s : State) (n : Nat) (l : Line) : (s.setLine n l).acts = s.acts := rfl
@[simp] theorem State.setLine_oldPieces (s : State) (n : Nat) (l : Line) : (s.setLine n l).oldPieces = s.oldPieces := rfl
@[simp] theorem State.setLine_parity (s : State) (n : Nat) (l : Line) : (s.setLine n l).parity = s.parity := rfl
@[simp] theorem State.setLine_gz (s : State) (n : Nat) (l : Line) : (s.setLine n l).gz = s.gz := rfl
@[simp] theorem State.setLine_blobs (s : State) (n : Nat) (l : Line) : (s.setLine n l).blobs = s.blobs := rfl
@[simp] theorem State.setLine_parcels (s : State) (n : Nat) (l : Line) : (s.setLine n l).parcels = s.parcels := rfl
@[simp] theorem State.setLine_ctxs (s : State) (n : Nat) (l : Line) : (s.setLine n l).ctxs = s.ctxs := rfl
@[simp] theorem State.setLine_cports (s : State) (n : Nat) (l : Line) : (s.setLine n l).cports = s.cports := rfl
@[simp] theorem State.setLine_members (s : State) (n : Nat) (l : Line) : (s.setLine n l).members = s.members := rfl
@[simp] theorem State.setLine_routes (s : State) (n : Nat) (l : Line) : (s.setLine n l).routes = s.routes := rfl
@[simp] theorem State.setLine_lends (s : State) (n : Nat) (l : Line) : (s.setLine n l).lends = s.lends := rfl
@[simp] theorem State.setLine_borrows (s : State) (n : Nat) (l : Line) : (s.setLine n l).borrows = s.borrows := rfl
@[simp] theorem State.setLine_relocs (s : State) (n : Nat) (l : Line) : (s.setLine n l).relocs = s.relocs := rfl
@[simp] theorem State.setLine_moves (s : State) (n : Nat) (l : Line) : (s.setLine n l).moves = s.moves := rfl
@[simp] theorem State.setLine_custody (s : State) (n : Nat) (l : Line) : (s.setLine n l).custody = s.custody := rfl
@[simp] theorem State.setLine_atlas (s : State) (n : Nat) (l : Line) : (s.setLine n l).atlas = s.atlas := rfl
@[simp] theorem State.setLine_txns (s : State) (n : Nat) (l : Line) : (s.setLine n l).txns = s.txns := rfl
@[simp] theorem State.setLine_uprobes (s : State) (n : Nat) (l : Line) : (s.setLine n l).uprobes = s.uprobes := rfl
@[simp] theorem State.setLine_orders (s : State) (n : Nat) (l : Line) : (s.setLine n l).orders = s.orders := rfl
@[simp] theorem State.setLine_echoes (s : State) (n : Nat) (l : Line) : (s.setLine n l).echoes = s.echoes := rfl
@[simp] theorem State.setLine_series (s : State) (n : Nat) (l : Line) : (s.setLine n l).series = s.series := rfl
@[simp] theorem State.setLine_out (s : State) (n : Nat) (l : Line) : (s.setLine n l).out = s.out := rfl
@[simp] theorem State.setLine_ans (s : State) (n : Nat) (l : Line) : (s.setLine n l).ans = s.ans := rfl
@[simp] theorem State.setLine_increments (s : State) (n : Nat) (l : Line) : (s.setLine n l).increments = s.increments := rfl
@[simp] theorem State.setLine_chans (s : State) (n : Nat) (l : Line) : (s.setLine n l).chans = s.chans := rfl
@[simp] theorem State.setLine_stackTable (s : State) (n : Nat) (l : Line) : (s.setLine n l).stackTable = s.stackTable := rfl
@[simp] theorem State.setLine_pass (s : State) (n : Nat) (l : Line) : (s.setLine n l).pass = s.pass := rfl
@[simp] theorem State.setLine_ports (s : State) (n : Nat) (l : Line) : (s.setLine n l).ports = s.ports := rfl
@[simp] theorem State.setLine_sluice (s : State) (n : Nat) (l : Line) : (s.setLine n l).sluice = s.sluice := rfl
@[simp] theorem State.setLine_thoit (s : State) (n : Nat) (l : Line) : (s.setLine n l).thoit = s.thoit := rfl
@[simp] theorem State.setLine_dies (s : State) (n : Nat) (l : Line) : (s.setLine n l).dies = s.dies := rfl
@[simp] theorem State.setLine_qps (s : State) (n : Nat) (l : Line) : (s.setLine n l).qps = s.qps := rfl
@[simp] theorem State.setLine_jets (s : State) (n : Nat) (l : Line) : (s.setLine n l).jets = s.jets := rfl
@[simp] theorem State.setLine_tasks (s : State) (n : Nat) (l : Line) : (s.setLine n l).tasks = s.tasks := rfl
@[simp] theorem State.setLine_tables (s : State) (n : Nat) (l : Line) : (s.setLine n l).tables = s.tables := rfl
@[simp] theorem State.setLine_indexes (s : State) (n : Nat) (l : Line) : (s.setLine n l).indexes = s.indexes := rfl
@[simp] theorem State.setLine_drains (s : State) (n : Nat) (l : Line) : (s.setLine n l).drains = s.drains := rfl
@[simp] theorem State.setLine_power (s : State) (n : Nat) (l : Line) : (s.setLine n l).power = s.power := rfl
@[simp] theorem State.setLine_sec (s : State) (n : Nat) (l : Line) : (s.setLine n l).sec = s.sec := rfl
@[simp] theorem State.setLine_boot (s : State) (n : Nat) (l : Line) : (s.setLine n l).boot = s.boot := rfl
@[simp] theorem State.setLine_mgmt (s : State) (n : Nat) (l : Line) : (s.setLine n l).mgmt = s.mgmt := rfl
@[simp] theorem State.setLine_tele (s : State) (n : Nat) (l : Line) : (s.setLine n l).tele = s.tele := rfl
@[simp] theorem State.setLine_running (s : State) (n : Nat) (l : Line) : (s.setLine n l).running = s.running := rfl
@[simp] theorem State.setLine_walked (s : State) (n : Nat) (l : Line) : (s.setLine n l).walked = s.walked := rfl
@[simp] theorem State.setLine_wire (s : State) (n : Nat) (l : Line) : (s.setLine n l).wire = s.wire := rfl

/-! ### writeLine -/

@[simp] theorem State.writeLine_now (s : State) (n : Nat) (l : Line) (m : Mask) : (s.writeLine n l m).now = s.now := rfl
@[simp] theorem State.writeLine_benchBase (s : State) (n : Nat) (l : Line) (m : Mask) : (s.writeLine n l m).benchBase = s.benchBase := rfl
@[simp] theorem State.writeLine_free (s : State) (n : Nat) (l : Line) (m : Mask) : (s.writeLine n l m).free = s.free := rfl
@[simp] theorem State.writeLine_pending (s : State) (n : Nat) (l : Line) (m : Mask) : (s.writeLine n l m).pending = s.pending := rfl
@[simp] theorem State.writeLine_parityLines (s : State) (n : Nat) (l : Line) (m : Mask) : (s.writeLine n l m).parityLines = s.parityLines := rfl
@[simp] theorem State.writeLine_steps (s : State) (n : Nat) (l : Line) (m : Mask) : (s.writeLine n l m).steps = s.steps := rfl
@[simp] theorem State.writeLine_ring (s : State) (n : Nat) (l : Line) (m : Mask) : (s.writeLine n l m).ring = s.ring := rfl
@[simp] theorem State.writeLine_inval (s : State) (n : Nat) (l : Line) (m : Mask) : (s.writeLine n l m).inval = s.inval := rfl
@[simp] theorem State.writeLine_storeIO (s : State) (n : Nat) (l : Line) (m : Mask) : (s.writeLine n l m).storeIO = s.storeIO := rfl
@[simp] theorem State.writeLine_storeReads (s : State) (n : Nat) (l : Line) (m : Mask) : (s.writeLine n l m).storeReads = s.storeReads := rfl
@[simp] theorem State.writeLine_lostFreed (s : State) (n : Nat) (l : Line) (m : Mask) : (s.writeLine n l m).lostFreed = s.lostFreed := rfl
@[simp] theorem State.writeLine_regs (s : State) (n : Nat) (l : Line) (m : Mask) : (s.writeLine n l m).regs = s.regs := rfl
@[simp] theorem State.writeLine_bad (s : State) (n : Nat) (l : Line) (m : Mask) : (s.writeLine n l m).bad = s.bad := rfl
@[simp] theorem State.writeLine_acts (s : State) (n : Nat) (l : Line) (m : Mask) : (s.writeLine n l m).acts = s.acts := rfl
@[simp] theorem State.writeLine_oldPieces (s : State) (n : Nat) (l : Line) (m : Mask) : (s.writeLine n l m).oldPieces = s.oldPieces := rfl
@[simp] theorem State.writeLine_parity (s : State) (n : Nat) (l : Line) (m : Mask) : (s.writeLine n l m).parity = s.parity := rfl
@[simp] theorem State.writeLine_gz (s : State) (n : Nat) (l : Line) (m : Mask) : (s.writeLine n l m).gz = s.gz := rfl
@[simp] theorem State.writeLine_blobs (s : State) (n : Nat) (l : Line) (m : Mask) : (s.writeLine n l m).blobs = s.blobs := rfl
@[simp] theorem State.writeLine_parcels (s : State) (n : Nat) (l : Line) (m : Mask) : (s.writeLine n l m).parcels = s.parcels := rfl
@[simp] theorem State.writeLine_ctxs (s : State) (n : Nat) (l : Line) (m : Mask) : (s.writeLine n l m).ctxs = s.ctxs := rfl
@[simp] theorem State.writeLine_cports (s : State) (n : Nat) (l : Line) (m : Mask) : (s.writeLine n l m).cports = s.cports := rfl
@[simp] theorem State.writeLine_members (s : State) (n : Nat) (l : Line) (m : Mask) : (s.writeLine n l m).members = s.members := rfl
@[simp] theorem State.writeLine_routes (s : State) (n : Nat) (l : Line) (m : Mask) : (s.writeLine n l m).routes = s.routes := rfl
@[simp] theorem State.writeLine_lends (s : State) (n : Nat) (l : Line) (m : Mask) : (s.writeLine n l m).lends = s.lends := rfl
@[simp] theorem State.writeLine_borrows (s : State) (n : Nat) (l : Line) (m : Mask) : (s.writeLine n l m).borrows = s.borrows := rfl
@[simp] theorem State.writeLine_relocs (s : State) (n : Nat) (l : Line) (m : Mask) : (s.writeLine n l m).relocs = s.relocs := rfl
@[simp] theorem State.writeLine_moves (s : State) (n : Nat) (l : Line) (m : Mask) : (s.writeLine n l m).moves = s.moves := rfl
@[simp] theorem State.writeLine_custody (s : State) (n : Nat) (l : Line) (m : Mask) : (s.writeLine n l m).custody = s.custody := rfl
@[simp] theorem State.writeLine_atlas (s : State) (n : Nat) (l : Line) (m : Mask) : (s.writeLine n l m).atlas = s.atlas := rfl
@[simp] theorem State.writeLine_txns (s : State) (n : Nat) (l : Line) (m : Mask) : (s.writeLine n l m).txns = s.txns := rfl
@[simp] theorem State.writeLine_uprobes (s : State) (n : Nat) (l : Line) (m : Mask) : (s.writeLine n l m).uprobes = s.uprobes := rfl
@[simp] theorem State.writeLine_orders (s : State) (n : Nat) (l : Line) (m : Mask) : (s.writeLine n l m).orders = s.orders := rfl
@[simp] theorem State.writeLine_echoes (s : State) (n : Nat) (l : Line) (m : Mask) : (s.writeLine n l m).echoes = s.echoes := rfl
@[simp] theorem State.writeLine_series (s : State) (n : Nat) (l : Line) (m : Mask) : (s.writeLine n l m).series = s.series := rfl
@[simp] theorem State.writeLine_out (s : State) (n : Nat) (l : Line) (m : Mask) : (s.writeLine n l m).out = s.out := rfl
@[simp] theorem State.writeLine_ans (s : State) (n : Nat) (l : Line) (m : Mask) : (s.writeLine n l m).ans = s.ans := rfl
@[simp] theorem State.writeLine_increments (s : State) (n : Nat) (l : Line) (m : Mask) : (s.writeLine n l m).increments = s.increments := rfl
@[simp] theorem State.writeLine_chans (s : State) (n : Nat) (l : Line) (m : Mask) : (s.writeLine n l m).chans = s.chans := rfl
@[simp] theorem State.writeLine_stackTable (s : State) (n : Nat) (l : Line) (m : Mask) : (s.writeLine n l m).stackTable = s.stackTable := rfl
@[simp] theorem State.writeLine_pass (s : State) (n : Nat) (l : Line) (m : Mask) : (s.writeLine n l m).pass = s.pass := rfl
@[simp] theorem State.writeLine_ports (s : State) (n : Nat) (l : Line) (m : Mask) : (s.writeLine n l m).ports = s.ports := rfl
@[simp] theorem State.writeLine_sluice (s : State) (n : Nat) (l : Line) (m : Mask) : (s.writeLine n l m).sluice = s.sluice := rfl
@[simp] theorem State.writeLine_thoit (s : State) (n : Nat) (l : Line) (m : Mask) : (s.writeLine n l m).thoit = s.thoit := rfl
@[simp] theorem State.writeLine_dies (s : State) (n : Nat) (l : Line) (m : Mask) : (s.writeLine n l m).dies = s.dies := rfl
@[simp] theorem State.writeLine_qps (s : State) (n : Nat) (l : Line) (m : Mask) : (s.writeLine n l m).qps = s.qps := rfl
@[simp] theorem State.writeLine_jets (s : State) (n : Nat) (l : Line) (m : Mask) : (s.writeLine n l m).jets = s.jets := rfl
@[simp] theorem State.writeLine_tasks (s : State) (n : Nat) (l : Line) (m : Mask) : (s.writeLine n l m).tasks = s.tasks := rfl
@[simp] theorem State.writeLine_tables (s : State) (n : Nat) (l : Line) (m : Mask) : (s.writeLine n l m).tables = s.tables := rfl
@[simp] theorem State.writeLine_indexes (s : State) (n : Nat) (l : Line) (m : Mask) : (s.writeLine n l m).indexes = s.indexes := rfl
@[simp] theorem State.writeLine_drains (s : State) (n : Nat) (l : Line) (m : Mask) : (s.writeLine n l m).drains = s.drains := rfl
@[simp] theorem State.writeLine_power (s : State) (n : Nat) (l : Line) (m : Mask) : (s.writeLine n l m).power = s.power := rfl
@[simp] theorem State.writeLine_sec (s : State) (n : Nat) (l : Line) (m : Mask) : (s.writeLine n l m).sec = s.sec := rfl
@[simp] theorem State.writeLine_boot (s : State) (n : Nat) (l : Line) (m : Mask) : (s.writeLine n l m).boot = s.boot := rfl
@[simp] theorem State.writeLine_mgmt (s : State) (n : Nat) (l : Line) (m : Mask) : (s.writeLine n l m).mgmt = s.mgmt := rfl
@[simp] theorem State.writeLine_tele (s : State) (n : Nat) (l : Line) (m : Mask) : (s.writeLine n l m).tele = s.tele := rfl
@[simp] theorem State.writeLine_running (s : State) (n : Nat) (l : Line) (m : Mask) : (s.writeLine n l m).running = s.running := rfl
@[simp] theorem State.writeLine_walked (s : State) (n : Nat) (l : Line) (m : Mask) : (s.writeLine n l m).walked = s.walked := rfl
@[simp] theorem State.writeLine_wire (s : State) (n : Nat) (l : Line) (m : Mask) : (s.writeLine n l m).wire = s.wire := rfl

/-! ### clearBytes -/

@[simp] theorem State.clearBytes_now (s : State) (lo hi : Nat) : (s.clearBytes lo hi).now = s.now := rfl
@[simp] theorem State.clearBytes_benchBase (s : State) (lo hi : Nat) : (s.clearBytes lo hi).benchBase = s.benchBase := rfl
@[simp] theorem State.clearBytes_free (s : State) (lo hi : Nat) : (s.clearBytes lo hi).free = s.free := rfl
@[simp] theorem State.clearBytes_pending (s : State) (lo hi : Nat) : (s.clearBytes lo hi).pending = s.pending := rfl
@[simp] theorem State.clearBytes_steps (s : State) (lo hi : Nat) : (s.clearBytes lo hi).steps = s.steps := rfl
@[simp] theorem State.clearBytes_ring (s : State) (lo hi : Nat) : (s.clearBytes lo hi).ring = s.ring := rfl
@[simp] theorem State.clearBytes_inval (s : State) (lo hi : Nat) : (s.clearBytes lo hi).inval = s.inval := rfl
@[simp] theorem State.clearBytes_storeIO (s : State) (lo hi : Nat) : (s.clearBytes lo hi).storeIO = s.storeIO := rfl
@[simp] theorem State.clearBytes_storeReads (s : State) (lo hi : Nat) : (s.clearBytes lo hi).storeReads = s.storeReads := rfl
@[simp] theorem State.clearBytes_lostFreed (s : State) (lo hi : Nat) : (s.clearBytes lo hi).lostFreed = s.lostFreed := rfl
@[simp] theorem State.clearBytes_regs (s : State) (lo hi : Nat) : (s.clearBytes lo hi).regs = s.regs := rfl
@[simp] theorem State.clearBytes_acts (s : State) (lo hi : Nat) : (s.clearBytes lo hi).acts = s.acts := rfl
@[simp] theorem State.clearBytes_oldPieces (s : State) (lo hi : Nat) : (s.clearBytes lo hi).oldPieces = s.oldPieces := rfl
@[simp] theorem State.clearBytes_gz (s : State) (lo hi : Nat) : (s.clearBytes lo hi).gz = s.gz := rfl
@[simp] theorem State.clearBytes_blobs (s : State) (lo hi : Nat) : (s.clearBytes lo hi).blobs = s.blobs := rfl
@[simp] theorem State.clearBytes_parcels (s : State) (lo hi : Nat) : (s.clearBytes lo hi).parcels = s.parcels := rfl
@[simp] theorem State.clearBytes_ctxs (s : State) (lo hi : Nat) : (s.clearBytes lo hi).ctxs = s.ctxs := rfl
@[simp] theorem State.clearBytes_cports (s : State) (lo hi : Nat) : (s.clearBytes lo hi).cports = s.cports := rfl
@[simp] theorem State.clearBytes_members (s : State) (lo hi : Nat) : (s.clearBytes lo hi).members = s.members := rfl
@[simp] theorem State.clearBytes_routes (s : State) (lo hi : Nat) : (s.clearBytes lo hi).routes = s.routes := rfl
@[simp] theorem State.clearBytes_lends (s : State) (lo hi : Nat) : (s.clearBytes lo hi).lends = s.lends := rfl
@[simp] theorem State.clearBytes_borrows (s : State) (lo hi : Nat) : (s.clearBytes lo hi).borrows = s.borrows := rfl
@[simp] theorem State.clearBytes_relocs (s : State) (lo hi : Nat) : (s.clearBytes lo hi).relocs = s.relocs := rfl
@[simp] theorem State.clearBytes_moves (s : State) (lo hi : Nat) : (s.clearBytes lo hi).moves = s.moves := rfl
@[simp] theorem State.clearBytes_custody (s : State) (lo hi : Nat) : (s.clearBytes lo hi).custody = s.custody := rfl
@[simp] theorem State.clearBytes_atlas (s : State) (lo hi : Nat) : (s.clearBytes lo hi).atlas = s.atlas := rfl
@[simp] theorem State.clearBytes_txns (s : State) (lo hi : Nat) : (s.clearBytes lo hi).txns = s.txns := rfl
@[simp] theorem State.clearBytes_uprobes (s : State) (lo hi : Nat) : (s.clearBytes lo hi).uprobes = s.uprobes := rfl
@[simp] theorem State.clearBytes_orders (s : State) (lo hi : Nat) : (s.clearBytes lo hi).orders = s.orders := rfl
@[simp] theorem State.clearBytes_echoes (s : State) (lo hi : Nat) : (s.clearBytes lo hi).echoes = s.echoes := rfl
@[simp] theorem State.clearBytes_series (s : State) (lo hi : Nat) : (s.clearBytes lo hi).series = s.series := rfl
@[simp] theorem State.clearBytes_out (s : State) (lo hi : Nat) : (s.clearBytes lo hi).out = s.out := rfl
@[simp] theorem State.clearBytes_ans (s : State) (lo hi : Nat) : (s.clearBytes lo hi).ans = s.ans := rfl
@[simp] theorem State.clearBytes_increments (s : State) (lo hi : Nat) : (s.clearBytes lo hi).increments = s.increments := rfl
@[simp] theorem State.clearBytes_stackTable (s : State) (lo hi : Nat) : (s.clearBytes lo hi).stackTable = s.stackTable := rfl
@[simp] theorem State.clearBytes_pass (s : State) (lo hi : Nat) : (s.clearBytes lo hi).pass = s.pass := rfl
@[simp] theorem State.clearBytes_ports (s : State) (lo hi : Nat) : (s.clearBytes lo hi).ports = s.ports := rfl
@[simp] theorem State.clearBytes_sluice (s : State) (lo hi : Nat) : (s.clearBytes lo hi).sluice = s.sluice := rfl
@[simp] theorem State.clearBytes_thoit (s : State) (lo hi : Nat) : (s.clearBytes lo hi).thoit = s.thoit := rfl
@[simp] theorem State.clearBytes_dies (s : State) (lo hi : Nat) : (s.clearBytes lo hi).dies = s.dies := rfl
@[simp] theorem State.clearBytes_qps (s : State) (lo hi : Nat) : (s.clearBytes lo hi).qps = s.qps := rfl
@[simp] theorem State.clearBytes_jets (s : State) (lo hi : Nat) : (s.clearBytes lo hi).jets = s.jets := rfl
@[simp] theorem State.clearBytes_tasks (s : State) (lo hi : Nat) : (s.clearBytes lo hi).tasks = s.tasks := rfl
@[simp] theorem State.clearBytes_tables (s : State) (lo hi : Nat) : (s.clearBytes lo hi).tables = s.tables := rfl
@[simp] theorem State.clearBytes_indexes (s : State) (lo hi : Nat) : (s.clearBytes lo hi).indexes = s.indexes := rfl
@[simp] theorem State.clearBytes_drains (s : State) (lo hi : Nat) : (s.clearBytes lo hi).drains = s.drains := rfl
@[simp] theorem State.clearBytes_power (s : State) (lo hi : Nat) : (s.clearBytes lo hi).power = s.power := rfl
@[simp] theorem State.clearBytes_sec (s : State) (lo hi : Nat) : (s.clearBytes lo hi).sec = s.sec := rfl
@[simp] theorem State.clearBytes_boot (s : State) (lo hi : Nat) : (s.clearBytes lo hi).boot = s.boot := rfl
@[simp] theorem State.clearBytes_mgmt (s : State) (lo hi : Nat) : (s.clearBytes lo hi).mgmt = s.mgmt := rfl
@[simp] theorem State.clearBytes_tele (s : State) (lo hi : Nat) : (s.clearBytes lo hi).tele = s.tele := rfl
@[simp] theorem State.clearBytes_running (s : State) (lo hi : Nat) : (s.clearBytes lo hi).running = s.running := rfl
@[simp] theorem State.clearBytes_walked (s : State) (lo hi : Nat) : (s.clearBytes lo hi).walked = s.walked := rfl
@[simp] theorem State.clearBytes_wire (s : State) (lo hi : Nat) : (s.clearBytes lo hi).wire = s.wire := rfl

/-! ### atLeast -/

@[simp] theorem State.atLeast_benchBase (s : State) (t : Nat) : (s.atLeast t).benchBase = s.benchBase := rfl
@[simp] theorem State.atLeast_free (s : State) (t : Nat) : (s.atLeast t).free = s.free := rfl
@[simp] theorem State.atLeast_pending (s : State) (t : Nat) : (s.atLeast t).pending = s.pending := rfl
@[simp] theorem State.atLeast_parityLines (s : State) (t : Nat) : (s.atLeast t).parityLines = s.parityLines := rfl
@[simp] theorem State.atLeast_steps (s : State) (t : Nat) : (s.atLeast t).steps = s.steps := rfl
@[simp] theorem State.atLeast_ring (s : State) (t : Nat) : (s.atLeast t).ring = s.ring := rfl
@[simp] theorem State.atLeast_inval (s : State) (t : Nat) : (s.atLeast t).inval = s.inval := rfl
@[simp] theorem State.atLeast_storeIO (s : State) (t : Nat) : (s.atLeast t).storeIO = s.storeIO := rfl
@[simp] theorem State.atLeast_storeReads (s : State) (t : Nat) : (s.atLeast t).storeReads = s.storeReads := rfl
@[simp] theorem State.atLeast_lostFreed (s : State) (t : Nat) : (s.atLeast t).lostFreed = s.lostFreed := rfl
@[simp] theorem State.atLeast_regs (s : State) (t : Nat) : (s.atLeast t).regs = s.regs := rfl
@[simp] theorem State.atLeast_mem (s : State) (t : Nat) : (s.atLeast t).mem = s.mem := rfl
@[simp] theorem State.atLeast_bad (s : State) (t : Nat) : (s.atLeast t).bad = s.bad := rfl
@[simp] theorem State.atLeast_acts (s : State) (t : Nat) : (s.atLeast t).acts = s.acts := rfl
@[simp] theorem State.atLeast_oldPieces (s : State) (t : Nat) : (s.atLeast t).oldPieces = s.oldPieces := rfl
@[simp] theorem State.atLeast_parity (s : State) (t : Nat) : (s.atLeast t).parity = s.parity := rfl
@[simp] theorem State.atLeast_gz (s : State) (t : Nat) : (s.atLeast t).gz = s.gz := rfl
@[simp] theorem State.atLeast_blobs (s : State) (t : Nat) : (s.atLeast t).blobs = s.blobs := rfl
@[simp] theorem State.atLeast_parcels (s : State) (t : Nat) : (s.atLeast t).parcels = s.parcels := rfl
@[simp] theorem State.atLeast_ctxs (s : State) (t : Nat) : (s.atLeast t).ctxs = s.ctxs := rfl
@[simp] theorem State.atLeast_cports (s : State) (t : Nat) : (s.atLeast t).cports = s.cports := rfl
@[simp] theorem State.atLeast_members (s : State) (t : Nat) : (s.atLeast t).members = s.members := rfl
@[simp] theorem State.atLeast_routes (s : State) (t : Nat) : (s.atLeast t).routes = s.routes := rfl
@[simp] theorem State.atLeast_lends (s : State) (t : Nat) : (s.atLeast t).lends = s.lends := rfl
@[simp] theorem State.atLeast_borrows (s : State) (t : Nat) : (s.atLeast t).borrows = s.borrows := rfl
@[simp] theorem State.atLeast_relocs (s : State) (t : Nat) : (s.atLeast t).relocs = s.relocs := rfl
@[simp] theorem State.atLeast_moves (s : State) (t : Nat) : (s.atLeast t).moves = s.moves := rfl
@[simp] theorem State.atLeast_custody (s : State) (t : Nat) : (s.atLeast t).custody = s.custody := rfl
@[simp] theorem State.atLeast_atlas (s : State) (t : Nat) : (s.atLeast t).atlas = s.atlas := rfl
@[simp] theorem State.atLeast_txns (s : State) (t : Nat) : (s.atLeast t).txns = s.txns := rfl
@[simp] theorem State.atLeast_uprobes (s : State) (t : Nat) : (s.atLeast t).uprobes = s.uprobes := rfl
@[simp] theorem State.atLeast_orders (s : State) (t : Nat) : (s.atLeast t).orders = s.orders := rfl
@[simp] theorem State.atLeast_echoes (s : State) (t : Nat) : (s.atLeast t).echoes = s.echoes := rfl
@[simp] theorem State.atLeast_series (s : State) (t : Nat) : (s.atLeast t).series = s.series := rfl
@[simp] theorem State.atLeast_out (s : State) (t : Nat) : (s.atLeast t).out = s.out := rfl
@[simp] theorem State.atLeast_ans (s : State) (t : Nat) : (s.atLeast t).ans = s.ans := rfl
@[simp] theorem State.atLeast_increments (s : State) (t : Nat) : (s.atLeast t).increments = s.increments := rfl
@[simp] theorem State.atLeast_chans (s : State) (t : Nat) : (s.atLeast t).chans = s.chans := rfl
@[simp] theorem State.atLeast_stackTable (s : State) (t : Nat) : (s.atLeast t).stackTable = s.stackTable := rfl
@[simp] theorem State.atLeast_pass (s : State) (t : Nat) : (s.atLeast t).pass = s.pass := rfl
@[simp] theorem State.atLeast_ports (s : State) (t : Nat) : (s.atLeast t).ports = s.ports := rfl
@[simp] theorem State.atLeast_sluice (s : State) (t : Nat) : (s.atLeast t).sluice = s.sluice := rfl
@[simp] theorem State.atLeast_thoit (s : State) (t : Nat) : (s.atLeast t).thoit = s.thoit := rfl
@[simp] theorem State.atLeast_dies (s : State) (t : Nat) : (s.atLeast t).dies = s.dies := rfl
@[simp] theorem State.atLeast_qps (s : State) (t : Nat) : (s.atLeast t).qps = s.qps := rfl
@[simp] theorem State.atLeast_jets (s : State) (t : Nat) : (s.atLeast t).jets = s.jets := rfl
@[simp] theorem State.atLeast_tasks (s : State) (t : Nat) : (s.atLeast t).tasks = s.tasks := rfl
@[simp] theorem State.atLeast_tables (s : State) (t : Nat) : (s.atLeast t).tables = s.tables := rfl
@[simp] theorem State.atLeast_indexes (s : State) (t : Nat) : (s.atLeast t).indexes = s.indexes := rfl
@[simp] theorem State.atLeast_drains (s : State) (t : Nat) : (s.atLeast t).drains = s.drains := rfl
@[simp] theorem State.atLeast_power (s : State) (t : Nat) : (s.atLeast t).power = s.power := rfl
@[simp] theorem State.atLeast_sec (s : State) (t : Nat) : (s.atLeast t).sec = s.sec := rfl
@[simp] theorem State.atLeast_boot (s : State) (t : Nat) : (s.atLeast t).boot = s.boot := rfl
@[simp] theorem State.atLeast_mgmt (s : State) (t : Nat) : (s.atLeast t).mgmt = s.mgmt := rfl
@[simp] theorem State.atLeast_tele (s : State) (t : Nat) : (s.atLeast t).tele = s.tele := rfl
@[simp] theorem State.atLeast_running (s : State) (t : Nat) : (s.atLeast t).running = s.running := rfl
@[simp] theorem State.atLeast_walked (s : State) (t : Nat) : (s.atLeast t).walked = s.walked := rfl
@[simp] theorem State.atLeast_wire (s : State) (t : Nat) : (s.atLeast t).wire = s.wire := rfl

/-! ### send -/

@[simp] theorem State.send_now (s : State) (x : Sent) : (s.send x).now = s.now := rfl
@[simp] theorem State.send_benchBase (s : State) (x : Sent) : (s.send x).benchBase = s.benchBase := rfl
@[simp] theorem State.send_free (s : State) (x : Sent) : (s.send x).free = s.free := rfl
@[simp] theorem State.send_pending (s : State) (x : Sent) : (s.send x).pending = s.pending := rfl
@[simp] theorem State.send_parityLines (s : State) (x : Sent) : (s.send x).parityLines = s.parityLines := rfl
@[simp] theorem State.send_steps (s : State) (x : Sent) : (s.send x).steps = s.steps := rfl
@[simp] theorem State.send_ring (s : State) (x : Sent) : (s.send x).ring = s.ring := rfl
@[simp] theorem State.send_inval (s : State) (x : Sent) : (s.send x).inval = s.inval := rfl
@[simp] theorem State.send_storeIO (s : State) (x : Sent) : (s.send x).storeIO = s.storeIO := rfl
@[simp] theorem State.send_storeReads (s : State) (x : Sent) : (s.send x).storeReads = s.storeReads := rfl
@[simp] theorem State.send_lostFreed (s : State) (x : Sent) : (s.send x).lostFreed = s.lostFreed := rfl
@[simp] theorem State.send_regs (s : State) (x : Sent) : (s.send x).regs = s.regs := rfl
@[simp] theorem State.send_mem (s : State) (x : Sent) : (s.send x).mem = s.mem := rfl
@[simp] theorem State.send_bad (s : State) (x : Sent) : (s.send x).bad = s.bad := rfl
@[simp] theorem State.send_acts (s : State) (x : Sent) : (s.send x).acts = s.acts := rfl
@[simp] theorem State.send_oldPieces (s : State) (x : Sent) : (s.send x).oldPieces = s.oldPieces := rfl
@[simp] theorem State.send_parity (s : State) (x : Sent) : (s.send x).parity = s.parity := rfl
@[simp] theorem State.send_gz (s : State) (x : Sent) : (s.send x).gz = s.gz := rfl
@[simp] theorem State.send_blobs (s : State) (x : Sent) : (s.send x).blobs = s.blobs := rfl
@[simp] theorem State.send_parcels (s : State) (x : Sent) : (s.send x).parcels = s.parcels := rfl
@[simp] theorem State.send_ctxs (s : State) (x : Sent) : (s.send x).ctxs = s.ctxs := rfl
@[simp] theorem State.send_cports (s : State) (x : Sent) : (s.send x).cports = s.cports := rfl
@[simp] theorem State.send_members (s : State) (x : Sent) : (s.send x).members = s.members := rfl
@[simp] theorem State.send_routes (s : State) (x : Sent) : (s.send x).routes = s.routes := rfl
@[simp] theorem State.send_lends (s : State) (x : Sent) : (s.send x).lends = s.lends := rfl
@[simp] theorem State.send_borrows (s : State) (x : Sent) : (s.send x).borrows = s.borrows := rfl
@[simp] theorem State.send_relocs (s : State) (x : Sent) : (s.send x).relocs = s.relocs := rfl
@[simp] theorem State.send_moves (s : State) (x : Sent) : (s.send x).moves = s.moves := rfl
@[simp] theorem State.send_custody (s : State) (x : Sent) : (s.send x).custody = s.custody := rfl
@[simp] theorem State.send_atlas (s : State) (x : Sent) : (s.send x).atlas = s.atlas := rfl
@[simp] theorem State.send_txns (s : State) (x : Sent) : (s.send x).txns = s.txns := rfl
@[simp] theorem State.send_uprobes (s : State) (x : Sent) : (s.send x).uprobes = s.uprobes := rfl
@[simp] theorem State.send_orders (s : State) (x : Sent) : (s.send x).orders = s.orders := rfl
@[simp] theorem State.send_echoes (s : State) (x : Sent) : (s.send x).echoes = s.echoes := rfl
@[simp] theorem State.send_series (s : State) (x : Sent) : (s.send x).series = s.series := rfl
@[simp] theorem State.send_out (s : State) (x : Sent) : (s.send x).out = s.out := rfl
@[simp] theorem State.send_ans (s : State) (x : Sent) : (s.send x).ans = s.ans := rfl
@[simp] theorem State.send_increments (s : State) (x : Sent) : (s.send x).increments = s.increments := rfl
@[simp] theorem State.send_chans (s : State) (x : Sent) : (s.send x).chans = s.chans := rfl
@[simp] theorem State.send_stackTable (s : State) (x : Sent) : (s.send x).stackTable = s.stackTable := rfl
@[simp] theorem State.send_pass (s : State) (x : Sent) : (s.send x).pass = s.pass := rfl
@[simp] theorem State.send_ports (s : State) (x : Sent) : (s.send x).ports = s.ports := rfl
@[simp] theorem State.send_sluice (s : State) (x : Sent) : (s.send x).sluice = s.sluice := rfl
@[simp] theorem State.send_thoit (s : State) (x : Sent) : (s.send x).thoit = s.thoit := rfl
@[simp] theorem State.send_dies (s : State) (x : Sent) : (s.send x).dies = s.dies := rfl
@[simp] theorem State.send_qps (s : State) (x : Sent) : (s.send x).qps = s.qps := rfl
@[simp] theorem State.send_jets (s : State) (x : Sent) : (s.send x).jets = s.jets := rfl
@[simp] theorem State.send_tasks (s : State) (x : Sent) : (s.send x).tasks = s.tasks := rfl
@[simp] theorem State.send_tables (s : State) (x : Sent) : (s.send x).tables = s.tables := rfl
@[simp] theorem State.send_indexes (s : State) (x : Sent) : (s.send x).indexes = s.indexes := rfl
@[simp] theorem State.send_drains (s : State) (x : Sent) : (s.send x).drains = s.drains := rfl
@[simp] theorem State.send_power (s : State) (x : Sent) : (s.send x).power = s.power := rfl
@[simp] theorem State.send_sec (s : State) (x : Sent) : (s.send x).sec = s.sec := rfl
@[simp] theorem State.send_boot (s : State) (x : Sent) : (s.send x).boot = s.boot := rfl
@[simp] theorem State.send_mgmt (s : State) (x : Sent) : (s.send x).mgmt = s.mgmt := rfl
@[simp] theorem State.send_tele (s : State) (x : Sent) : (s.send x).tele = s.tele := rfl
@[simp] theorem State.send_running (s : State) (x : Sent) : (s.send x).running = s.running := rfl
@[simp] theorem State.send_walked (s : State) (x : Sent) : (s.send x).walked = s.walked := rfl

/-! ### setBad -/

@[simp] theorem State.setBad_now (s : State) (n : Nat) (w : BitVec 16) : (s.setBad n w).now = s.now := rfl
@[simp] theorem State.setBad_benchBase (s : State) (n : Nat) (w : BitVec 16) : (s.setBad n w).benchBase = s.benchBase := rfl
@[simp] theorem State.setBad_free (s : State) (n : Nat) (w : BitVec 16) : (s.setBad n w).free = s.free := rfl
@[simp] theorem State.setBad_pending (s : State) (n : Nat) (w : BitVec 16) : (s.setBad n w).pending = s.pending := rfl
@[simp] theorem State.setBad_parityLines (s : State) (n : Nat) (w : BitVec 16) : (s.setBad n w).parityLines = s.parityLines := rfl
@[simp] theorem State.setBad_steps (s : State) (n : Nat) (w : BitVec 16) : (s.setBad n w).steps = s.steps := rfl
@[simp] theorem State.setBad_ring (s : State) (n : Nat) (w : BitVec 16) : (s.setBad n w).ring = s.ring := rfl
@[simp] theorem State.setBad_inval (s : State) (n : Nat) (w : BitVec 16) : (s.setBad n w).inval = s.inval := rfl
@[simp] theorem State.setBad_storeIO (s : State) (n : Nat) (w : BitVec 16) : (s.setBad n w).storeIO = s.storeIO := rfl
@[simp] theorem State.setBad_storeReads (s : State) (n : Nat) (w : BitVec 16) : (s.setBad n w).storeReads = s.storeReads := rfl
@[simp] theorem State.setBad_lostFreed (s : State) (n : Nat) (w : BitVec 16) : (s.setBad n w).lostFreed = s.lostFreed := rfl
@[simp] theorem State.setBad_regs (s : State) (n : Nat) (w : BitVec 16) : (s.setBad n w).regs = s.regs := rfl
@[simp] theorem State.setBad_mem (s : State) (n : Nat) (w : BitVec 16) : (s.setBad n w).mem = s.mem := rfl
@[simp] theorem State.setBad_acts (s : State) (n : Nat) (w : BitVec 16) : (s.setBad n w).acts = s.acts := rfl
@[simp] theorem State.setBad_oldPieces (s : State) (n : Nat) (w : BitVec 16) : (s.setBad n w).oldPieces = s.oldPieces := rfl
@[simp] theorem State.setBad_parity (s : State) (n : Nat) (w : BitVec 16) : (s.setBad n w).parity = s.parity := rfl
@[simp] theorem State.setBad_gz (s : State) (n : Nat) (w : BitVec 16) : (s.setBad n w).gz = s.gz := rfl
@[simp] theorem State.setBad_blobs (s : State) (n : Nat) (w : BitVec 16) : (s.setBad n w).blobs = s.blobs := rfl
@[simp] theorem State.setBad_parcels (s : State) (n : Nat) (w : BitVec 16) : (s.setBad n w).parcels = s.parcels := rfl
@[simp] theorem State.setBad_ctxs (s : State) (n : Nat) (w : BitVec 16) : (s.setBad n w).ctxs = s.ctxs := rfl
@[simp] theorem State.setBad_cports (s : State) (n : Nat) (w : BitVec 16) : (s.setBad n w).cports = s.cports := rfl
@[simp] theorem State.setBad_members (s : State) (n : Nat) (w : BitVec 16) : (s.setBad n w).members = s.members := rfl
@[simp] theorem State.setBad_routes (s : State) (n : Nat) (w : BitVec 16) : (s.setBad n w).routes = s.routes := rfl
@[simp] theorem State.setBad_lends (s : State) (n : Nat) (w : BitVec 16) : (s.setBad n w).lends = s.lends := rfl
@[simp] theorem State.setBad_borrows (s : State) (n : Nat) (w : BitVec 16) : (s.setBad n w).borrows = s.borrows := rfl
@[simp] theorem State.setBad_relocs (s : State) (n : Nat) (w : BitVec 16) : (s.setBad n w).relocs = s.relocs := rfl
@[simp] theorem State.setBad_moves (s : State) (n : Nat) (w : BitVec 16) : (s.setBad n w).moves = s.moves := rfl
@[simp] theorem State.setBad_custody (s : State) (n : Nat) (w : BitVec 16) : (s.setBad n w).custody = s.custody := rfl
@[simp] theorem State.setBad_atlas (s : State) (n : Nat) (w : BitVec 16) : (s.setBad n w).atlas = s.atlas := rfl
@[simp] theorem State.setBad_txns (s : State) (n : Nat) (w : BitVec 16) : (s.setBad n w).txns = s.txns := rfl
@[simp] theorem State.setBad_uprobes (s : State) (n : Nat) (w : BitVec 16) : (s.setBad n w).uprobes = s.uprobes := rfl
@[simp] theorem State.setBad_orders (s : State) (n : Nat) (w : BitVec 16) : (s.setBad n w).orders = s.orders := rfl
@[simp] theorem State.setBad_echoes (s : State) (n : Nat) (w : BitVec 16) : (s.setBad n w).echoes = s.echoes := rfl
@[simp] theorem State.setBad_series (s : State) (n : Nat) (w : BitVec 16) : (s.setBad n w).series = s.series := rfl
@[simp] theorem State.setBad_out (s : State) (n : Nat) (w : BitVec 16) : (s.setBad n w).out = s.out := rfl
@[simp] theorem State.setBad_ans (s : State) (n : Nat) (w : BitVec 16) : (s.setBad n w).ans = s.ans := rfl
@[simp] theorem State.setBad_increments (s : State) (n : Nat) (w : BitVec 16) : (s.setBad n w).increments = s.increments := rfl
@[simp] theorem State.setBad_chans (s : State) (n : Nat) (w : BitVec 16) : (s.setBad n w).chans = s.chans := rfl
@[simp] theorem State.setBad_stackTable (s : State) (n : Nat) (w : BitVec 16) : (s.setBad n w).stackTable = s.stackTable := rfl
@[simp] theorem State.setBad_pass (s : State) (n : Nat) (w : BitVec 16) : (s.setBad n w).pass = s.pass := rfl
@[simp] theorem State.setBad_ports (s : State) (n : Nat) (w : BitVec 16) : (s.setBad n w).ports = s.ports := rfl
@[simp] theorem State.setBad_sluice (s : State) (n : Nat) (w : BitVec 16) : (s.setBad n w).sluice = s.sluice := rfl
@[simp] theorem State.setBad_thoit (s : State) (n : Nat) (w : BitVec 16) : (s.setBad n w).thoit = s.thoit := rfl
@[simp] theorem State.setBad_dies (s : State) (n : Nat) (w : BitVec 16) : (s.setBad n w).dies = s.dies := rfl
@[simp] theorem State.setBad_qps (s : State) (n : Nat) (w : BitVec 16) : (s.setBad n w).qps = s.qps := rfl
@[simp] theorem State.setBad_jets (s : State) (n : Nat) (w : BitVec 16) : (s.setBad n w).jets = s.jets := rfl
@[simp] theorem State.setBad_tasks (s : State) (n : Nat) (w : BitVec 16) : (s.setBad n w).tasks = s.tasks := rfl
@[simp] theorem State.setBad_tables (s : State) (n : Nat) (w : BitVec 16) : (s.setBad n w).tables = s.tables := rfl
@[simp] theorem State.setBad_indexes (s : State) (n : Nat) (w : BitVec 16) : (s.setBad n w).indexes = s.indexes := rfl
@[simp] theorem State.setBad_drains (s : State) (n : Nat) (w : BitVec 16) : (s.setBad n w).drains = s.drains := rfl
@[simp] theorem State.setBad_power (s : State) (n : Nat) (w : BitVec 16) : (s.setBad n w).power = s.power := rfl
@[simp] theorem State.setBad_sec (s : State) (n : Nat) (w : BitVec 16) : (s.setBad n w).sec = s.sec := rfl
@[simp] theorem State.setBad_boot (s : State) (n : Nat) (w : BitVec 16) : (s.setBad n w).boot = s.boot := rfl
@[simp] theorem State.setBad_mgmt (s : State) (n : Nat) (w : BitVec 16) : (s.setBad n w).mgmt = s.mgmt := rfl
@[simp] theorem State.setBad_tele (s : State) (n : Nat) (w : BitVec 16) : (s.setBad n w).tele = s.tele := rfl
@[simp] theorem State.setBad_running (s : State) (n : Nat) (w : BitVec 16) : (s.setBad n w).running = s.running := rfl
@[simp] theorem State.setBad_walked (s : State) (n : Nat) (w : BitVec 16) : (s.setBad n w).walked = s.walked := rfl
@[simp] theorem State.setBad_wire (s : State) (n : Nat) (w : BitVec 16) : (s.setBad n w).wire = s.wire := rfl

/-! ### setDie -/

@[simp] theorem State.setDie_now (s : State) (d : Nat) (x : Die) : (s.setDie d x).now = s.now := rfl
@[simp] theorem State.setDie_benchBase (s : State) (d : Nat) (x : Die) : (s.setDie d x).benchBase = s.benchBase := rfl
@[simp] theorem State.setDie_free (s : State) (d : Nat) (x : Die) : (s.setDie d x).free = s.free := rfl
@[simp] theorem State.setDie_pending (s : State) (d : Nat) (x : Die) : (s.setDie d x).pending = s.pending := rfl
@[simp] theorem State.setDie_parityLines (s : State) (d : Nat) (x : Die) : (s.setDie d x).parityLines = s.parityLines := rfl
@[simp] theorem State.setDie_steps (s : State) (d : Nat) (x : Die) : (s.setDie d x).steps = s.steps := rfl
@[simp] theorem State.setDie_ring (s : State) (d : Nat) (x : Die) : (s.setDie d x).ring = s.ring := rfl
@[simp] theorem State.setDie_inval (s : State) (d : Nat) (x : Die) : (s.setDie d x).inval = s.inval := rfl
@[simp] theorem State.setDie_storeIO (s : State) (d : Nat) (x : Die) : (s.setDie d x).storeIO = s.storeIO := rfl
@[simp] theorem State.setDie_storeReads (s : State) (d : Nat) (x : Die) : (s.setDie d x).storeReads = s.storeReads := rfl
@[simp] theorem State.setDie_lostFreed (s : State) (d : Nat) (x : Die) : (s.setDie d x).lostFreed = s.lostFreed := rfl
@[simp] theorem State.setDie_regs (s : State) (d : Nat) (x : Die) : (s.setDie d x).regs = s.regs := rfl
@[simp] theorem State.setDie_mem (s : State) (d : Nat) (x : Die) : (s.setDie d x).mem = s.mem := rfl
@[simp] theorem State.setDie_bad (s : State) (d : Nat) (x : Die) : (s.setDie d x).bad = s.bad := rfl
@[simp] theorem State.setDie_acts (s : State) (d : Nat) (x : Die) : (s.setDie d x).acts = s.acts := rfl
@[simp] theorem State.setDie_oldPieces (s : State) (d : Nat) (x : Die) : (s.setDie d x).oldPieces = s.oldPieces := rfl
@[simp] theorem State.setDie_parity (s : State) (d : Nat) (x : Die) : (s.setDie d x).parity = s.parity := rfl
@[simp] theorem State.setDie_gz (s : State) (d : Nat) (x : Die) : (s.setDie d x).gz = s.gz := rfl
@[simp] theorem State.setDie_blobs (s : State) (d : Nat) (x : Die) : (s.setDie d x).blobs = s.blobs := rfl
@[simp] theorem State.setDie_parcels (s : State) (d : Nat) (x : Die) : (s.setDie d x).parcels = s.parcels := rfl
@[simp] theorem State.setDie_ctxs (s : State) (d : Nat) (x : Die) : (s.setDie d x).ctxs = s.ctxs := rfl
@[simp] theorem State.setDie_cports (s : State) (d : Nat) (x : Die) : (s.setDie d x).cports = s.cports := rfl
@[simp] theorem State.setDie_members (s : State) (d : Nat) (x : Die) : (s.setDie d x).members = s.members := rfl
@[simp] theorem State.setDie_routes (s : State) (d : Nat) (x : Die) : (s.setDie d x).routes = s.routes := rfl
@[simp] theorem State.setDie_lends (s : State) (d : Nat) (x : Die) : (s.setDie d x).lends = s.lends := rfl
@[simp] theorem State.setDie_borrows (s : State) (d : Nat) (x : Die) : (s.setDie d x).borrows = s.borrows := rfl
@[simp] theorem State.setDie_relocs (s : State) (d : Nat) (x : Die) : (s.setDie d x).relocs = s.relocs := rfl
@[simp] theorem State.setDie_moves (s : State) (d : Nat) (x : Die) : (s.setDie d x).moves = s.moves := rfl
@[simp] theorem State.setDie_custody (s : State) (d : Nat) (x : Die) : (s.setDie d x).custody = s.custody := rfl
@[simp] theorem State.setDie_atlas (s : State) (d : Nat) (x : Die) : (s.setDie d x).atlas = s.atlas := rfl
@[simp] theorem State.setDie_txns (s : State) (d : Nat) (x : Die) : (s.setDie d x).txns = s.txns := rfl
@[simp] theorem State.setDie_uprobes (s : State) (d : Nat) (x : Die) : (s.setDie d x).uprobes = s.uprobes := rfl
@[simp] theorem State.setDie_orders (s : State) (d : Nat) (x : Die) : (s.setDie d x).orders = s.orders := rfl
@[simp] theorem State.setDie_echoes (s : State) (d : Nat) (x : Die) : (s.setDie d x).echoes = s.echoes := rfl
@[simp] theorem State.setDie_series (s : State) (d : Nat) (x : Die) : (s.setDie d x).series = s.series := rfl
@[simp] theorem State.setDie_out (s : State) (d : Nat) (x : Die) : (s.setDie d x).out = s.out := rfl
@[simp] theorem State.setDie_ans (s : State) (d : Nat) (x : Die) : (s.setDie d x).ans = s.ans := rfl
@[simp] theorem State.setDie_increments (s : State) (d : Nat) (x : Die) : (s.setDie d x).increments = s.increments := rfl
@[simp] theorem State.setDie_chans (s : State) (d : Nat) (x : Die) : (s.setDie d x).chans = s.chans := rfl
@[simp] theorem State.setDie_stackTable (s : State) (d : Nat) (x : Die) : (s.setDie d x).stackTable = s.stackTable := rfl
@[simp] theorem State.setDie_pass (s : State) (d : Nat) (x : Die) : (s.setDie d x).pass = s.pass := rfl
@[simp] theorem State.setDie_ports (s : State) (d : Nat) (x : Die) : (s.setDie d x).ports = s.ports := rfl
@[simp] theorem State.setDie_sluice (s : State) (d : Nat) (x : Die) : (s.setDie d x).sluice = s.sluice := rfl
@[simp] theorem State.setDie_thoit (s : State) (d : Nat) (x : Die) : (s.setDie d x).thoit = s.thoit := rfl
@[simp] theorem State.setDie_qps (s : State) (d : Nat) (x : Die) : (s.setDie d x).qps = s.qps := rfl
@[simp] theorem State.setDie_jets (s : State) (d : Nat) (x : Die) : (s.setDie d x).jets = s.jets := rfl
@[simp] theorem State.setDie_tasks (s : State) (d : Nat) (x : Die) : (s.setDie d x).tasks = s.tasks := rfl
@[simp] theorem State.setDie_tables (s : State) (d : Nat) (x : Die) : (s.setDie d x).tables = s.tables := rfl
@[simp] theorem State.setDie_indexes (s : State) (d : Nat) (x : Die) : (s.setDie d x).indexes = s.indexes := rfl
@[simp] theorem State.setDie_drains (s : State) (d : Nat) (x : Die) : (s.setDie d x).drains = s.drains := rfl
@[simp] theorem State.setDie_power (s : State) (d : Nat) (x : Die) : (s.setDie d x).power = s.power := rfl
@[simp] theorem State.setDie_sec (s : State) (d : Nat) (x : Die) : (s.setDie d x).sec = s.sec := rfl
@[simp] theorem State.setDie_boot (s : State) (d : Nat) (x : Die) : (s.setDie d x).boot = s.boot := rfl
@[simp] theorem State.setDie_mgmt (s : State) (d : Nat) (x : Die) : (s.setDie d x).mgmt = s.mgmt := rfl
@[simp] theorem State.setDie_tele (s : State) (d : Nat) (x : Die) : (s.setDie d x).tele = s.tele := rfl
@[simp] theorem State.setDie_running (s : State) (d : Nat) (x : Die) : (s.setDie d x).running = s.running := rfl
@[simp] theorem State.setDie_walked (s : State) (d : Nat) (x : Die) : (s.setDie d x).walked = s.walked := rfl
@[simp] theorem State.setDie_wire (s : State) (d : Nat) (x : Die) : (s.setDie d x).wire = s.wire := rfl

@[simp] theorem State.die_setDie (s : State) (d : Nat) (x : Die) : (s.setDie d x).die d = x := mget_mput_self _ _ _ _
theorem State.die_setDie_ne (s : State) {d i : Nat} (x : Die) (h : i ≠ d) : (s.setDie d x).die i = s.die i := mget_mput_ne _ _ _ _ h

/-! ### setChan -/

@[simp] theorem State.setChan_now (s : State) (c : Nat) (x : Chan) : (s.setChan c x).now = s.now := rfl
@[simp] theorem State.setChan_benchBase (s : State) (c : Nat) (x : Chan) : (s.setChan c x).benchBase = s.benchBase := rfl
@[simp] theorem State.setChan_free (s : State) (c : Nat) (x : Chan) : (s.setChan c x).free = s.free := rfl
@[simp] theorem State.setChan_pending (s : State) (c : Nat) (x : Chan) : (s.setChan c x).pending = s.pending := rfl
@[simp] theorem State.setChan_parityLines (s : State) (c : Nat) (x : Chan) : (s.setChan c x).parityLines = s.parityLines := rfl
@[simp] theorem State.setChan_steps (s : State) (c : Nat) (x : Chan) : (s.setChan c x).steps = s.steps := rfl
@[simp] theorem State.setChan_ring (s : State) (c : Nat) (x : Chan) : (s.setChan c x).ring = s.ring := rfl
@[simp] theorem State.setChan_inval (s : State) (c : Nat) (x : Chan) : (s.setChan c x).inval = s.inval := rfl
@[simp] theorem State.setChan_storeIO (s : State) (c : Nat) (x : Chan) : (s.setChan c x).storeIO = s.storeIO := rfl
@[simp] theorem State.setChan_storeReads (s : State) (c : Nat) (x : Chan) : (s.setChan c x).storeReads = s.storeReads := rfl
@[simp] theorem State.setChan_lostFreed (s : State) (c : Nat) (x : Chan) : (s.setChan c x).lostFreed = s.lostFreed := rfl
@[simp] theorem State.setChan_regs (s : State) (c : Nat) (x : Chan) : (s.setChan c x).regs = s.regs := rfl
@[simp] theorem State.setChan_mem (s : State) (c : Nat) (x : Chan) : (s.setChan c x).mem = s.mem := rfl
@[simp] theorem State.setChan_bad (s : State) (c : Nat) (x : Chan) : (s.setChan c x).bad = s.bad := rfl
@[simp] theorem State.setChan_acts (s : State) (c : Nat) (x : Chan) : (s.setChan c x).acts = s.acts := rfl
@[simp] theorem State.setChan_oldPieces (s : State) (c : Nat) (x : Chan) : (s.setChan c x).oldPieces = s.oldPieces := rfl
@[simp] theorem State.setChan_parity (s : State) (c : Nat) (x : Chan) : (s.setChan c x).parity = s.parity := rfl
@[simp] theorem State.setChan_gz (s : State) (c : Nat) (x : Chan) : (s.setChan c x).gz = s.gz := rfl
@[simp] theorem State.setChan_blobs (s : State) (c : Nat) (x : Chan) : (s.setChan c x).blobs = s.blobs := rfl
@[simp] theorem State.setChan_parcels (s : State) (c : Nat) (x : Chan) : (s.setChan c x).parcels = s.parcels := rfl
@[simp] theorem State.setChan_ctxs (s : State) (c : Nat) (x : Chan) : (s.setChan c x).ctxs = s.ctxs := rfl
@[simp] theorem State.setChan_cports (s : State) (c : Nat) (x : Chan) : (s.setChan c x).cports = s.cports := rfl
@[simp] theorem State.setChan_members (s : State) (c : Nat) (x : Chan) : (s.setChan c x).members = s.members := rfl
@[simp] theorem State.setChan_routes (s : State) (c : Nat) (x : Chan) : (s.setChan c x).routes = s.routes := rfl
@[simp] theorem State.setChan_lends (s : State) (c : Nat) (x : Chan) : (s.setChan c x).lends = s.lends := rfl
@[simp] theorem State.setChan_borrows (s : State) (c : Nat) (x : Chan) : (s.setChan c x).borrows = s.borrows := rfl
@[simp] theorem State.setChan_relocs (s : State) (c : Nat) (x : Chan) : (s.setChan c x).relocs = s.relocs := rfl
@[simp] theorem State.setChan_moves (s : State) (c : Nat) (x : Chan) : (s.setChan c x).moves = s.moves := rfl
@[simp] theorem State.setChan_custody (s : State) (c : Nat) (x : Chan) : (s.setChan c x).custody = s.custody := rfl
@[simp] theorem State.setChan_atlas (s : State) (c : Nat) (x : Chan) : (s.setChan c x).atlas = s.atlas := rfl
@[simp] theorem State.setChan_txns (s : State) (c : Nat) (x : Chan) : (s.setChan c x).txns = s.txns := rfl
@[simp] theorem State.setChan_uprobes (s : State) (c : Nat) (x : Chan) : (s.setChan c x).uprobes = s.uprobes := rfl
@[simp] theorem State.setChan_orders (s : State) (c : Nat) (x : Chan) : (s.setChan c x).orders = s.orders := rfl
@[simp] theorem State.setChan_echoes (s : State) (c : Nat) (x : Chan) : (s.setChan c x).echoes = s.echoes := rfl
@[simp] theorem State.setChan_series (s : State) (c : Nat) (x : Chan) : (s.setChan c x).series = s.series := rfl
@[simp] theorem State.setChan_out (s : State) (c : Nat) (x : Chan) : (s.setChan c x).out = s.out := rfl
@[simp] theorem State.setChan_ans (s : State) (c : Nat) (x : Chan) : (s.setChan c x).ans = s.ans := rfl
@[simp] theorem State.setChan_increments (s : State) (c : Nat) (x : Chan) : (s.setChan c x).increments = s.increments := rfl
@[simp] theorem State.setChan_stackTable (s : State) (c : Nat) (x : Chan) : (s.setChan c x).stackTable = s.stackTable := rfl
@[simp] theorem State.setChan_pass (s : State) (c : Nat) (x : Chan) : (s.setChan c x).pass = s.pass := rfl
@[simp] theorem State.setChan_ports (s : State) (c : Nat) (x : Chan) : (s.setChan c x).ports = s.ports := rfl
@[simp] theorem State.setChan_sluice (s : State) (c : Nat) (x : Chan) : (s.setChan c x).sluice = s.sluice := rfl
@[simp] theorem State.setChan_thoit (s : State) (c : Nat) (x : Chan) : (s.setChan c x).thoit = s.thoit := rfl
@[simp] theorem State.setChan_dies (s : State) (c : Nat) (x : Chan) : (s.setChan c x).dies = s.dies := rfl
@[simp] theorem State.setChan_qps (s : State) (c : Nat) (x : Chan) : (s.setChan c x).qps = s.qps := rfl
@[simp] theorem State.setChan_jets (s : State) (c : Nat) (x : Chan) : (s.setChan c x).jets = s.jets := rfl
@[simp] theorem State.setChan_tasks (s : State) (c : Nat) (x : Chan) : (s.setChan c x).tasks = s.tasks := rfl
@[simp] theorem State.setChan_tables (s : State) (c : Nat) (x : Chan) : (s.setChan c x).tables = s.tables := rfl
@[simp] theorem State.setChan_indexes (s : State) (c : Nat) (x : Chan) : (s.setChan c x).indexes = s.indexes := rfl
@[simp] theorem State.setChan_drains (s : State) (c : Nat) (x : Chan) : (s.setChan c x).drains = s.drains := rfl
@[simp] theorem State.setChan_power (s : State) (c : Nat) (x : Chan) : (s.setChan c x).power = s.power := rfl
@[simp] theorem State.setChan_sec (s : State) (c : Nat) (x : Chan) : (s.setChan c x).sec = s.sec := rfl
@[simp] theorem State.setChan_boot (s : State) (c : Nat) (x : Chan) : (s.setChan c x).boot = s.boot := rfl
@[simp] theorem State.setChan_mgmt (s : State) (c : Nat) (x : Chan) : (s.setChan c x).mgmt = s.mgmt := rfl
@[simp] theorem State.setChan_tele (s : State) (c : Nat) (x : Chan) : (s.setChan c x).tele = s.tele := rfl
@[simp] theorem State.setChan_running (s : State) (c : Nat) (x : Chan) : (s.setChan c x).running = s.running := rfl
@[simp] theorem State.setChan_walked (s : State) (c : Nat) (x : Chan) : (s.setChan c x).walked = s.walked := rfl
@[simp] theorem State.setChan_wire (s : State) (c : Nat) (x : Chan) : (s.setChan c x).wire = s.wire := rfl

@[simp] theorem State.chan_setChan (s : State) (c : Nat) (x : Chan) : (s.setChan c x).chan c = x := mget_mput_self _ _ _ _
theorem State.chan_setChan_ne (s : State) {c i : Nat} (x : Chan) (h : i ≠ c) : (s.setChan c x).chan i = s.chan i := mget_mput_ne _ _ _ _ h

/-! ### setStack -/

@[simp] theorem State.setStack_now (s : State) (k : Nat) (x : Stack) : (s.setStack k x).now = s.now := rfl
@[simp] theorem State.setStack_benchBase (s : State) (k : Nat) (x : Stack) : (s.setStack k x).benchBase = s.benchBase := rfl
@[simp] theorem State.setStack_free (s : State) (k : Nat) (x : Stack) : (s.setStack k x).free = s.free := rfl
@[simp] theorem State.setStack_pending (s : State) (k : Nat) (x : Stack) : (s.setStack k x).pending = s.pending := rfl
@[simp] theorem State.setStack_parityLines (s : State) (k : Nat) (x : Stack) : (s.setStack k x).parityLines = s.parityLines := rfl
@[simp] theorem State.setStack_steps (s : State) (k : Nat) (x : Stack) : (s.setStack k x).steps = s.steps := rfl
@[simp] theorem State.setStack_ring (s : State) (k : Nat) (x : Stack) : (s.setStack k x).ring = s.ring := rfl
@[simp] theorem State.setStack_inval (s : State) (k : Nat) (x : Stack) : (s.setStack k x).inval = s.inval := rfl
@[simp] theorem State.setStack_storeIO (s : State) (k : Nat) (x : Stack) : (s.setStack k x).storeIO = s.storeIO := rfl
@[simp] theorem State.setStack_storeReads (s : State) (k : Nat) (x : Stack) : (s.setStack k x).storeReads = s.storeReads := rfl
@[simp] theorem State.setStack_lostFreed (s : State) (k : Nat) (x : Stack) : (s.setStack k x).lostFreed = s.lostFreed := rfl
@[simp] theorem State.setStack_regs (s : State) (k : Nat) (x : Stack) : (s.setStack k x).regs = s.regs := rfl
@[simp] theorem State.setStack_mem (s : State) (k : Nat) (x : Stack) : (s.setStack k x).mem = s.mem := rfl
@[simp] theorem State.setStack_bad (s : State) (k : Nat) (x : Stack) : (s.setStack k x).bad = s.bad := rfl
@[simp] theorem State.setStack_acts (s : State) (k : Nat) (x : Stack) : (s.setStack k x).acts = s.acts := rfl
@[simp] theorem State.setStack_oldPieces (s : State) (k : Nat) (x : Stack) : (s.setStack k x).oldPieces = s.oldPieces := rfl
@[simp] theorem State.setStack_parity (s : State) (k : Nat) (x : Stack) : (s.setStack k x).parity = s.parity := rfl
@[simp] theorem State.setStack_gz (s : State) (k : Nat) (x : Stack) : (s.setStack k x).gz = s.gz := rfl
@[simp] theorem State.setStack_blobs (s : State) (k : Nat) (x : Stack) : (s.setStack k x).blobs = s.blobs := rfl
@[simp] theorem State.setStack_parcels (s : State) (k : Nat) (x : Stack) : (s.setStack k x).parcels = s.parcels := rfl
@[simp] theorem State.setStack_ctxs (s : State) (k : Nat) (x : Stack) : (s.setStack k x).ctxs = s.ctxs := rfl
@[simp] theorem State.setStack_cports (s : State) (k : Nat) (x : Stack) : (s.setStack k x).cports = s.cports := rfl
@[simp] theorem State.setStack_members (s : State) (k : Nat) (x : Stack) : (s.setStack k x).members = s.members := rfl
@[simp] theorem State.setStack_routes (s : State) (k : Nat) (x : Stack) : (s.setStack k x).routes = s.routes := rfl
@[simp] theorem State.setStack_lends (s : State) (k : Nat) (x : Stack) : (s.setStack k x).lends = s.lends := rfl
@[simp] theorem State.setStack_borrows (s : State) (k : Nat) (x : Stack) : (s.setStack k x).borrows = s.borrows := rfl
@[simp] theorem State.setStack_relocs (s : State) (k : Nat) (x : Stack) : (s.setStack k x).relocs = s.relocs := rfl
@[simp] theorem State.setStack_moves (s : State) (k : Nat) (x : Stack) : (s.setStack k x).moves = s.moves := rfl
@[simp] theorem State.setStack_custody (s : State) (k : Nat) (x : Stack) : (s.setStack k x).custody = s.custody := rfl
@[simp] theorem State.setStack_atlas (s : State) (k : Nat) (x : Stack) : (s.setStack k x).atlas = s.atlas := rfl
@[simp] theorem State.setStack_txns (s : State) (k : Nat) (x : Stack) : (s.setStack k x).txns = s.txns := rfl
@[simp] theorem State.setStack_uprobes (s : State) (k : Nat) (x : Stack) : (s.setStack k x).uprobes = s.uprobes := rfl
@[simp] theorem State.setStack_orders (s : State) (k : Nat) (x : Stack) : (s.setStack k x).orders = s.orders := rfl
@[simp] theorem State.setStack_echoes (s : State) (k : Nat) (x : Stack) : (s.setStack k x).echoes = s.echoes := rfl
@[simp] theorem State.setStack_series (s : State) (k : Nat) (x : Stack) : (s.setStack k x).series = s.series := rfl
@[simp] theorem State.setStack_out (s : State) (k : Nat) (x : Stack) : (s.setStack k x).out = s.out := rfl
@[simp] theorem State.setStack_ans (s : State) (k : Nat) (x : Stack) : (s.setStack k x).ans = s.ans := rfl
@[simp] theorem State.setStack_increments (s : State) (k : Nat) (x : Stack) : (s.setStack k x).increments = s.increments := rfl
@[simp] theorem State.setStack_chans (s : State) (k : Nat) (x : Stack) : (s.setStack k x).chans = s.chans := rfl
@[simp] theorem State.setStack_pass (s : State) (k : Nat) (x : Stack) : (s.setStack k x).pass = s.pass := rfl
@[simp] theorem State.setStack_ports (s : State) (k : Nat) (x : Stack) : (s.setStack k x).ports = s.ports := rfl
@[simp] theorem State.setStack_sluice (s : State) (k : Nat) (x : Stack) : (s.setStack k x).sluice = s.sluice := rfl
@[simp] theorem State.setStack_thoit (s : State) (k : Nat) (x : Stack) : (s.setStack k x).thoit = s.thoit := rfl
@[simp] theorem State.setStack_dies (s : State) (k : Nat) (x : Stack) : (s.setStack k x).dies = s.dies := rfl
@[simp] theorem State.setStack_qps (s : State) (k : Nat) (x : Stack) : (s.setStack k x).qps = s.qps := rfl
@[simp] theorem State.setStack_jets (s : State) (k : Nat) (x : Stack) : (s.setStack k x).jets = s.jets := rfl
@[simp] theorem State.setStack_tasks (s : State) (k : Nat) (x : Stack) : (s.setStack k x).tasks = s.tasks := rfl
@[simp] theorem State.setStack_tables (s : State) (k : Nat) (x : Stack) : (s.setStack k x).tables = s.tables := rfl
@[simp] theorem State.setStack_indexes (s : State) (k : Nat) (x : Stack) : (s.setStack k x).indexes = s.indexes := rfl
@[simp] theorem State.setStack_drains (s : State) (k : Nat) (x : Stack) : (s.setStack k x).drains = s.drains := rfl
@[simp] theorem State.setStack_power (s : State) (k : Nat) (x : Stack) : (s.setStack k x).power = s.power := rfl
@[simp] theorem State.setStack_sec (s : State) (k : Nat) (x : Stack) : (s.setStack k x).sec = s.sec := rfl
@[simp] theorem State.setStack_boot (s : State) (k : Nat) (x : Stack) : (s.setStack k x).boot = s.boot := rfl
@[simp] theorem State.setStack_mgmt (s : State) (k : Nat) (x : Stack) : (s.setStack k x).mgmt = s.mgmt := rfl
@[simp] theorem State.setStack_tele (s : State) (k : Nat) (x : Stack) : (s.setStack k x).tele = s.tele := rfl
@[simp] theorem State.setStack_running (s : State) (k : Nat) (x : Stack) : (s.setStack k x).running = s.running := rfl
@[simp] theorem State.setStack_walked (s : State) (k : Nat) (x : Stack) : (s.setStack k x).walked = s.walked := rfl
@[simp] theorem State.setStack_wire (s : State) (k : Nat) (x : Stack) : (s.setStack k x).wire = s.wire := rfl

@[simp] theorem State.stack_setStack (s : State) (k : Nat) (x : Stack) : (s.setStack k x).stack k = x := mget_mput_self _ _ _ _
theorem State.stack_setStack_ne (s : State) {k i : Nat} (x : Stack) (h : i ≠ k) : (s.setStack k x).stack i = s.stack i := mget_mput_ne _ _ _ _ h

/-! ### setPort -/

@[simp] theorem State.setPort_now (s : State) (p : Nat) (x : Port) : (s.setPort p x).now = s.now := rfl
@[simp] theorem State.setPort_benchBase (s : State) (p : Nat) (x : Port) : (s.setPort p x).benchBase = s.benchBase := rfl
@[simp] theorem State.setPort_free (s : State) (p : Nat) (x : Port) : (s.setPort p x).free = s.free := rfl
@[simp] theorem State.setPort_pending (s : State) (p : Nat) (x : Port) : (s.setPort p x).pending = s.pending := rfl
@[simp] theorem State.setPort_parityLines (s : State) (p : Nat) (x : Port) : (s.setPort p x).parityLines = s.parityLines := rfl
@[simp] theorem State.setPort_steps (s : State) (p : Nat) (x : Port) : (s.setPort p x).steps = s.steps := rfl
@[simp] theorem State.setPort_ring (s : State) (p : Nat) (x : Port) : (s.setPort p x).ring = s.ring := rfl
@[simp] theorem State.setPort_inval (s : State) (p : Nat) (x : Port) : (s.setPort p x).inval = s.inval := rfl
@[simp] theorem State.setPort_storeIO (s : State) (p : Nat) (x : Port) : (s.setPort p x).storeIO = s.storeIO := rfl
@[simp] theorem State.setPort_storeReads (s : State) (p : Nat) (x : Port) : (s.setPort p x).storeReads = s.storeReads := rfl
@[simp] theorem State.setPort_lostFreed (s : State) (p : Nat) (x : Port) : (s.setPort p x).lostFreed = s.lostFreed := rfl
@[simp] theorem State.setPort_regs (s : State) (p : Nat) (x : Port) : (s.setPort p x).regs = s.regs := rfl
@[simp] theorem State.setPort_mem (s : State) (p : Nat) (x : Port) : (s.setPort p x).mem = s.mem := rfl
@[simp] theorem State.setPort_bad (s : State) (p : Nat) (x : Port) : (s.setPort p x).bad = s.bad := rfl
@[simp] theorem State.setPort_acts (s : State) (p : Nat) (x : Port) : (s.setPort p x).acts = s.acts := rfl
@[simp] theorem State.setPort_oldPieces (s : State) (p : Nat) (x : Port) : (s.setPort p x).oldPieces = s.oldPieces := rfl
@[simp] theorem State.setPort_parity (s : State) (p : Nat) (x : Port) : (s.setPort p x).parity = s.parity := rfl
@[simp] theorem State.setPort_gz (s : State) (p : Nat) (x : Port) : (s.setPort p x).gz = s.gz := rfl
@[simp] theorem State.setPort_blobs (s : State) (p : Nat) (x : Port) : (s.setPort p x).blobs = s.blobs := rfl
@[simp] theorem State.setPort_parcels (s : State) (p : Nat) (x : Port) : (s.setPort p x).parcels = s.parcels := rfl
@[simp] theorem State.setPort_ctxs (s : State) (p : Nat) (x : Port) : (s.setPort p x).ctxs = s.ctxs := rfl
@[simp] theorem State.setPort_cports (s : State) (p : Nat) (x : Port) : (s.setPort p x).cports = s.cports := rfl
@[simp] theorem State.setPort_members (s : State) (p : Nat) (x : Port) : (s.setPort p x).members = s.members := rfl
@[simp] theorem State.setPort_routes (s : State) (p : Nat) (x : Port) : (s.setPort p x).routes = s.routes := rfl
@[simp] theorem State.setPort_lends (s : State) (p : Nat) (x : Port) : (s.setPort p x).lends = s.lends := rfl
@[simp] theorem State.setPort_borrows (s : State) (p : Nat) (x : Port) : (s.setPort p x).borrows = s.borrows := rfl
@[simp] theorem State.setPort_relocs (s : State) (p : Nat) (x : Port) : (s.setPort p x).relocs = s.relocs := rfl
@[simp] theorem State.setPort_moves (s : State) (p : Nat) (x : Port) : (s.setPort p x).moves = s.moves := rfl
@[simp] theorem State.setPort_custody (s : State) (p : Nat) (x : Port) : (s.setPort p x).custody = s.custody := rfl
@[simp] theorem State.setPort_atlas (s : State) (p : Nat) (x : Port) : (s.setPort p x).atlas = s.atlas := rfl
@[simp] theorem State.setPort_txns (s : State) (p : Nat) (x : Port) : (s.setPort p x).txns = s.txns := rfl
@[simp] theorem State.setPort_uprobes (s : State) (p : Nat) (x : Port) : (s.setPort p x).uprobes = s.uprobes := rfl
@[simp] theorem State.setPort_orders (s : State) (p : Nat) (x : Port) : (s.setPort p x).orders = s.orders := rfl
@[simp] theorem State.setPort_echoes (s : State) (p : Nat) (x : Port) : (s.setPort p x).echoes = s.echoes := rfl
@[simp] theorem State.setPort_series (s : State) (p : Nat) (x : Port) : (s.setPort p x).series = s.series := rfl
@[simp] theorem State.setPort_out (s : State) (p : Nat) (x : Port) : (s.setPort p x).out = s.out := rfl
@[simp] theorem State.setPort_ans (s : State) (p : Nat) (x : Port) : (s.setPort p x).ans = s.ans := rfl
@[simp] theorem State.setPort_increments (s : State) (p : Nat) (x : Port) : (s.setPort p x).increments = s.increments := rfl
@[simp] theorem State.setPort_chans (s : State) (p : Nat) (x : Port) : (s.setPort p x).chans = s.chans := rfl
@[simp] theorem State.setPort_stackTable (s : State) (p : Nat) (x : Port) : (s.setPort p x).stackTable = s.stackTable := rfl
@[simp] theorem State.setPort_pass (s : State) (p : Nat) (x : Port) : (s.setPort p x).pass = s.pass := rfl
@[simp] theorem State.setPort_sluice (s : State) (p : Nat) (x : Port) : (s.setPort p x).sluice = s.sluice := rfl
@[simp] theorem State.setPort_thoit (s : State) (p : Nat) (x : Port) : (s.setPort p x).thoit = s.thoit := rfl
@[simp] theorem State.setPort_dies (s : State) (p : Nat) (x : Port) : (s.setPort p x).dies = s.dies := rfl
@[simp] theorem State.setPort_qps (s : State) (p : Nat) (x : Port) : (s.setPort p x).qps = s.qps := rfl
@[simp] theorem State.setPort_jets (s : State) (p : Nat) (x : Port) : (s.setPort p x).jets = s.jets := rfl
@[simp] theorem State.setPort_tasks (s : State) (p : Nat) (x : Port) : (s.setPort p x).tasks = s.tasks := rfl
@[simp] theorem State.setPort_tables (s : State) (p : Nat) (x : Port) : (s.setPort p x).tables = s.tables := rfl
@[simp] theorem State.setPort_indexes (s : State) (p : Nat) (x : Port) : (s.setPort p x).indexes = s.indexes := rfl
@[simp] theorem State.setPort_drains (s : State) (p : Nat) (x : Port) : (s.setPort p x).drains = s.drains := rfl
@[simp] theorem State.setPort_power (s : State) (p : Nat) (x : Port) : (s.setPort p x).power = s.power := rfl
@[simp] theorem State.setPort_sec (s : State) (p : Nat) (x : Port) : (s.setPort p x).sec = s.sec := rfl
@[simp] theorem State.setPort_boot (s : State) (p : Nat) (x : Port) : (s.setPort p x).boot = s.boot := rfl
@[simp] theorem State.setPort_mgmt (s : State) (p : Nat) (x : Port) : (s.setPort p x).mgmt = s.mgmt := rfl
@[simp] theorem State.setPort_tele (s : State) (p : Nat) (x : Port) : (s.setPort p x).tele = s.tele := rfl
@[simp] theorem State.setPort_running (s : State) (p : Nat) (x : Port) : (s.setPort p x).running = s.running := rfl
@[simp] theorem State.setPort_walked (s : State) (p : Nat) (x : Port) : (s.setPort p x).walked = s.walked := rfl
@[simp] theorem State.setPort_wire (s : State) (p : Nat) (x : Port) : (s.setPort p x).wire = s.wire := rfl

@[simp] theorem State.port_setPort (s : State) (p : Nat) (x : Port) : (s.setPort p x).port p = x := mget_mput_self _ _ _ _
theorem State.port_setPort_ne (s : State) {p i : Nat} (x : Port) (h : i ≠ p) : (s.setPort p x).port i = s.port i := mget_mput_ne _ _ _ _ h

/-! ### setJet -/

@[simp] theorem State.setJet_now (s : State) (j : Nat) (x : Jet) : (s.setJet j x).now = s.now := rfl
@[simp] theorem State.setJet_benchBase (s : State) (j : Nat) (x : Jet) : (s.setJet j x).benchBase = s.benchBase := rfl
@[simp] theorem State.setJet_free (s : State) (j : Nat) (x : Jet) : (s.setJet j x).free = s.free := rfl
@[simp] theorem State.setJet_pending (s : State) (j : Nat) (x : Jet) : (s.setJet j x).pending = s.pending := rfl
@[simp] theorem State.setJet_parityLines (s : State) (j : Nat) (x : Jet) : (s.setJet j x).parityLines = s.parityLines := rfl
@[simp] theorem State.setJet_steps (s : State) (j : Nat) (x : Jet) : (s.setJet j x).steps = s.steps := rfl
@[simp] theorem State.setJet_ring (s : State) (j : Nat) (x : Jet) : (s.setJet j x).ring = s.ring := rfl
@[simp] theorem State.setJet_inval (s : State) (j : Nat) (x : Jet) : (s.setJet j x).inval = s.inval := rfl
@[simp] theorem State.setJet_storeIO (s : State) (j : Nat) (x : Jet) : (s.setJet j x).storeIO = s.storeIO := rfl
@[simp] theorem State.setJet_storeReads (s : State) (j : Nat) (x : Jet) : (s.setJet j x).storeReads = s.storeReads := rfl
@[simp] theorem State.setJet_lostFreed (s : State) (j : Nat) (x : Jet) : (s.setJet j x).lostFreed = s.lostFreed := rfl
@[simp] theorem State.setJet_regs (s : State) (j : Nat) (x : Jet) : (s.setJet j x).regs = s.regs := rfl
@[simp] theorem State.setJet_mem (s : State) (j : Nat) (x : Jet) : (s.setJet j x).mem = s.mem := rfl
@[simp] theorem State.setJet_bad (s : State) (j : Nat) (x : Jet) : (s.setJet j x).bad = s.bad := rfl
@[simp] theorem State.setJet_acts (s : State) (j : Nat) (x : Jet) : (s.setJet j x).acts = s.acts := rfl
@[simp] theorem State.setJet_oldPieces (s : State) (j : Nat) (x : Jet) : (s.setJet j x).oldPieces = s.oldPieces := rfl
@[simp] theorem State.setJet_parity (s : State) (j : Nat) (x : Jet) : (s.setJet j x).parity = s.parity := rfl
@[simp] theorem State.setJet_gz (s : State) (j : Nat) (x : Jet) : (s.setJet j x).gz = s.gz := rfl
@[simp] theorem State.setJet_blobs (s : State) (j : Nat) (x : Jet) : (s.setJet j x).blobs = s.blobs := rfl
@[simp] theorem State.setJet_parcels (s : State) (j : Nat) (x : Jet) : (s.setJet j x).parcels = s.parcels := rfl
@[simp] theorem State.setJet_ctxs (s : State) (j : Nat) (x : Jet) : (s.setJet j x).ctxs = s.ctxs := rfl
@[simp] theorem State.setJet_cports (s : State) (j : Nat) (x : Jet) : (s.setJet j x).cports = s.cports := rfl
@[simp] theorem State.setJet_members (s : State) (j : Nat) (x : Jet) : (s.setJet j x).members = s.members := rfl
@[simp] theorem State.setJet_routes (s : State) (j : Nat) (x : Jet) : (s.setJet j x).routes = s.routes := rfl
@[simp] theorem State.setJet_lends (s : State) (j : Nat) (x : Jet) : (s.setJet j x).lends = s.lends := rfl
@[simp] theorem State.setJet_borrows (s : State) (j : Nat) (x : Jet) : (s.setJet j x).borrows = s.borrows := rfl
@[simp] theorem State.setJet_relocs (s : State) (j : Nat) (x : Jet) : (s.setJet j x).relocs = s.relocs := rfl
@[simp] theorem State.setJet_moves (s : State) (j : Nat) (x : Jet) : (s.setJet j x).moves = s.moves := rfl
@[simp] theorem State.setJet_custody (s : State) (j : Nat) (x : Jet) : (s.setJet j x).custody = s.custody := rfl
@[simp] theorem State.setJet_atlas (s : State) (j : Nat) (x : Jet) : (s.setJet j x).atlas = s.atlas := rfl
@[simp] theorem State.setJet_txns (s : State) (j : Nat) (x : Jet) : (s.setJet j x).txns = s.txns := rfl
@[simp] theorem State.setJet_uprobes (s : State) (j : Nat) (x : Jet) : (s.setJet j x).uprobes = s.uprobes := rfl
@[simp] theorem State.setJet_orders (s : State) (j : Nat) (x : Jet) : (s.setJet j x).orders = s.orders := rfl
@[simp] theorem State.setJet_echoes (s : State) (j : Nat) (x : Jet) : (s.setJet j x).echoes = s.echoes := rfl
@[simp] theorem State.setJet_series (s : State) (j : Nat) (x : Jet) : (s.setJet j x).series = s.series := rfl
@[simp] theorem State.setJet_out (s : State) (j : Nat) (x : Jet) : (s.setJet j x).out = s.out := rfl
@[simp] theorem State.setJet_ans (s : State) (j : Nat) (x : Jet) : (s.setJet j x).ans = s.ans := rfl
@[simp] theorem State.setJet_increments (s : State) (j : Nat) (x : Jet) : (s.setJet j x).increments = s.increments := rfl
@[simp] theorem State.setJet_chans (s : State) (j : Nat) (x : Jet) : (s.setJet j x).chans = s.chans := rfl
@[simp] theorem State.setJet_stackTable (s : State) (j : Nat) (x : Jet) : (s.setJet j x).stackTable = s.stackTable := rfl
@[simp] theorem State.setJet_pass (s : State) (j : Nat) (x : Jet) : (s.setJet j x).pass = s.pass := rfl
@[simp] theorem State.setJet_ports (s : State) (j : Nat) (x : Jet) : (s.setJet j x).ports = s.ports := rfl
@[simp] theorem State.setJet_sluice (s : State) (j : Nat) (x : Jet) : (s.setJet j x).sluice = s.sluice := rfl
@[simp] theorem State.setJet_thoit (s : State) (j : Nat) (x : Jet) : (s.setJet j x).thoit = s.thoit := rfl
@[simp] theorem State.setJet_dies (s : State) (j : Nat) (x : Jet) : (s.setJet j x).dies = s.dies := rfl
@[simp] theorem State.setJet_qps (s : State) (j : Nat) (x : Jet) : (s.setJet j x).qps = s.qps := rfl
@[simp] theorem State.setJet_tasks (s : State) (j : Nat) (x : Jet) : (s.setJet j x).tasks = s.tasks := rfl
@[simp] theorem State.setJet_tables (s : State) (j : Nat) (x : Jet) : (s.setJet j x).tables = s.tables := rfl
@[simp] theorem State.setJet_indexes (s : State) (j : Nat) (x : Jet) : (s.setJet j x).indexes = s.indexes := rfl
@[simp] theorem State.setJet_drains (s : State) (j : Nat) (x : Jet) : (s.setJet j x).drains = s.drains := rfl
@[simp] theorem State.setJet_power (s : State) (j : Nat) (x : Jet) : (s.setJet j x).power = s.power := rfl
@[simp] theorem State.setJet_sec (s : State) (j : Nat) (x : Jet) : (s.setJet j x).sec = s.sec := rfl
@[simp] theorem State.setJet_boot (s : State) (j : Nat) (x : Jet) : (s.setJet j x).boot = s.boot := rfl
@[simp] theorem State.setJet_mgmt (s : State) (j : Nat) (x : Jet) : (s.setJet j x).mgmt = s.mgmt := rfl
@[simp] theorem State.setJet_tele (s : State) (j : Nat) (x : Jet) : (s.setJet j x).tele = s.tele := rfl
@[simp] theorem State.setJet_running (s : State) (j : Nat) (x : Jet) : (s.setJet j x).running = s.running := rfl
@[simp] theorem State.setJet_walked (s : State) (j : Nat) (x : Jet) : (s.setJet j x).walked = s.walked := rfl
@[simp] theorem State.setJet_wire (s : State) (j : Nat) (x : Jet) : (s.setJet j x).wire = s.wire := rfl

@[simp] theorem State.jet_setJet (s : State) (j : Nat) (x : Jet) : (s.setJet j x).jet j = x := mget_mput_self _ _ _ _
theorem State.jet_setJet_ne (s : State) {j i : Nat} (x : Jet) (h : i ≠ j) : (s.setJet j x).jet i = s.jet i := mget_mput_ne _ _ _ _ h

/-! ### setParcel -/

@[simp] theorem State.setParcel_now (s : State) (p : Nat) (x : Parcel) : (s.setParcel p x).now = s.now := rfl
@[simp] theorem State.setParcel_benchBase (s : State) (p : Nat) (x : Parcel) : (s.setParcel p x).benchBase = s.benchBase := rfl
@[simp] theorem State.setParcel_free (s : State) (p : Nat) (x : Parcel) : (s.setParcel p x).free = s.free := rfl
@[simp] theorem State.setParcel_pending (s : State) (p : Nat) (x : Parcel) : (s.setParcel p x).pending = s.pending := rfl
@[simp] theorem State.setParcel_parityLines (s : State) (p : Nat) (x : Parcel) : (s.setParcel p x).parityLines = s.parityLines := rfl
@[simp] theorem State.setParcel_steps (s : State) (p : Nat) (x : Parcel) : (s.setParcel p x).steps = s.steps := rfl
@[simp] theorem State.setParcel_ring (s : State) (p : Nat) (x : Parcel) : (s.setParcel p x).ring = s.ring := rfl
@[simp] theorem State.setParcel_inval (s : State) (p : Nat) (x : Parcel) : (s.setParcel p x).inval = s.inval := rfl
@[simp] theorem State.setParcel_storeIO (s : State) (p : Nat) (x : Parcel) : (s.setParcel p x).storeIO = s.storeIO := rfl
@[simp] theorem State.setParcel_storeReads (s : State) (p : Nat) (x : Parcel) : (s.setParcel p x).storeReads = s.storeReads := rfl
@[simp] theorem State.setParcel_lostFreed (s : State) (p : Nat) (x : Parcel) : (s.setParcel p x).lostFreed = s.lostFreed := rfl
@[simp] theorem State.setParcel_regs (s : State) (p : Nat) (x : Parcel) : (s.setParcel p x).regs = s.regs := rfl
@[simp] theorem State.setParcel_mem (s : State) (p : Nat) (x : Parcel) : (s.setParcel p x).mem = s.mem := rfl
@[simp] theorem State.setParcel_bad (s : State) (p : Nat) (x : Parcel) : (s.setParcel p x).bad = s.bad := rfl
@[simp] theorem State.setParcel_acts (s : State) (p : Nat) (x : Parcel) : (s.setParcel p x).acts = s.acts := rfl
@[simp] theorem State.setParcel_oldPieces (s : State) (p : Nat) (x : Parcel) : (s.setParcel p x).oldPieces = s.oldPieces := rfl
@[simp] theorem State.setParcel_parity (s : State) (p : Nat) (x : Parcel) : (s.setParcel p x).parity = s.parity := rfl
@[simp] theorem State.setParcel_gz (s : State) (p : Nat) (x : Parcel) : (s.setParcel p x).gz = s.gz := rfl
@[simp] theorem State.setParcel_blobs (s : State) (p : Nat) (x : Parcel) : (s.setParcel p x).blobs = s.blobs := rfl
@[simp] theorem State.setParcel_ctxs (s : State) (p : Nat) (x : Parcel) : (s.setParcel p x).ctxs = s.ctxs := rfl
@[simp] theorem State.setParcel_cports (s : State) (p : Nat) (x : Parcel) : (s.setParcel p x).cports = s.cports := rfl
@[simp] theorem State.setParcel_members (s : State) (p : Nat) (x : Parcel) : (s.setParcel p x).members = s.members := rfl
@[simp] theorem State.setParcel_routes (s : State) (p : Nat) (x : Parcel) : (s.setParcel p x).routes = s.routes := rfl
@[simp] theorem State.setParcel_lends (s : State) (p : Nat) (x : Parcel) : (s.setParcel p x).lends = s.lends := rfl
@[simp] theorem State.setParcel_borrows (s : State) (p : Nat) (x : Parcel) : (s.setParcel p x).borrows = s.borrows := rfl
@[simp] theorem State.setParcel_relocs (s : State) (p : Nat) (x : Parcel) : (s.setParcel p x).relocs = s.relocs := rfl
@[simp] theorem State.setParcel_moves (s : State) (p : Nat) (x : Parcel) : (s.setParcel p x).moves = s.moves := rfl
@[simp] theorem State.setParcel_custody (s : State) (p : Nat) (x : Parcel) : (s.setParcel p x).custody = s.custody := rfl
@[simp] theorem State.setParcel_atlas (s : State) (p : Nat) (x : Parcel) : (s.setParcel p x).atlas = s.atlas := rfl
@[simp] theorem State.setParcel_txns (s : State) (p : Nat) (x : Parcel) : (s.setParcel p x).txns = s.txns := rfl
@[simp] theorem State.setParcel_uprobes (s : State) (p : Nat) (x : Parcel) : (s.setParcel p x).uprobes = s.uprobes := rfl
@[simp] theorem State.setParcel_orders (s : State) (p : Nat) (x : Parcel) : (s.setParcel p x).orders = s.orders := rfl
@[simp] theorem State.setParcel_echoes (s : State) (p : Nat) (x : Parcel) : (s.setParcel p x).echoes = s.echoes := rfl
@[simp] theorem State.setParcel_series (s : State) (p : Nat) (x : Parcel) : (s.setParcel p x).series = s.series := rfl
@[simp] theorem State.setParcel_out (s : State) (p : Nat) (x : Parcel) : (s.setParcel p x).out = s.out := rfl
@[simp] theorem State.setParcel_ans (s : State) (p : Nat) (x : Parcel) : (s.setParcel p x).ans = s.ans := rfl
@[simp] theorem State.setParcel_increments (s : State) (p : Nat) (x : Parcel) : (s.setParcel p x).increments = s.increments := rfl
@[simp] theorem State.setParcel_chans (s : State) (p : Nat) (x : Parcel) : (s.setParcel p x).chans = s.chans := rfl
@[simp] theorem State.setParcel_stackTable (s : State) (p : Nat) (x : Parcel) : (s.setParcel p x).stackTable = s.stackTable := rfl
@[simp] theorem State.setParcel_pass (s : State) (p : Nat) (x : Parcel) : (s.setParcel p x).pass = s.pass := rfl
@[simp] theorem State.setParcel_ports (s : State) (p : Nat) (x : Parcel) : (s.setParcel p x).ports = s.ports := rfl
@[simp] theorem State.setParcel_sluice (s : State) (p : Nat) (x : Parcel) : (s.setParcel p x).sluice = s.sluice := rfl
@[simp] theorem State.setParcel_thoit (s : State) (p : Nat) (x : Parcel) : (s.setParcel p x).thoit = s.thoit := rfl
@[simp] theorem State.setParcel_dies (s : State) (p : Nat) (x : Parcel) : (s.setParcel p x).dies = s.dies := rfl
@[simp] theorem State.setParcel_qps (s : State) (p : Nat) (x : Parcel) : (s.setParcel p x).qps = s.qps := rfl
@[simp] theorem State.setParcel_jets (s : State) (p : Nat) (x : Parcel) : (s.setParcel p x).jets = s.jets := rfl
@[simp] theorem State.setParcel_tasks (s : State) (p : Nat) (x : Parcel) : (s.setParcel p x).tasks = s.tasks := rfl
@[simp] theorem State.setParcel_tables (s : State) (p : Nat) (x : Parcel) : (s.setParcel p x).tables = s.tables := rfl
@[simp] theorem State.setParcel_indexes (s : State) (p : Nat) (x : Parcel) : (s.setParcel p x).indexes = s.indexes := rfl
@[simp] theorem State.setParcel_drains (s : State) (p : Nat) (x : Parcel) : (s.setParcel p x).drains = s.drains := rfl
@[simp] theorem State.setParcel_power (s : State) (p : Nat) (x : Parcel) : (s.setParcel p x).power = s.power := rfl
@[simp] theorem State.setParcel_sec (s : State) (p : Nat) (x : Parcel) : (s.setParcel p x).sec = s.sec := rfl
@[simp] theorem State.setParcel_boot (s : State) (p : Nat) (x : Parcel) : (s.setParcel p x).boot = s.boot := rfl
@[simp] theorem State.setParcel_mgmt (s : State) (p : Nat) (x : Parcel) : (s.setParcel p x).mgmt = s.mgmt := rfl
@[simp] theorem State.setParcel_tele (s : State) (p : Nat) (x : Parcel) : (s.setParcel p x).tele = s.tele := rfl
@[simp] theorem State.setParcel_running (s : State) (p : Nat) (x : Parcel) : (s.setParcel p x).running = s.running := rfl
@[simp] theorem State.setParcel_walked (s : State) (p : Nat) (x : Parcel) : (s.setParcel p x).walked = s.walked := rfl
@[simp] theorem State.setParcel_wire (s : State) (p : Nat) (x : Parcel) : (s.setParcel p x).wire = s.wire := rfl

@[simp] theorem State.parcel_setParcel (s : State) (p : Nat) (x : Parcel) : (s.setParcel p x).parcel p = x := mget_mput_self _ _ _ _
theorem State.parcel_setParcel_ne (s : State) {p i : Nat} (x : Parcel) (h : i ≠ p) : (s.setParcel p x).parcel i = s.parcel i := mget_mput_ne _ _ _ _ h

/-! ### setCtx -/

@[simp] theorem State.setCtx_now (s : State) (n : Nat) (x : Ctx) : (s.setCtx n x).now = s.now := rfl
@[simp] theorem State.setCtx_benchBase (s : State) (n : Nat) (x : Ctx) : (s.setCtx n x).benchBase = s.benchBase := rfl
@[simp] theorem State.setCtx_free (s : State) (n : Nat) (x : Ctx) : (s.setCtx n x).free = s.free := rfl
@[simp] theorem State.setCtx_pending (s : State) (n : Nat) (x : Ctx) : (s.setCtx n x).pending = s.pending := rfl
@[simp] theorem State.setCtx_parityLines (s : State) (n : Nat) (x : Ctx) : (s.setCtx n x).parityLines = s.parityLines := rfl
@[simp] theorem State.setCtx_steps (s : State) (n : Nat) (x : Ctx) : (s.setCtx n x).steps = s.steps := rfl
@[simp] theorem State.setCtx_ring (s : State) (n : Nat) (x : Ctx) : (s.setCtx n x).ring = s.ring := rfl
@[simp] theorem State.setCtx_inval (s : State) (n : Nat) (x : Ctx) : (s.setCtx n x).inval = s.inval := rfl
@[simp] theorem State.setCtx_storeIO (s : State) (n : Nat) (x : Ctx) : (s.setCtx n x).storeIO = s.storeIO := rfl
@[simp] theorem State.setCtx_storeReads (s : State) (n : Nat) (x : Ctx) : (s.setCtx n x).storeReads = s.storeReads := rfl
@[simp] theorem State.setCtx_lostFreed (s : State) (n : Nat) (x : Ctx) : (s.setCtx n x).lostFreed = s.lostFreed := rfl
@[simp] theorem State.setCtx_regs (s : State) (n : Nat) (x : Ctx) : (s.setCtx n x).regs = s.regs := rfl
@[simp] theorem State.setCtx_mem (s : State) (n : Nat) (x : Ctx) : (s.setCtx n x).mem = s.mem := rfl
@[simp] theorem State.setCtx_bad (s : State) (n : Nat) (x : Ctx) : (s.setCtx n x).bad = s.bad := rfl
@[simp] theorem State.setCtx_acts (s : State) (n : Nat) (x : Ctx) : (s.setCtx n x).acts = s.acts := rfl
@[simp] theorem State.setCtx_oldPieces (s : State) (n : Nat) (x : Ctx) : (s.setCtx n x).oldPieces = s.oldPieces := rfl
@[simp] theorem State.setCtx_parity (s : State) (n : Nat) (x : Ctx) : (s.setCtx n x).parity = s.parity := rfl
@[simp] theorem State.setCtx_gz (s : State) (n : Nat) (x : Ctx) : (s.setCtx n x).gz = s.gz := rfl
@[simp] theorem State.setCtx_blobs (s : State) (n : Nat) (x : Ctx) : (s.setCtx n x).blobs = s.blobs := rfl
@[simp] theorem State.setCtx_parcels (s : State) (n : Nat) (x : Ctx) : (s.setCtx n x).parcels = s.parcels := rfl
@[simp] theorem State.setCtx_cports (s : State) (n : Nat) (x : Ctx) : (s.setCtx n x).cports = s.cports := rfl
@[simp] theorem State.setCtx_members (s : State) (n : Nat) (x : Ctx) : (s.setCtx n x).members = s.members := rfl
@[simp] theorem State.setCtx_routes (s : State) (n : Nat) (x : Ctx) : (s.setCtx n x).routes = s.routes := rfl
@[simp] theorem State.setCtx_lends (s : State) (n : Nat) (x : Ctx) : (s.setCtx n x).lends = s.lends := rfl
@[simp] theorem State.setCtx_borrows (s : State) (n : Nat) (x : Ctx) : (s.setCtx n x).borrows = s.borrows := rfl
@[simp] theorem State.setCtx_relocs (s : State) (n : Nat) (x : Ctx) : (s.setCtx n x).relocs = s.relocs := rfl
@[simp] theorem State.setCtx_moves (s : State) (n : Nat) (x : Ctx) : (s.setCtx n x).moves = s.moves := rfl
@[simp] theorem State.setCtx_custody (s : State) (n : Nat) (x : Ctx) : (s.setCtx n x).custody = s.custody := rfl
@[simp] theorem State.setCtx_atlas (s : State) (n : Nat) (x : Ctx) : (s.setCtx n x).atlas = s.atlas := rfl
@[simp] theorem State.setCtx_txns (s : State) (n : Nat) (x : Ctx) : (s.setCtx n x).txns = s.txns := rfl
@[simp] theorem State.setCtx_uprobes (s : State) (n : Nat) (x : Ctx) : (s.setCtx n x).uprobes = s.uprobes := rfl
@[simp] theorem State.setCtx_orders (s : State) (n : Nat) (x : Ctx) : (s.setCtx n x).orders = s.orders := rfl
@[simp] theorem State.setCtx_echoes (s : State) (n : Nat) (x : Ctx) : (s.setCtx n x).echoes = s.echoes := rfl
@[simp] theorem State.setCtx_series (s : State) (n : Nat) (x : Ctx) : (s.setCtx n x).series = s.series := rfl
@[simp] theorem State.setCtx_out (s : State) (n : Nat) (x : Ctx) : (s.setCtx n x).out = s.out := rfl
@[simp] theorem State.setCtx_ans (s : State) (n : Nat) (x : Ctx) : (s.setCtx n x).ans = s.ans := rfl
@[simp] theorem State.setCtx_increments (s : State) (n : Nat) (x : Ctx) : (s.setCtx n x).increments = s.increments := rfl
@[simp] theorem State.setCtx_chans (s : State) (n : Nat) (x : Ctx) : (s.setCtx n x).chans = s.chans := rfl
@[simp] theorem State.setCtx_stackTable (s : State) (n : Nat) (x : Ctx) : (s.setCtx n x).stackTable = s.stackTable := rfl
@[simp] theorem State.setCtx_pass (s : State) (n : Nat) (x : Ctx) : (s.setCtx n x).pass = s.pass := rfl
@[simp] theorem State.setCtx_ports (s : State) (n : Nat) (x : Ctx) : (s.setCtx n x).ports = s.ports := rfl
@[simp] theorem State.setCtx_sluice (s : State) (n : Nat) (x : Ctx) : (s.setCtx n x).sluice = s.sluice := rfl
@[simp] theorem State.setCtx_thoit (s : State) (n : Nat) (x : Ctx) : (s.setCtx n x).thoit = s.thoit := rfl
@[simp] theorem State.setCtx_dies (s : State) (n : Nat) (x : Ctx) : (s.setCtx n x).dies = s.dies := rfl
@[simp] theorem State.setCtx_qps (s : State) (n : Nat) (x : Ctx) : (s.setCtx n x).qps = s.qps := rfl
@[simp] theorem State.setCtx_jets (s : State) (n : Nat) (x : Ctx) : (s.setCtx n x).jets = s.jets := rfl
@[simp] theorem State.setCtx_tasks (s : State) (n : Nat) (x : Ctx) : (s.setCtx n x).tasks = s.tasks := rfl
@[simp] theorem State.setCtx_tables (s : State) (n : Nat) (x : Ctx) : (s.setCtx n x).tables = s.tables := rfl
@[simp] theorem State.setCtx_indexes (s : State) (n : Nat) (x : Ctx) : (s.setCtx n x).indexes = s.indexes := rfl
@[simp] theorem State.setCtx_drains (s : State) (n : Nat) (x : Ctx) : (s.setCtx n x).drains = s.drains := rfl
@[simp] theorem State.setCtx_power (s : State) (n : Nat) (x : Ctx) : (s.setCtx n x).power = s.power := rfl
@[simp] theorem State.setCtx_sec (s : State) (n : Nat) (x : Ctx) : (s.setCtx n x).sec = s.sec := rfl
@[simp] theorem State.setCtx_boot (s : State) (n : Nat) (x : Ctx) : (s.setCtx n x).boot = s.boot := rfl
@[simp] theorem State.setCtx_mgmt (s : State) (n : Nat) (x : Ctx) : (s.setCtx n x).mgmt = s.mgmt := rfl
@[simp] theorem State.setCtx_tele (s : State) (n : Nat) (x : Ctx) : (s.setCtx n x).tele = s.tele := rfl
@[simp] theorem State.setCtx_running (s : State) (n : Nat) (x : Ctx) : (s.setCtx n x).running = s.running := rfl
@[simp] theorem State.setCtx_walked (s : State) (n : Nat) (x : Ctx) : (s.setCtx n x).walked = s.walked := rfl
@[simp] theorem State.setCtx_wire (s : State) (n : Nat) (x : Ctx) : (s.setCtx n x).wire = s.wire := rfl

@[simp] theorem State.ctxEntry_setCtx (s : State) (n : Nat) (x : Ctx) : (s.setCtx n x).ctxEntry n = x := mget_mput_self _ _ _ _
theorem State.ctxEntry_setCtx_ne (s : State) {n i : Nat} (x : Ctx) (h : i ≠ n) : (s.setCtx n x).ctxEntry i = s.ctxEntry i := mget_mput_ne _ _ _ _ h

/-! ### setCport -/

@[simp] theorem State.setCport_now (s : State) (n : Nat) (x : CPort) : (s.setCport n x).now = s.now := rfl
@[simp] theorem State.setCport_benchBase (s : State) (n : Nat) (x : CPort) : (s.setCport n x).benchBase = s.benchBase := rfl
@[simp] theorem State.setCport_free (s : State) (n : Nat) (x : CPort) : (s.setCport n x).free = s.free := rfl
@[simp] theorem State.setCport_pending (s : State) (n : Nat) (x : CPort) : (s.setCport n x).pending = s.pending := rfl
@[simp] theorem State.setCport_parityLines (s : State) (n : Nat) (x : CPort) : (s.setCport n x).parityLines = s.parityLines := rfl
@[simp] theorem State.setCport_steps (s : State) (n : Nat) (x : CPort) : (s.setCport n x).steps = s.steps := rfl
@[simp] theorem State.setCport_ring (s : State) (n : Nat) (x : CPort) : (s.setCport n x).ring = s.ring := rfl
@[simp] theorem State.setCport_inval (s : State) (n : Nat) (x : CPort) : (s.setCport n x).inval = s.inval := rfl
@[simp] theorem State.setCport_storeIO (s : State) (n : Nat) (x : CPort) : (s.setCport n x).storeIO = s.storeIO := rfl
@[simp] theorem State.setCport_storeReads (s : State) (n : Nat) (x : CPort) : (s.setCport n x).storeReads = s.storeReads := rfl
@[simp] theorem State.setCport_lostFreed (s : State) (n : Nat) (x : CPort) : (s.setCport n x).lostFreed = s.lostFreed := rfl
@[simp] theorem State.setCport_regs (s : State) (n : Nat) (x : CPort) : (s.setCport n x).regs = s.regs := rfl
@[simp] theorem State.setCport_mem (s : State) (n : Nat) (x : CPort) : (s.setCport n x).mem = s.mem := rfl
@[simp] theorem State.setCport_bad (s : State) (n : Nat) (x : CPort) : (s.setCport n x).bad = s.bad := rfl
@[simp] theorem State.setCport_acts (s : State) (n : Nat) (x : CPort) : (s.setCport n x).acts = s.acts := rfl
@[simp] theorem State.setCport_oldPieces (s : State) (n : Nat) (x : CPort) : (s.setCport n x).oldPieces = s.oldPieces := rfl
@[simp] theorem State.setCport_parity (s : State) (n : Nat) (x : CPort) : (s.setCport n x).parity = s.parity := rfl
@[simp] theorem State.setCport_gz (s : State) (n : Nat) (x : CPort) : (s.setCport n x).gz = s.gz := rfl
@[simp] theorem State.setCport_blobs (s : State) (n : Nat) (x : CPort) : (s.setCport n x).blobs = s.blobs := rfl
@[simp] theorem State.setCport_parcels (s : State) (n : Nat) (x : CPort) : (s.setCport n x).parcels = s.parcels := rfl
@[simp] theorem State.setCport_ctxs (s : State) (n : Nat) (x : CPort) : (s.setCport n x).ctxs = s.ctxs := rfl
@[simp] theorem State.setCport_members (s : State) (n : Nat) (x : CPort) : (s.setCport n x).members = s.members := rfl
@[simp] theorem State.setCport_routes (s : State) (n : Nat) (x : CPort) : (s.setCport n x).routes = s.routes := rfl
@[simp] theorem State.setCport_lends (s : State) (n : Nat) (x : CPort) : (s.setCport n x).lends = s.lends := rfl
@[simp] theorem State.setCport_borrows (s : State) (n : Nat) (x : CPort) : (s.setCport n x).borrows = s.borrows := rfl
@[simp] theorem State.setCport_relocs (s : State) (n : Nat) (x : CPort) : (s.setCport n x).relocs = s.relocs := rfl
@[simp] theorem State.setCport_moves (s : State) (n : Nat) (x : CPort) : (s.setCport n x).moves = s.moves := rfl
@[simp] theorem State.setCport_custody (s : State) (n : Nat) (x : CPort) : (s.setCport n x).custody = s.custody := rfl
@[simp] theorem State.setCport_atlas (s : State) (n : Nat) (x : CPort) : (s.setCport n x).atlas = s.atlas := rfl
@[simp] theorem State.setCport_txns (s : State) (n : Nat) (x : CPort) : (s.setCport n x).txns = s.txns := rfl
@[simp] theorem State.setCport_uprobes (s : State) (n : Nat) (x : CPort) : (s.setCport n x).uprobes = s.uprobes := rfl
@[simp] theorem State.setCport_orders (s : State) (n : Nat) (x : CPort) : (s.setCport n x).orders = s.orders := rfl
@[simp] theorem State.setCport_echoes (s : State) (n : Nat) (x : CPort) : (s.setCport n x).echoes = s.echoes := rfl
@[simp] theorem State.setCport_series (s : State) (n : Nat) (x : CPort) : (s.setCport n x).series = s.series := rfl
@[simp] theorem State.setCport_out (s : State) (n : Nat) (x : CPort) : (s.setCport n x).out = s.out := rfl
@[simp] theorem State.setCport_ans (s : State) (n : Nat) (x : CPort) : (s.setCport n x).ans = s.ans := rfl
@[simp] theorem State.setCport_increments (s : State) (n : Nat) (x : CPort) : (s.setCport n x).increments = s.increments := rfl
@[simp] theorem State.setCport_chans (s : State) (n : Nat) (x : CPort) : (s.setCport n x).chans = s.chans := rfl
@[simp] theorem State.setCport_stackTable (s : State) (n : Nat) (x : CPort) : (s.setCport n x).stackTable = s.stackTable := rfl
@[simp] theorem State.setCport_pass (s : State) (n : Nat) (x : CPort) : (s.setCport n x).pass = s.pass := rfl
@[simp] theorem State.setCport_ports (s : State) (n : Nat) (x : CPort) : (s.setCport n x).ports = s.ports := rfl
@[simp] theorem State.setCport_sluice (s : State) (n : Nat) (x : CPort) : (s.setCport n x).sluice = s.sluice := rfl
@[simp] theorem State.setCport_thoit (s : State) (n : Nat) (x : CPort) : (s.setCport n x).thoit = s.thoit := rfl
@[simp] theorem State.setCport_dies (s : State) (n : Nat) (x : CPort) : (s.setCport n x).dies = s.dies := rfl
@[simp] theorem State.setCport_qps (s : State) (n : Nat) (x : CPort) : (s.setCport n x).qps = s.qps := rfl
@[simp] theorem State.setCport_jets (s : State) (n : Nat) (x : CPort) : (s.setCport n x).jets = s.jets := rfl
@[simp] theorem State.setCport_tasks (s : State) (n : Nat) (x : CPort) : (s.setCport n x).tasks = s.tasks := rfl
@[simp] theorem State.setCport_tables (s : State) (n : Nat) (x : CPort) : (s.setCport n x).tables = s.tables := rfl
@[simp] theorem State.setCport_indexes (s : State) (n : Nat) (x : CPort) : (s.setCport n x).indexes = s.indexes := rfl
@[simp] theorem State.setCport_drains (s : State) (n : Nat) (x : CPort) : (s.setCport n x).drains = s.drains := rfl
@[simp] theorem State.setCport_power (s : State) (n : Nat) (x : CPort) : (s.setCport n x).power = s.power := rfl
@[simp] theorem State.setCport_sec (s : State) (n : Nat) (x : CPort) : (s.setCport n x).sec = s.sec := rfl
@[simp] theorem State.setCport_boot (s : State) (n : Nat) (x : CPort) : (s.setCport n x).boot = s.boot := rfl
@[simp] theorem State.setCport_mgmt (s : State) (n : Nat) (x : CPort) : (s.setCport n x).mgmt = s.mgmt := rfl
@[simp] theorem State.setCport_tele (s : State) (n : Nat) (x : CPort) : (s.setCport n x).tele = s.tele := rfl
@[simp] theorem State.setCport_running (s : State) (n : Nat) (x : CPort) : (s.setCport n x).running = s.running := rfl
@[simp] theorem State.setCport_walked (s : State) (n : Nat) (x : CPort) : (s.setCport n x).walked = s.walked := rfl
@[simp] theorem State.setCport_wire (s : State) (n : Nat) (x : CPort) : (s.setCport n x).wire = s.wire := rfl

@[simp] theorem State.cport_setCport (s : State) (n : Nat) (x : CPort) : (s.setCport n x).cport n = x := mget_mput_self _ _ _ _
theorem State.cport_setCport_ne (s : State) {n i : Nat} (x : CPort) (h : i ≠ n) : (s.setCport n x).cport i = s.cport i := mget_mput_ne _ _ _ _ h

/-! ### setMember -/

@[simp] theorem State.setMember_now (s : State) (n : Nat) (x : CPort) : (s.setMember n x).now = s.now := rfl
@[simp] theorem State.setMember_benchBase (s : State) (n : Nat) (x : CPort) : (s.setMember n x).benchBase = s.benchBase := rfl
@[simp] theorem State.setMember_free (s : State) (n : Nat) (x : CPort) : (s.setMember n x).free = s.free := rfl
@[simp] theorem State.setMember_pending (s : State) (n : Nat) (x : CPort) : (s.setMember n x).pending = s.pending := rfl
@[simp] theorem State.setMember_parityLines (s : State) (n : Nat) (x : CPort) : (s.setMember n x).parityLines = s.parityLines := rfl
@[simp] theorem State.setMember_steps (s : State) (n : Nat) (x : CPort) : (s.setMember n x).steps = s.steps := rfl
@[simp] theorem State.setMember_ring (s : State) (n : Nat) (x : CPort) : (s.setMember n x).ring = s.ring := rfl
@[simp] theorem State.setMember_inval (s : State) (n : Nat) (x : CPort) : (s.setMember n x).inval = s.inval := rfl
@[simp] theorem State.setMember_storeIO (s : State) (n : Nat) (x : CPort) : (s.setMember n x).storeIO = s.storeIO := rfl
@[simp] theorem State.setMember_storeReads (s : State) (n : Nat) (x : CPort) : (s.setMember n x).storeReads = s.storeReads := rfl
@[simp] theorem State.setMember_lostFreed (s : State) (n : Nat) (x : CPort) : (s.setMember n x).lostFreed = s.lostFreed := rfl
@[simp] theorem State.setMember_regs (s : State) (n : Nat) (x : CPort) : (s.setMember n x).regs = s.regs := rfl
@[simp] theorem State.setMember_mem (s : State) (n : Nat) (x : CPort) : (s.setMember n x).mem = s.mem := rfl
@[simp] theorem State.setMember_bad (s : State) (n : Nat) (x : CPort) : (s.setMember n x).bad = s.bad := rfl
@[simp] theorem State.setMember_acts (s : State) (n : Nat) (x : CPort) : (s.setMember n x).acts = s.acts := rfl
@[simp] theorem State.setMember_oldPieces (s : State) (n : Nat) (x : CPort) : (s.setMember n x).oldPieces = s.oldPieces := rfl
@[simp] theorem State.setMember_parity (s : State) (n : Nat) (x : CPort) : (s.setMember n x).parity = s.parity := rfl
@[simp] theorem State.setMember_gz (s : State) (n : Nat) (x : CPort) : (s.setMember n x).gz = s.gz := rfl
@[simp] theorem State.setMember_blobs (s : State) (n : Nat) (x : CPort) : (s.setMember n x).blobs = s.blobs := rfl
@[simp] theorem State.setMember_parcels (s : State) (n : Nat) (x : CPort) : (s.setMember n x).parcels = s.parcels := rfl
@[simp] theorem State.setMember_ctxs (s : State) (n : Nat) (x : CPort) : (s.setMember n x).ctxs = s.ctxs := rfl
@[simp] theorem State.setMember_cports (s : State) (n : Nat) (x : CPort) : (s.setMember n x).cports = s.cports := rfl
@[simp] theorem State.setMember_routes (s : State) (n : Nat) (x : CPort) : (s.setMember n x).routes = s.routes := rfl
@[simp] theorem State.setMember_lends (s : State) (n : Nat) (x : CPort) : (s.setMember n x).lends = s.lends := rfl
@[simp] theorem State.setMember_borrows (s : State) (n : Nat) (x : CPort) : (s.setMember n x).borrows = s.borrows := rfl
@[simp] theorem State.setMember_relocs (s : State) (n : Nat) (x : CPort) : (s.setMember n x).relocs = s.relocs := rfl
@[simp] theorem State.setMember_moves (s : State) (n : Nat) (x : CPort) : (s.setMember n x).moves = s.moves := rfl
@[simp] theorem State.setMember_custody (s : State) (n : Nat) (x : CPort) : (s.setMember n x).custody = s.custody := rfl
@[simp] theorem State.setMember_atlas (s : State) (n : Nat) (x : CPort) : (s.setMember n x).atlas = s.atlas := rfl
@[simp] theorem State.setMember_txns (s : State) (n : Nat) (x : CPort) : (s.setMember n x).txns = s.txns := rfl
@[simp] theorem State.setMember_uprobes (s : State) (n : Nat) (x : CPort) : (s.setMember n x).uprobes = s.uprobes := rfl
@[simp] theorem State.setMember_orders (s : State) (n : Nat) (x : CPort) : (s.setMember n x).orders = s.orders := rfl
@[simp] theorem State.setMember_echoes (s : State) (n : Nat) (x : CPort) : (s.setMember n x).echoes = s.echoes := rfl
@[simp] theorem State.setMember_series (s : State) (n : Nat) (x : CPort) : (s.setMember n x).series = s.series := rfl
@[simp] theorem State.setMember_out (s : State) (n : Nat) (x : CPort) : (s.setMember n x).out = s.out := rfl
@[simp] theorem State.setMember_ans (s : State) (n : Nat) (x : CPort) : (s.setMember n x).ans = s.ans := rfl
@[simp] theorem State.setMember_increments (s : State) (n : Nat) (x : CPort) : (s.setMember n x).increments = s.increments := rfl
@[simp] theorem State.setMember_chans (s : State) (n : Nat) (x : CPort) : (s.setMember n x).chans = s.chans := rfl
@[simp] theorem State.setMember_stackTable (s : State) (n : Nat) (x : CPort) : (s.setMember n x).stackTable = s.stackTable := rfl
@[simp] theorem State.setMember_pass (s : State) (n : Nat) (x : CPort) : (s.setMember n x).pass = s.pass := rfl
@[simp] theorem State.setMember_ports (s : State) (n : Nat) (x : CPort) : (s.setMember n x).ports = s.ports := rfl
@[simp] theorem State.setMember_sluice (s : State) (n : Nat) (x : CPort) : (s.setMember n x).sluice = s.sluice := rfl
@[simp] theorem State.setMember_thoit (s : State) (n : Nat) (x : CPort) : (s.setMember n x).thoit = s.thoit := rfl
@[simp] theorem State.setMember_dies (s : State) (n : Nat) (x : CPort) : (s.setMember n x).dies = s.dies := rfl
@[simp] theorem State.setMember_qps (s : State) (n : Nat) (x : CPort) : (s.setMember n x).qps = s.qps := rfl
@[simp] theorem State.setMember_jets (s : State) (n : Nat) (x : CPort) : (s.setMember n x).jets = s.jets := rfl
@[simp] theorem State.setMember_tasks (s : State) (n : Nat) (x : CPort) : (s.setMember n x).tasks = s.tasks := rfl
@[simp] theorem State.setMember_tables (s : State) (n : Nat) (x : CPort) : (s.setMember n x).tables = s.tables := rfl
@[simp] theorem State.setMember_indexes (s : State) (n : Nat) (x : CPort) : (s.setMember n x).indexes = s.indexes := rfl
@[simp] theorem State.setMember_drains (s : State) (n : Nat) (x : CPort) : (s.setMember n x).drains = s.drains := rfl
@[simp] theorem State.setMember_power (s : State) (n : Nat) (x : CPort) : (s.setMember n x).power = s.power := rfl
@[simp] theorem State.setMember_sec (s : State) (n : Nat) (x : CPort) : (s.setMember n x).sec = s.sec := rfl
@[simp] theorem State.setMember_boot (s : State) (n : Nat) (x : CPort) : (s.setMember n x).boot = s.boot := rfl
@[simp] theorem State.setMember_mgmt (s : State) (n : Nat) (x : CPort) : (s.setMember n x).mgmt = s.mgmt := rfl
@[simp] theorem State.setMember_tele (s : State) (n : Nat) (x : CPort) : (s.setMember n x).tele = s.tele := rfl
@[simp] theorem State.setMember_running (s : State) (n : Nat) (x : CPort) : (s.setMember n x).running = s.running := rfl
@[simp] theorem State.setMember_walked (s : State) (n : Nat) (x : CPort) : (s.setMember n x).walked = s.walked := rfl
@[simp] theorem State.setMember_wire (s : State) (n : Nat) (x : CPort) : (s.setMember n x).wire = s.wire := rfl

@[simp] theorem State.member_setMember (s : State) (n : Nat) (x : CPort) : (s.setMember n x).member n = x := mget_mput_self _ _ _ _
theorem State.member_setMember_ne (s : State) {n i : Nat} (x : CPort) (h : i ≠ n) : (s.setMember n x).member i = s.member i := mget_mput_ne _ _ _ _ h

/-! ### setRoute -/

@[simp] theorem State.setRoute_now (s : State) (d : Nat) (x : Route) : (s.setRoute d x).now = s.now := rfl
@[simp] theorem State.setRoute_benchBase (s : State) (d : Nat) (x : Route) : (s.setRoute d x).benchBase = s.benchBase := rfl
@[simp] theorem State.setRoute_free (s : State) (d : Nat) (x : Route) : (s.setRoute d x).free = s.free := rfl
@[simp] theorem State.setRoute_pending (s : State) (d : Nat) (x : Route) : (s.setRoute d x).pending = s.pending := rfl
@[simp] theorem State.setRoute_parityLines (s : State) (d : Nat) (x : Route) : (s.setRoute d x).parityLines = s.parityLines := rfl
@[simp] theorem State.setRoute_steps (s : State) (d : Nat) (x : Route) : (s.setRoute d x).steps = s.steps := rfl
@[simp] theorem State.setRoute_ring (s : State) (d : Nat) (x : Route) : (s.setRoute d x).ring = s.ring := rfl
@[simp] theorem State.setRoute_inval (s : State) (d : Nat) (x : Route) : (s.setRoute d x).inval = s.inval := rfl
@[simp] theorem State.setRoute_storeIO (s : State) (d : Nat) (x : Route) : (s.setRoute d x).storeIO = s.storeIO := rfl
@[simp] theorem State.setRoute_storeReads (s : State) (d : Nat) (x : Route) : (s.setRoute d x).storeReads = s.storeReads := rfl
@[simp] theorem State.setRoute_lostFreed (s : State) (d : Nat) (x : Route) : (s.setRoute d x).lostFreed = s.lostFreed := rfl
@[simp] theorem State.setRoute_regs (s : State) (d : Nat) (x : Route) : (s.setRoute d x).regs = s.regs := rfl
@[simp] theorem State.setRoute_mem (s : State) (d : Nat) (x : Route) : (s.setRoute d x).mem = s.mem := rfl
@[simp] theorem State.setRoute_bad (s : State) (d : Nat) (x : Route) : (s.setRoute d x).bad = s.bad := rfl
@[simp] theorem State.setRoute_acts (s : State) (d : Nat) (x : Route) : (s.setRoute d x).acts = s.acts := rfl
@[simp] theorem State.setRoute_oldPieces (s : State) (d : Nat) (x : Route) : (s.setRoute d x).oldPieces = s.oldPieces := rfl
@[simp] theorem State.setRoute_parity (s : State) (d : Nat) (x : Route) : (s.setRoute d x).parity = s.parity := rfl
@[simp] theorem State.setRoute_gz (s : State) (d : Nat) (x : Route) : (s.setRoute d x).gz = s.gz := rfl
@[simp] theorem State.setRoute_blobs (s : State) (d : Nat) (x : Route) : (s.setRoute d x).blobs = s.blobs := rfl
@[simp] theorem State.setRoute_parcels (s : State) (d : Nat) (x : Route) : (s.setRoute d x).parcels = s.parcels := rfl
@[simp] theorem State.setRoute_ctxs (s : State) (d : Nat) (x : Route) : (s.setRoute d x).ctxs = s.ctxs := rfl
@[simp] theorem State.setRoute_cports (s : State) (d : Nat) (x : Route) : (s.setRoute d x).cports = s.cports := rfl
@[simp] theorem State.setRoute_members (s : State) (d : Nat) (x : Route) : (s.setRoute d x).members = s.members := rfl
@[simp] theorem State.setRoute_lends (s : State) (d : Nat) (x : Route) : (s.setRoute d x).lends = s.lends := rfl
@[simp] theorem State.setRoute_borrows (s : State) (d : Nat) (x : Route) : (s.setRoute d x).borrows = s.borrows := rfl
@[simp] theorem State.setRoute_relocs (s : State) (d : Nat) (x : Route) : (s.setRoute d x).relocs = s.relocs := rfl
@[simp] theorem State.setRoute_moves (s : State) (d : Nat) (x : Route) : (s.setRoute d x).moves = s.moves := rfl
@[simp] theorem State.setRoute_custody (s : State) (d : Nat) (x : Route) : (s.setRoute d x).custody = s.custody := rfl
@[simp] theorem State.setRoute_atlas (s : State) (d : Nat) (x : Route) : (s.setRoute d x).atlas = s.atlas := rfl
@[simp] theorem State.setRoute_txns (s : State) (d : Nat) (x : Route) : (s.setRoute d x).txns = s.txns := rfl
@[simp] theorem State.setRoute_uprobes (s : State) (d : Nat) (x : Route) : (s.setRoute d x).uprobes = s.uprobes := rfl
@[simp] theorem State.setRoute_orders (s : State) (d : Nat) (x : Route) : (s.setRoute d x).orders = s.orders := rfl
@[simp] theorem State.setRoute_echoes (s : State) (d : Nat) (x : Route) : (s.setRoute d x).echoes = s.echoes := rfl
@[simp] theorem State.setRoute_series (s : State) (d : Nat) (x : Route) : (s.setRoute d x).series = s.series := rfl
@[simp] theorem State.setRoute_out (s : State) (d : Nat) (x : Route) : (s.setRoute d x).out = s.out := rfl
@[simp] theorem State.setRoute_ans (s : State) (d : Nat) (x : Route) : (s.setRoute d x).ans = s.ans := rfl
@[simp] theorem State.setRoute_increments (s : State) (d : Nat) (x : Route) : (s.setRoute d x).increments = s.increments := rfl
@[simp] theorem State.setRoute_chans (s : State) (d : Nat) (x : Route) : (s.setRoute d x).chans = s.chans := rfl
@[simp] theorem State.setRoute_stackTable (s : State) (d : Nat) (x : Route) : (s.setRoute d x).stackTable = s.stackTable := rfl
@[simp] theorem State.setRoute_pass (s : State) (d : Nat) (x : Route) : (s.setRoute d x).pass = s.pass := rfl
@[simp] theorem State.setRoute_ports (s : State) (d : Nat) (x : Route) : (s.setRoute d x).ports = s.ports := rfl
@[simp] theorem State.setRoute_sluice (s : State) (d : Nat) (x : Route) : (s.setRoute d x).sluice = s.sluice := rfl
@[simp] theorem State.setRoute_thoit (s : State) (d : Nat) (x : Route) : (s.setRoute d x).thoit = s.thoit := rfl
@[simp] theorem State.setRoute_dies (s : State) (d : Nat) (x : Route) : (s.setRoute d x).dies = s.dies := rfl
@[simp] theorem State.setRoute_qps (s : State) (d : Nat) (x : Route) : (s.setRoute d x).qps = s.qps := rfl
@[simp] theorem State.setRoute_jets (s : State) (d : Nat) (x : Route) : (s.setRoute d x).jets = s.jets := rfl
@[simp] theorem State.setRoute_tasks (s : State) (d : Nat) (x : Route) : (s.setRoute d x).tasks = s.tasks := rfl
@[simp] theorem State.setRoute_tables (s : State) (d : Nat) (x : Route) : (s.setRoute d x).tables = s.tables := rfl
@[simp] theorem State.setRoute_indexes (s : State) (d : Nat) (x : Route) : (s.setRoute d x).indexes = s.indexes := rfl
@[simp] theorem State.setRoute_drains (s : State) (d : Nat) (x : Route) : (s.setRoute d x).drains = s.drains := rfl
@[simp] theorem State.setRoute_power (s : State) (d : Nat) (x : Route) : (s.setRoute d x).power = s.power := rfl
@[simp] theorem State.setRoute_sec (s : State) (d : Nat) (x : Route) : (s.setRoute d x).sec = s.sec := rfl
@[simp] theorem State.setRoute_boot (s : State) (d : Nat) (x : Route) : (s.setRoute d x).boot = s.boot := rfl
@[simp] theorem State.setRoute_mgmt (s : State) (d : Nat) (x : Route) : (s.setRoute d x).mgmt = s.mgmt := rfl
@[simp] theorem State.setRoute_tele (s : State) (d : Nat) (x : Route) : (s.setRoute d x).tele = s.tele := rfl
@[simp] theorem State.setRoute_running (s : State) (d : Nat) (x : Route) : (s.setRoute d x).running = s.running := rfl
@[simp] theorem State.setRoute_walked (s : State) (d : Nat) (x : Route) : (s.setRoute d x).walked = s.walked := rfl
@[simp] theorem State.setRoute_wire (s : State) (d : Nat) (x : Route) : (s.setRoute d x).wire = s.wire := rfl

@[simp] theorem State.route_setRoute (s : State) (d : Nat) (x : Route) : (s.setRoute d x).route d = x := mget_mput_self _ _ _ _
theorem State.route_setRoute_ne (s : State) {d i : Nat} (x : Route) (h : i ≠ d) : (s.setRoute d x).route i = s.route i := mget_mput_ne _ _ _ _ h

/-! ### setEntry -/

@[simp] theorem State.setEntry_now (s : State) (k : Nat) (x : Entry) : (s.setEntry k x).now = s.now := rfl
@[simp] theorem State.setEntry_benchBase (s : State) (k : Nat) (x : Entry) : (s.setEntry k x).benchBase = s.benchBase := rfl
@[simp] theorem State.setEntry_free (s : State) (k : Nat) (x : Entry) : (s.setEntry k x).free = s.free := rfl
@[simp] theorem State.setEntry_pending (s : State) (k : Nat) (x : Entry) : (s.setEntry k x).pending = s.pending := rfl
@[simp] theorem State.setEntry_parityLines (s : State) (k : Nat) (x : Entry) : (s.setEntry k x).parityLines = s.parityLines := rfl
@[simp] theorem State.setEntry_steps (s : State) (k : Nat) (x : Entry) : (s.setEntry k x).steps = s.steps := rfl
@[simp] theorem State.setEntry_ring (s : State) (k : Nat) (x : Entry) : (s.setEntry k x).ring = s.ring := rfl
@[simp] theorem State.setEntry_inval (s : State) (k : Nat) (x : Entry) : (s.setEntry k x).inval = s.inval := rfl
@[simp] theorem State.setEntry_storeReads (s : State) (k : Nat) (x : Entry) : (s.setEntry k x).storeReads = s.storeReads := rfl
@[simp] theorem State.setEntry_lostFreed (s : State) (k : Nat) (x : Entry) : (s.setEntry k x).lostFreed = s.lostFreed := rfl
@[simp] theorem State.setEntry_regs (s : State) (k : Nat) (x : Entry) : (s.setEntry k x).regs = s.regs := rfl
@[simp] theorem State.setEntry_mem (s : State) (k : Nat) (x : Entry) : (s.setEntry k x).mem = s.mem := rfl
@[simp] theorem State.setEntry_bad (s : State) (k : Nat) (x : Entry) : (s.setEntry k x).bad = s.bad := rfl
@[simp] theorem State.setEntry_acts (s : State) (k : Nat) (x : Entry) : (s.setEntry k x).acts = s.acts := rfl
@[simp] theorem State.setEntry_oldPieces (s : State) (k : Nat) (x : Entry) : (s.setEntry k x).oldPieces = s.oldPieces := rfl
@[simp] theorem State.setEntry_parity (s : State) (k : Nat) (x : Entry) : (s.setEntry k x).parity = s.parity := rfl
@[simp] theorem State.setEntry_gz (s : State) (k : Nat) (x : Entry) : (s.setEntry k x).gz = s.gz := rfl
@[simp] theorem State.setEntry_blobs (s : State) (k : Nat) (x : Entry) : (s.setEntry k x).blobs = s.blobs := rfl
@[simp] theorem State.setEntry_parcels (s : State) (k : Nat) (x : Entry) : (s.setEntry k x).parcels = s.parcels := rfl
@[simp] theorem State.setEntry_ctxs (s : State) (k : Nat) (x : Entry) : (s.setEntry k x).ctxs = s.ctxs := rfl
@[simp] theorem State.setEntry_cports (s : State) (k : Nat) (x : Entry) : (s.setEntry k x).cports = s.cports := rfl
@[simp] theorem State.setEntry_members (s : State) (k : Nat) (x : Entry) : (s.setEntry k x).members = s.members := rfl
@[simp] theorem State.setEntry_routes (s : State) (k : Nat) (x : Entry) : (s.setEntry k x).routes = s.routes := rfl
@[simp] theorem State.setEntry_lends (s : State) (k : Nat) (x : Entry) : (s.setEntry k x).lends = s.lends := rfl
@[simp] theorem State.setEntry_borrows (s : State) (k : Nat) (x : Entry) : (s.setEntry k x).borrows = s.borrows := rfl
@[simp] theorem State.setEntry_relocs (s : State) (k : Nat) (x : Entry) : (s.setEntry k x).relocs = s.relocs := rfl
@[simp] theorem State.setEntry_moves (s : State) (k : Nat) (x : Entry) : (s.setEntry k x).moves = s.moves := rfl
@[simp] theorem State.setEntry_custody (s : State) (k : Nat) (x : Entry) : (s.setEntry k x).custody = s.custody := rfl
@[simp] theorem State.setEntry_txns (s : State) (k : Nat) (x : Entry) : (s.setEntry k x).txns = s.txns := rfl
@[simp] theorem State.setEntry_uprobes (s : State) (k : Nat) (x : Entry) : (s.setEntry k x).uprobes = s.uprobes := rfl
@[simp] theorem State.setEntry_orders (s : State) (k : Nat) (x : Entry) : (s.setEntry k x).orders = s.orders := rfl
@[simp] theorem State.setEntry_echoes (s : State) (k : Nat) (x : Entry) : (s.setEntry k x).echoes = s.echoes := rfl
@[simp] theorem State.setEntry_series (s : State) (k : Nat) (x : Entry) : (s.setEntry k x).series = s.series := rfl
@[simp] theorem State.setEntry_out (s : State) (k : Nat) (x : Entry) : (s.setEntry k x).out = s.out := rfl
@[simp] theorem State.setEntry_ans (s : State) (k : Nat) (x : Entry) : (s.setEntry k x).ans = s.ans := rfl
@[simp] theorem State.setEntry_increments (s : State) (k : Nat) (x : Entry) : (s.setEntry k x).increments = s.increments := rfl
@[simp] theorem State.setEntry_chans (s : State) (k : Nat) (x : Entry) : (s.setEntry k x).chans = s.chans := rfl
@[simp] theorem State.setEntry_stackTable (s : State) (k : Nat) (x : Entry) : (s.setEntry k x).stackTable = s.stackTable := rfl
@[simp] theorem State.setEntry_pass (s : State) (k : Nat) (x : Entry) : (s.setEntry k x).pass = s.pass := rfl
@[simp] theorem State.setEntry_ports (s : State) (k : Nat) (x : Entry) : (s.setEntry k x).ports = s.ports := rfl
@[simp] theorem State.setEntry_sluice (s : State) (k : Nat) (x : Entry) : (s.setEntry k x).sluice = s.sluice := rfl
@[simp] theorem State.setEntry_thoit (s : State) (k : Nat) (x : Entry) : (s.setEntry k x).thoit = s.thoit := rfl
@[simp] theorem State.setEntry_dies (s : State) (k : Nat) (x : Entry) : (s.setEntry k x).dies = s.dies := rfl
@[simp] theorem State.setEntry_qps (s : State) (k : Nat) (x : Entry) : (s.setEntry k x).qps = s.qps := rfl
@[simp] theorem State.setEntry_jets (s : State) (k : Nat) (x : Entry) : (s.setEntry k x).jets = s.jets := rfl
@[simp] theorem State.setEntry_tasks (s : State) (k : Nat) (x : Entry) : (s.setEntry k x).tasks = s.tasks := rfl
@[simp] theorem State.setEntry_tables (s : State) (k : Nat) (x : Entry) : (s.setEntry k x).tables = s.tables := rfl
@[simp] theorem State.setEntry_indexes (s : State) (k : Nat) (x : Entry) : (s.setEntry k x).indexes = s.indexes := rfl
@[simp] theorem State.setEntry_drains (s : State) (k : Nat) (x : Entry) : (s.setEntry k x).drains = s.drains := rfl
@[simp] theorem State.setEntry_power (s : State) (k : Nat) (x : Entry) : (s.setEntry k x).power = s.power := rfl
@[simp] theorem State.setEntry_sec (s : State) (k : Nat) (x : Entry) : (s.setEntry k x).sec = s.sec := rfl
@[simp] theorem State.setEntry_boot (s : State) (k : Nat) (x : Entry) : (s.setEntry k x).boot = s.boot := rfl
@[simp] theorem State.setEntry_mgmt (s : State) (k : Nat) (x : Entry) : (s.setEntry k x).mgmt = s.mgmt := rfl
@[simp] theorem State.setEntry_tele (s : State) (k : Nat) (x : Entry) : (s.setEntry k x).tele = s.tele := rfl
@[simp] theorem State.setEntry_running (s : State) (k : Nat) (x : Entry) : (s.setEntry k x).running = s.running := rfl
@[simp] theorem State.setEntry_walked (s : State) (k : Nat) (x : Entry) : (s.setEntry k x).walked = s.walked := rfl
@[simp] theorem State.setEntry_wire (s : State) (k : Nat) (x : Entry) : (s.setEntry k x).wire = s.wire := rfl

@[simp] theorem State.entry_setEntry (s : State) (k : Nat) (x : Entry) : (s.setEntry k x).entry k = x := mget_mput_self _ _ _ _
theorem State.entry_setEntry_ne (s : State) {k i : Nat} (x : Entry) (h : i ≠ k) : (s.setEntry k x).entry i = s.entry i := mget_mput_ne _ _ _ _ h

/-! ### setTxns -/

@[simp] theorem State.setTxns_now (s : State) (k : Nat) (x : List Txn) : (s.setTxns k x).now = s.now := rfl
@[simp] theorem State.setTxns_benchBase (s : State) (k : Nat) (x : List Txn) : (s.setTxns k x).benchBase = s.benchBase := rfl
@[simp] theorem State.setTxns_free (s : State) (k : Nat) (x : List Txn) : (s.setTxns k x).free = s.free := rfl
@[simp] theorem State.setTxns_pending (s : State) (k : Nat) (x : List Txn) : (s.setTxns k x).pending = s.pending := rfl
@[simp] theorem State.setTxns_parityLines (s : State) (k : Nat) (x : List Txn) : (s.setTxns k x).parityLines = s.parityLines := rfl
@[simp] theorem State.setTxns_steps (s : State) (k : Nat) (x : List Txn) : (s.setTxns k x).steps = s.steps := rfl
@[simp] theorem State.setTxns_ring (s : State) (k : Nat) (x : List Txn) : (s.setTxns k x).ring = s.ring := rfl
@[simp] theorem State.setTxns_inval (s : State) (k : Nat) (x : List Txn) : (s.setTxns k x).inval = s.inval := rfl
@[simp] theorem State.setTxns_storeIO (s : State) (k : Nat) (x : List Txn) : (s.setTxns k x).storeIO = s.storeIO := rfl
@[simp] theorem State.setTxns_storeReads (s : State) (k : Nat) (x : List Txn) : (s.setTxns k x).storeReads = s.storeReads := rfl
@[simp] theorem State.setTxns_lostFreed (s : State) (k : Nat) (x : List Txn) : (s.setTxns k x).lostFreed = s.lostFreed := rfl
@[simp] theorem State.setTxns_regs (s : State) (k : Nat) (x : List Txn) : (s.setTxns k x).regs = s.regs := rfl
@[simp] theorem State.setTxns_mem (s : State) (k : Nat) (x : List Txn) : (s.setTxns k x).mem = s.mem := rfl
@[simp] theorem State.setTxns_bad (s : State) (k : Nat) (x : List Txn) : (s.setTxns k x).bad = s.bad := rfl
@[simp] theorem State.setTxns_acts (s : State) (k : Nat) (x : List Txn) : (s.setTxns k x).acts = s.acts := rfl
@[simp] theorem State.setTxns_oldPieces (s : State) (k : Nat) (x : List Txn) : (s.setTxns k x).oldPieces = s.oldPieces := rfl
@[simp] theorem State.setTxns_parity (s : State) (k : Nat) (x : List Txn) : (s.setTxns k x).parity = s.parity := rfl
@[simp] theorem State.setTxns_gz (s : State) (k : Nat) (x : List Txn) : (s.setTxns k x).gz = s.gz := rfl
@[simp] theorem State.setTxns_blobs (s : State) (k : Nat) (x : List Txn) : (s.setTxns k x).blobs = s.blobs := rfl
@[simp] theorem State.setTxns_parcels (s : State) (k : Nat) (x : List Txn) : (s.setTxns k x).parcels = s.parcels := rfl
@[simp] theorem State.setTxns_ctxs (s : State) (k : Nat) (x : List Txn) : (s.setTxns k x).ctxs = s.ctxs := rfl
@[simp] theorem State.setTxns_cports (s : State) (k : Nat) (x : List Txn) : (s.setTxns k x).cports = s.cports := rfl
@[simp] theorem State.setTxns_members (s : State) (k : Nat) (x : List Txn) : (s.setTxns k x).members = s.members := rfl
@[simp] theorem State.setTxns_routes (s : State) (k : Nat) (x : List Txn) : (s.setTxns k x).routes = s.routes := rfl
@[simp] theorem State.setTxns_lends (s : State) (k : Nat) (x : List Txn) : (s.setTxns k x).lends = s.lends := rfl
@[simp] theorem State.setTxns_borrows (s : State) (k : Nat) (x : List Txn) : (s.setTxns k x).borrows = s.borrows := rfl
@[simp] theorem State.setTxns_relocs (s : State) (k : Nat) (x : List Txn) : (s.setTxns k x).relocs = s.relocs := rfl
@[simp] theorem State.setTxns_moves (s : State) (k : Nat) (x : List Txn) : (s.setTxns k x).moves = s.moves := rfl
@[simp] theorem State.setTxns_custody (s : State) (k : Nat) (x : List Txn) : (s.setTxns k x).custody = s.custody := rfl
@[simp] theorem State.setTxns_atlas (s : State) (k : Nat) (x : List Txn) : (s.setTxns k x).atlas = s.atlas := rfl
@[simp] theorem State.setTxns_uprobes (s : State) (k : Nat) (x : List Txn) : (s.setTxns k x).uprobes = s.uprobes := rfl
@[simp] theorem State.setTxns_orders (s : State) (k : Nat) (x : List Txn) : (s.setTxns k x).orders = s.orders := rfl
@[simp] theorem State.setTxns_echoes (s : State) (k : Nat) (x : List Txn) : (s.setTxns k x).echoes = s.echoes := rfl
@[simp] theorem State.setTxns_series (s : State) (k : Nat) (x : List Txn) : (s.setTxns k x).series = s.series := rfl
@[simp] theorem State.setTxns_out (s : State) (k : Nat) (x : List Txn) : (s.setTxns k x).out = s.out := rfl
@[simp] theorem State.setTxns_ans (s : State) (k : Nat) (x : List Txn) : (s.setTxns k x).ans = s.ans := rfl
@[simp] theorem State.setTxns_increments (s : State) (k : Nat) (x : List Txn) : (s.setTxns k x).increments = s.increments := rfl
@[simp] theorem State.setTxns_chans (s : State) (k : Nat) (x : List Txn) : (s.setTxns k x).chans = s.chans := rfl
@[simp] theorem State.setTxns_stackTable (s : State) (k : Nat) (x : List Txn) : (s.setTxns k x).stackTable = s.stackTable := rfl
@[simp] theorem State.setTxns_pass (s : State) (k : Nat) (x : List Txn) : (s.setTxns k x).pass = s.pass := rfl
@[simp] theorem State.setTxns_ports (s : State) (k : Nat) (x : List Txn) : (s.setTxns k x).ports = s.ports := rfl
@[simp] theorem State.setTxns_sluice (s : State) (k : Nat) (x : List Txn) : (s.setTxns k x).sluice = s.sluice := rfl
@[simp] theorem State.setTxns_thoit (s : State) (k : Nat) (x : List Txn) : (s.setTxns k x).thoit = s.thoit := rfl
@[simp] theorem State.setTxns_dies (s : State) (k : Nat) (x : List Txn) : (s.setTxns k x).dies = s.dies := rfl
@[simp] theorem State.setTxns_qps (s : State) (k : Nat) (x : List Txn) : (s.setTxns k x).qps = s.qps := rfl
@[simp] theorem State.setTxns_jets (s : State) (k : Nat) (x : List Txn) : (s.setTxns k x).jets = s.jets := rfl
@[simp] theorem State.setTxns_tasks (s : State) (k : Nat) (x : List Txn) : (s.setTxns k x).tasks = s.tasks := rfl
@[simp] theorem State.setTxns_tables (s : State) (k : Nat) (x : List Txn) : (s.setTxns k x).tables = s.tables := rfl
@[simp] theorem State.setTxns_indexes (s : State) (k : Nat) (x : List Txn) : (s.setTxns k x).indexes = s.indexes := rfl
@[simp] theorem State.setTxns_drains (s : State) (k : Nat) (x : List Txn) : (s.setTxns k x).drains = s.drains := rfl
@[simp] theorem State.setTxns_power (s : State) (k : Nat) (x : List Txn) : (s.setTxns k x).power = s.power := rfl
@[simp] theorem State.setTxns_sec (s : State) (k : Nat) (x : List Txn) : (s.setTxns k x).sec = s.sec := rfl
@[simp] theorem State.setTxns_boot (s : State) (k : Nat) (x : List Txn) : (s.setTxns k x).boot = s.boot := rfl
@[simp] theorem State.setTxns_mgmt (s : State) (k : Nat) (x : List Txn) : (s.setTxns k x).mgmt = s.mgmt := rfl
@[simp] theorem State.setTxns_tele (s : State) (k : Nat) (x : List Txn) : (s.setTxns k x).tele = s.tele := rfl
@[simp] theorem State.setTxns_running (s : State) (k : Nat) (x : List Txn) : (s.setTxns k x).running = s.running := rfl
@[simp] theorem State.setTxns_walked (s : State) (k : Nat) (x : List Txn) : (s.setTxns k x).walked = s.walked := rfl
@[simp] theorem State.setTxns_wire (s : State) (k : Nat) (x : List Txn) : (s.setTxns k x).wire = s.wire := rfl

@[simp] theorem State.txnsOf_setTxns (s : State) (k : Nat) (x : List Txn) : (s.setTxns k x).txnsOf k = x := mget_mput_self _ _ _ _
theorem State.txnsOf_setTxns_ne (s : State) {k i : Nat} (x : List Txn) (h : i ≠ k) : (s.setTxns k x).txnsOf i = s.txnsOf i := mget_mput_ne _ _ _ _ h

/-! ### setBorrow -/

@[simp] theorem State.setBorrow_now (s : State) (i : Nat) (x : Borrow) : (s.setBorrow i x).now = s.now := rfl
@[simp] theorem State.setBorrow_benchBase (s : State) (i : Nat) (x : Borrow) : (s.setBorrow i x).benchBase = s.benchBase := rfl
@[simp] theorem State.setBorrow_free (s : State) (i : Nat) (x : Borrow) : (s.setBorrow i x).free = s.free := rfl
@[simp] theorem State.setBorrow_pending (s : State) (i : Nat) (x : Borrow) : (s.setBorrow i x).pending = s.pending := rfl
@[simp] theorem State.setBorrow_parityLines (s : State) (i : Nat) (x : Borrow) : (s.setBorrow i x).parityLines = s.parityLines := rfl
@[simp] theorem State.setBorrow_steps (s : State) (i : Nat) (x : Borrow) : (s.setBorrow i x).steps = s.steps := rfl
@[simp] theorem State.setBorrow_ring (s : State) (i : Nat) (x : Borrow) : (s.setBorrow i x).ring = s.ring := rfl
@[simp] theorem State.setBorrow_inval (s : State) (i : Nat) (x : Borrow) : (s.setBorrow i x).inval = s.inval := rfl
@[simp] theorem State.setBorrow_storeIO (s : State) (i : Nat) (x : Borrow) : (s.setBorrow i x).storeIO = s.storeIO := rfl
@[simp] theorem State.setBorrow_storeReads (s : State) (i : Nat) (x : Borrow) : (s.setBorrow i x).storeReads = s.storeReads := rfl
@[simp] theorem State.setBorrow_lostFreed (s : State) (i : Nat) (x : Borrow) : (s.setBorrow i x).lostFreed = s.lostFreed := rfl
@[simp] theorem State.setBorrow_regs (s : State) (i : Nat) (x : Borrow) : (s.setBorrow i x).regs = s.regs := rfl
@[simp] theorem State.setBorrow_mem (s : State) (i : Nat) (x : Borrow) : (s.setBorrow i x).mem = s.mem := rfl
@[simp] theorem State.setBorrow_bad (s : State) (i : Nat) (x : Borrow) : (s.setBorrow i x).bad = s.bad := rfl
@[simp] theorem State.setBorrow_acts (s : State) (i : Nat) (x : Borrow) : (s.setBorrow i x).acts = s.acts := rfl
@[simp] theorem State.setBorrow_oldPieces (s : State) (i : Nat) (x : Borrow) : (s.setBorrow i x).oldPieces = s.oldPieces := rfl
@[simp] theorem State.setBorrow_parity (s : State) (i : Nat) (x : Borrow) : (s.setBorrow i x).parity = s.parity := rfl
@[simp] theorem State.setBorrow_gz (s : State) (i : Nat) (x : Borrow) : (s.setBorrow i x).gz = s.gz := rfl
@[simp] theorem State.setBorrow_blobs (s : State) (i : Nat) (x : Borrow) : (s.setBorrow i x).blobs = s.blobs := rfl
@[simp] theorem State.setBorrow_parcels (s : State) (i : Nat) (x : Borrow) : (s.setBorrow i x).parcels = s.parcels := rfl
@[simp] theorem State.setBorrow_ctxs (s : State) (i : Nat) (x : Borrow) : (s.setBorrow i x).ctxs = s.ctxs := rfl
@[simp] theorem State.setBorrow_cports (s : State) (i : Nat) (x : Borrow) : (s.setBorrow i x).cports = s.cports := rfl
@[simp] theorem State.setBorrow_members (s : State) (i : Nat) (x : Borrow) : (s.setBorrow i x).members = s.members := rfl
@[simp] theorem State.setBorrow_routes (s : State) (i : Nat) (x : Borrow) : (s.setBorrow i x).routes = s.routes := rfl
@[simp] theorem State.setBorrow_lends (s : State) (i : Nat) (x : Borrow) : (s.setBorrow i x).lends = s.lends := rfl
@[simp] theorem State.setBorrow_relocs (s : State) (i : Nat) (x : Borrow) : (s.setBorrow i x).relocs = s.relocs := rfl
@[simp] theorem State.setBorrow_moves (s : State) (i : Nat) (x : Borrow) : (s.setBorrow i x).moves = s.moves := rfl
@[simp] theorem State.setBorrow_custody (s : State) (i : Nat) (x : Borrow) : (s.setBorrow i x).custody = s.custody := rfl
@[simp] theorem State.setBorrow_atlas (s : State) (i : Nat) (x : Borrow) : (s.setBorrow i x).atlas = s.atlas := rfl
@[simp] theorem State.setBorrow_txns (s : State) (i : Nat) (x : Borrow) : (s.setBorrow i x).txns = s.txns := rfl
@[simp] theorem State.setBorrow_uprobes (s : State) (i : Nat) (x : Borrow) : (s.setBorrow i x).uprobes = s.uprobes := rfl
@[simp] theorem State.setBorrow_orders (s : State) (i : Nat) (x : Borrow) : (s.setBorrow i x).orders = s.orders := rfl
@[simp] theorem State.setBorrow_echoes (s : State) (i : Nat) (x : Borrow) : (s.setBorrow i x).echoes = s.echoes := rfl
@[simp] theorem State.setBorrow_series (s : State) (i : Nat) (x : Borrow) : (s.setBorrow i x).series = s.series := rfl
@[simp] theorem State.setBorrow_out (s : State) (i : Nat) (x : Borrow) : (s.setBorrow i x).out = s.out := rfl
@[simp] theorem State.setBorrow_ans (s : State) (i : Nat) (x : Borrow) : (s.setBorrow i x).ans = s.ans := rfl
@[simp] theorem State.setBorrow_increments (s : State) (i : Nat) (x : Borrow) : (s.setBorrow i x).increments = s.increments := rfl
@[simp] theorem State.setBorrow_chans (s : State) (i : Nat) (x : Borrow) : (s.setBorrow i x).chans = s.chans := rfl
@[simp] theorem State.setBorrow_stackTable (s : State) (i : Nat) (x : Borrow) : (s.setBorrow i x).stackTable = s.stackTable := rfl
@[simp] theorem State.setBorrow_pass (s : State) (i : Nat) (x : Borrow) : (s.setBorrow i x).pass = s.pass := rfl
@[simp] theorem State.setBorrow_ports (s : State) (i : Nat) (x : Borrow) : (s.setBorrow i x).ports = s.ports := rfl
@[simp] theorem State.setBorrow_sluice (s : State) (i : Nat) (x : Borrow) : (s.setBorrow i x).sluice = s.sluice := rfl
@[simp] theorem State.setBorrow_thoit (s : State) (i : Nat) (x : Borrow) : (s.setBorrow i x).thoit = s.thoit := rfl
@[simp] theorem State.setBorrow_dies (s : State) (i : Nat) (x : Borrow) : (s.setBorrow i x).dies = s.dies := rfl
@[simp] theorem State.setBorrow_qps (s : State) (i : Nat) (x : Borrow) : (s.setBorrow i x).qps = s.qps := rfl
@[simp] theorem State.setBorrow_jets (s : State) (i : Nat) (x : Borrow) : (s.setBorrow i x).jets = s.jets := rfl
@[simp] theorem State.setBorrow_tasks (s : State) (i : Nat) (x : Borrow) : (s.setBorrow i x).tasks = s.tasks := rfl
@[simp] theorem State.setBorrow_tables (s : State) (i : Nat) (x : Borrow) : (s.setBorrow i x).tables = s.tables := rfl
@[simp] theorem State.setBorrow_indexes (s : State) (i : Nat) (x : Borrow) : (s.setBorrow i x).indexes = s.indexes := rfl
@[simp] theorem State.setBorrow_drains (s : State) (i : Nat) (x : Borrow) : (s.setBorrow i x).drains = s.drains := rfl
@[simp] theorem State.setBorrow_power (s : State) (i : Nat) (x : Borrow) : (s.setBorrow i x).power = s.power := rfl
@[simp] theorem State.setBorrow_sec (s : State) (i : Nat) (x : Borrow) : (s.setBorrow i x).sec = s.sec := rfl
@[simp] theorem State.setBorrow_boot (s : State) (i : Nat) (x : Borrow) : (s.setBorrow i x).boot = s.boot := rfl
@[simp] theorem State.setBorrow_mgmt (s : State) (i : Nat) (x : Borrow) : (s.setBorrow i x).mgmt = s.mgmt := rfl
@[simp] theorem State.setBorrow_tele (s : State) (i : Nat) (x : Borrow) : (s.setBorrow i x).tele = s.tele := rfl
@[simp] theorem State.setBorrow_running (s : State) (i : Nat) (x : Borrow) : (s.setBorrow i x).running = s.running := rfl
@[simp] theorem State.setBorrow_walked (s : State) (i : Nat) (x : Borrow) : (s.setBorrow i x).walked = s.walked := rfl
@[simp] theorem State.setBorrow_wire (s : State) (i : Nat) (x : Borrow) : (s.setBorrow i x).wire = s.wire := rfl

@[simp] theorem State.borrowAt_setBorrow (s : State) (i : Nat) (x : Borrow) : (s.setBorrow i x).borrowAt i = x := mget_mput_self _ _ _ _
theorem State.borrowAt_setBorrow_ne (s : State) {i k : Nat} (x : Borrow) (h : k ≠ i) : (s.setBorrow i x).borrowAt k = s.borrowAt k := mget_mput_ne _ _ _ _ h

/-! ### setOrder -/

@[simp] theorem State.setOrder_now (s : State) (k : Nat) (x : OrderRec) : (s.setOrder k x).now = s.now := rfl
@[simp] theorem State.setOrder_benchBase (s : State) (k : Nat) (x : OrderRec) : (s.setOrder k x).benchBase = s.benchBase := rfl
@[simp] theorem State.setOrder_free (s : State) (k : Nat) (x : OrderRec) : (s.setOrder k x).free = s.free := rfl
@[simp] theorem State.setOrder_pending (s : State) (k : Nat) (x : OrderRec) : (s.setOrder k x).pending = s.pending := rfl
@[simp] theorem State.setOrder_parityLines (s : State) (k : Nat) (x : OrderRec) : (s.setOrder k x).parityLines = s.parityLines := rfl
@[simp] theorem State.setOrder_steps (s : State) (k : Nat) (x : OrderRec) : (s.setOrder k x).steps = s.steps := rfl
@[simp] theorem State.setOrder_ring (s : State) (k : Nat) (x : OrderRec) : (s.setOrder k x).ring = s.ring := rfl
@[simp] theorem State.setOrder_inval (s : State) (k : Nat) (x : OrderRec) : (s.setOrder k x).inval = s.inval := rfl
@[simp] theorem State.setOrder_storeIO (s : State) (k : Nat) (x : OrderRec) : (s.setOrder k x).storeIO = s.storeIO := rfl
@[simp] theorem State.setOrder_storeReads (s : State) (k : Nat) (x : OrderRec) : (s.setOrder k x).storeReads = s.storeReads := rfl
@[simp] theorem State.setOrder_lostFreed (s : State) (k : Nat) (x : OrderRec) : (s.setOrder k x).lostFreed = s.lostFreed := rfl
@[simp] theorem State.setOrder_regs (s : State) (k : Nat) (x : OrderRec) : (s.setOrder k x).regs = s.regs := rfl
@[simp] theorem State.setOrder_mem (s : State) (k : Nat) (x : OrderRec) : (s.setOrder k x).mem = s.mem := rfl
@[simp] theorem State.setOrder_bad (s : State) (k : Nat) (x : OrderRec) : (s.setOrder k x).bad = s.bad := rfl
@[simp] theorem State.setOrder_acts (s : State) (k : Nat) (x : OrderRec) : (s.setOrder k x).acts = s.acts := rfl
@[simp] theorem State.setOrder_oldPieces (s : State) (k : Nat) (x : OrderRec) : (s.setOrder k x).oldPieces = s.oldPieces := rfl
@[simp] theorem State.setOrder_parity (s : State) (k : Nat) (x : OrderRec) : (s.setOrder k x).parity = s.parity := rfl
@[simp] theorem State.setOrder_gz (s : State) (k : Nat) (x : OrderRec) : (s.setOrder k x).gz = s.gz := rfl
@[simp] theorem State.setOrder_blobs (s : State) (k : Nat) (x : OrderRec) : (s.setOrder k x).blobs = s.blobs := rfl
@[simp] theorem State.setOrder_parcels (s : State) (k : Nat) (x : OrderRec) : (s.setOrder k x).parcels = s.parcels := rfl
@[simp] theorem State.setOrder_ctxs (s : State) (k : Nat) (x : OrderRec) : (s.setOrder k x).ctxs = s.ctxs := rfl
@[simp] theorem State.setOrder_cports (s : State) (k : Nat) (x : OrderRec) : (s.setOrder k x).cports = s.cports := rfl
@[simp] theorem State.setOrder_members (s : State) (k : Nat) (x : OrderRec) : (s.setOrder k x).members = s.members := rfl
@[simp] theorem State.setOrder_routes (s : State) (k : Nat) (x : OrderRec) : (s.setOrder k x).routes = s.routes := rfl
@[simp] theorem State.setOrder_lends (s : State) (k : Nat) (x : OrderRec) : (s.setOrder k x).lends = s.lends := rfl
@[simp] theorem State.setOrder_borrows (s : State) (k : Nat) (x : OrderRec) : (s.setOrder k x).borrows = s.borrows := rfl
@[simp] theorem State.setOrder_relocs (s : State) (k : Nat) (x : OrderRec) : (s.setOrder k x).relocs = s.relocs := rfl
@[simp] theorem State.setOrder_moves (s : State) (k : Nat) (x : OrderRec) : (s.setOrder k x).moves = s.moves := rfl
@[simp] theorem State.setOrder_custody (s : State) (k : Nat) (x : OrderRec) : (s.setOrder k x).custody = s.custody := rfl
@[simp] theorem State.setOrder_atlas (s : State) (k : Nat) (x : OrderRec) : (s.setOrder k x).atlas = s.atlas := rfl
@[simp] theorem State.setOrder_txns (s : State) (k : Nat) (x : OrderRec) : (s.setOrder k x).txns = s.txns := rfl
@[simp] theorem State.setOrder_uprobes (s : State) (k : Nat) (x : OrderRec) : (s.setOrder k x).uprobes = s.uprobes := rfl
@[simp] theorem State.setOrder_echoes (s : State) (k : Nat) (x : OrderRec) : (s.setOrder k x).echoes = s.echoes := rfl
@[simp] theorem State.setOrder_series (s : State) (k : Nat) (x : OrderRec) : (s.setOrder k x).series = s.series := rfl
@[simp] theorem State.setOrder_out (s : State) (k : Nat) (x : OrderRec) : (s.setOrder k x).out = s.out := rfl
@[simp] theorem State.setOrder_ans (s : State) (k : Nat) (x : OrderRec) : (s.setOrder k x).ans = s.ans := rfl
@[simp] theorem State.setOrder_increments (s : State) (k : Nat) (x : OrderRec) : (s.setOrder k x).increments = s.increments := rfl
@[simp] theorem State.setOrder_chans (s : State) (k : Nat) (x : OrderRec) : (s.setOrder k x).chans = s.chans := rfl
@[simp] theorem State.setOrder_stackTable (s : State) (k : Nat) (x : OrderRec) : (s.setOrder k x).stackTable = s.stackTable := rfl
@[simp] theorem State.setOrder_pass (s : State) (k : Nat) (x : OrderRec) : (s.setOrder k x).pass = s.pass := rfl
@[simp] theorem State.setOrder_ports (s : State) (k : Nat) (x : OrderRec) : (s.setOrder k x).ports = s.ports := rfl
@[simp] theorem State.setOrder_sluice (s : State) (k : Nat) (x : OrderRec) : (s.setOrder k x).sluice = s.sluice := rfl
@[simp] theorem State.setOrder_thoit (s : State) (k : Nat) (x : OrderRec) : (s.setOrder k x).thoit = s.thoit := rfl
@[simp] theorem State.setOrder_dies (s : State) (k : Nat) (x : OrderRec) : (s.setOrder k x).dies = s.dies := rfl
@[simp] theorem State.setOrder_qps (s : State) (k : Nat) (x : OrderRec) : (s.setOrder k x).qps = s.qps := rfl
@[simp] theorem State.setOrder_jets (s : State) (k : Nat) (x : OrderRec) : (s.setOrder k x).jets = s.jets := rfl
@[simp] theorem State.setOrder_tasks (s : State) (k : Nat) (x : OrderRec) : (s.setOrder k x).tasks = s.tasks := rfl
@[simp] theorem State.setOrder_tables (s : State) (k : Nat) (x : OrderRec) : (s.setOrder k x).tables = s.tables := rfl
@[simp] theorem State.setOrder_indexes (s : State) (k : Nat) (x : OrderRec) : (s.setOrder k x).indexes = s.indexes := rfl
@[simp] theorem State.setOrder_drains (s : State) (k : Nat) (x : OrderRec) : (s.setOrder k x).drains = s.drains := rfl
@[simp] theorem State.setOrder_power (s : State) (k : Nat) (x : OrderRec) : (s.setOrder k x).power = s.power := rfl
@[simp] theorem State.setOrder_sec (s : State) (k : Nat) (x : OrderRec) : (s.setOrder k x).sec = s.sec := rfl
@[simp] theorem State.setOrder_boot (s : State) (k : Nat) (x : OrderRec) : (s.setOrder k x).boot = s.boot := rfl
@[simp] theorem State.setOrder_mgmt (s : State) (k : Nat) (x : OrderRec) : (s.setOrder k x).mgmt = s.mgmt := rfl
@[simp] theorem State.setOrder_tele (s : State) (k : Nat) (x : OrderRec) : (s.setOrder k x).tele = s.tele := rfl
@[simp] theorem State.setOrder_running (s : State) (k : Nat) (x : OrderRec) : (s.setOrder k x).running = s.running := rfl
@[simp] theorem State.setOrder_walked (s : State) (k : Nat) (x : OrderRec) : (s.setOrder k x).walked = s.walked := rfl
@[simp] theorem State.setOrder_wire (s : State) (k : Nat) (x : OrderRec) : (s.setOrder k x).wire = s.wire := rfl

@[simp] theorem State.order_setOrder (s : State) (k : Nat) (x : OrderRec) : (s.setOrder k x).order k = x := mget_mput_self _ _ _ _
theorem State.order_setOrder_ne (s : State) {k i : Nat} (x : OrderRec) (h : i ≠ k) : (s.setOrder k x).order i = s.order i := mget_mput_ne _ _ _ _ h

/-! ### setTask -/

@[simp] theorem State.setTask_now (s : State) (j r : Nat) (x : Task) : (s.setTask j r x).now = s.now := rfl
@[simp] theorem State.setTask_benchBase (s : State) (j r : Nat) (x : Task) : (s.setTask j r x).benchBase = s.benchBase := rfl
@[simp] theorem State.setTask_free (s : State) (j r : Nat) (x : Task) : (s.setTask j r x).free = s.free := rfl
@[simp] theorem State.setTask_pending (s : State) (j r : Nat) (x : Task) : (s.setTask j r x).pending = s.pending := rfl
@[simp] theorem State.setTask_parityLines (s : State) (j r : Nat) (x : Task) : (s.setTask j r x).parityLines = s.parityLines := rfl
@[simp] theorem State.setTask_steps (s : State) (j r : Nat) (x : Task) : (s.setTask j r x).steps = s.steps := rfl
@[simp] theorem State.setTask_ring (s : State) (j r : Nat) (x : Task) : (s.setTask j r x).ring = s.ring := rfl
@[simp] theorem State.setTask_inval (s : State) (j r : Nat) (x : Task) : (s.setTask j r x).inval = s.inval := rfl
@[simp] theorem State.setTask_storeIO (s : State) (j r : Nat) (x : Task) : (s.setTask j r x).storeIO = s.storeIO := rfl
@[simp] theorem State.setTask_storeReads (s : State) (j r : Nat) (x : Task) : (s.setTask j r x).storeReads = s.storeReads := rfl
@[simp] theorem State.setTask_lostFreed (s : State) (j r : Nat) (x : Task) : (s.setTask j r x).lostFreed = s.lostFreed := rfl
@[simp] theorem State.setTask_regs (s : State) (j r : Nat) (x : Task) : (s.setTask j r x).regs = s.regs := rfl
@[simp] theorem State.setTask_mem (s : State) (j r : Nat) (x : Task) : (s.setTask j r x).mem = s.mem := rfl
@[simp] theorem State.setTask_bad (s : State) (j r : Nat) (x : Task) : (s.setTask j r x).bad = s.bad := rfl
@[simp] theorem State.setTask_acts (s : State) (j r : Nat) (x : Task) : (s.setTask j r x).acts = s.acts := rfl
@[simp] theorem State.setTask_oldPieces (s : State) (j r : Nat) (x : Task) : (s.setTask j r x).oldPieces = s.oldPieces := rfl
@[simp] theorem State.setTask_parity (s : State) (j r : Nat) (x : Task) : (s.setTask j r x).parity = s.parity := rfl
@[simp] theorem State.setTask_gz (s : State) (j r : Nat) (x : Task) : (s.setTask j r x).gz = s.gz := rfl
@[simp] theorem State.setTask_blobs (s : State) (j r : Nat) (x : Task) : (s.setTask j r x).blobs = s.blobs := rfl
@[simp] theorem State.setTask_parcels (s : State) (j r : Nat) (x : Task) : (s.setTask j r x).parcels = s.parcels := rfl
@[simp] theorem State.setTask_ctxs (s : State) (j r : Nat) (x : Task) : (s.setTask j r x).ctxs = s.ctxs := rfl
@[simp] theorem State.setTask_cports (s : State) (j r : Nat) (x : Task) : (s.setTask j r x).cports = s.cports := rfl
@[simp] theorem State.setTask_members (s : State) (j r : Nat) (x : Task) : (s.setTask j r x).members = s.members := rfl
@[simp] theorem State.setTask_routes (s : State) (j r : Nat) (x : Task) : (s.setTask j r x).routes = s.routes := rfl
@[simp] theorem State.setTask_lends (s : State) (j r : Nat) (x : Task) : (s.setTask j r x).lends = s.lends := rfl
@[simp] theorem State.setTask_borrows (s : State) (j r : Nat) (x : Task) : (s.setTask j r x).borrows = s.borrows := rfl
@[simp] theorem State.setTask_relocs (s : State) (j r : Nat) (x : Task) : (s.setTask j r x).relocs = s.relocs := rfl
@[simp] theorem State.setTask_moves (s : State) (j r : Nat) (x : Task) : (s.setTask j r x).moves = s.moves := rfl
@[simp] theorem State.setTask_custody (s : State) (j r : Nat) (x : Task) : (s.setTask j r x).custody = s.custody := rfl
@[simp] theorem State.setTask_atlas (s : State) (j r : Nat) (x : Task) : (s.setTask j r x).atlas = s.atlas := rfl
@[simp] theorem State.setTask_txns (s : State) (j r : Nat) (x : Task) : (s.setTask j r x).txns = s.txns := rfl
@[simp] theorem State.setTask_uprobes (s : State) (j r : Nat) (x : Task) : (s.setTask j r x).uprobes = s.uprobes := rfl
@[simp] theorem State.setTask_orders (s : State) (j r : Nat) (x : Task) : (s.setTask j r x).orders = s.orders := rfl
@[simp] theorem State.setTask_echoes (s : State) (j r : Nat) (x : Task) : (s.setTask j r x).echoes = s.echoes := rfl
@[simp] theorem State.setTask_series (s : State) (j r : Nat) (x : Task) : (s.setTask j r x).series = s.series := rfl
@[simp] theorem State.setTask_out (s : State) (j r : Nat) (x : Task) : (s.setTask j r x).out = s.out := rfl
@[simp] theorem State.setTask_ans (s : State) (j r : Nat) (x : Task) : (s.setTask j r x).ans = s.ans := rfl
@[simp] theorem State.setTask_increments (s : State) (j r : Nat) (x : Task) : (s.setTask j r x).increments = s.increments := rfl
@[simp] theorem State.setTask_chans (s : State) (j r : Nat) (x : Task) : (s.setTask j r x).chans = s.chans := rfl
@[simp] theorem State.setTask_stackTable (s : State) (j r : Nat) (x : Task) : (s.setTask j r x).stackTable = s.stackTable := rfl
@[simp] theorem State.setTask_pass (s : State) (j r : Nat) (x : Task) : (s.setTask j r x).pass = s.pass := rfl
@[simp] theorem State.setTask_ports (s : State) (j r : Nat) (x : Task) : (s.setTask j r x).ports = s.ports := rfl
@[simp] theorem State.setTask_sluice (s : State) (j r : Nat) (x : Task) : (s.setTask j r x).sluice = s.sluice := rfl
@[simp] theorem State.setTask_thoit (s : State) (j r : Nat) (x : Task) : (s.setTask j r x).thoit = s.thoit := rfl
@[simp] theorem State.setTask_dies (s : State) (j r : Nat) (x : Task) : (s.setTask j r x).dies = s.dies := rfl
@[simp] theorem State.setTask_qps (s : State) (j r : Nat) (x : Task) : (s.setTask j r x).qps = s.qps := rfl
@[simp] theorem State.setTask_jets (s : State) (j r : Nat) (x : Task) : (s.setTask j r x).jets = s.jets := rfl
@[simp] theorem State.setTask_tables (s : State) (j r : Nat) (x : Task) : (s.setTask j r x).tables = s.tables := rfl
@[simp] theorem State.setTask_indexes (s : State) (j r : Nat) (x : Task) : (s.setTask j r x).indexes = s.indexes := rfl
@[simp] theorem State.setTask_drains (s : State) (j r : Nat) (x : Task) : (s.setTask j r x).drains = s.drains := rfl
@[simp] theorem State.setTask_power (s : State) (j r : Nat) (x : Task) : (s.setTask j r x).power = s.power := rfl
@[simp] theorem State.setTask_sec (s : State) (j r : Nat) (x : Task) : (s.setTask j r x).sec = s.sec := rfl
@[simp] theorem State.setTask_boot (s : State) (j r : Nat) (x : Task) : (s.setTask j r x).boot = s.boot := rfl
@[simp] theorem State.setTask_mgmt (s : State) (j r : Nat) (x : Task) : (s.setTask j r x).mgmt = s.mgmt := rfl
@[simp] theorem State.setTask_tele (s : State) (j r : Nat) (x : Task) : (s.setTask j r x).tele = s.tele := rfl
@[simp] theorem State.setTask_running (s : State) (j r : Nat) (x : Task) : (s.setTask j r x).running = s.running := rfl
@[simp] theorem State.setTask_walked (s : State) (j r : Nat) (x : Task) : (s.setTask j r x).walked = s.walked := rfl
@[simp] theorem State.setTask_wire (s : State) (j r : Nat) (x : Task) : (s.setTask j r x).wire = s.wire := rfl

@[simp] theorem State.task_setTask (s : State) (j r : Nat) (x : Task) : (s.setTask j r x).task j r = x := mget_mput_self _ _ _ _

/-! ### setQp -/

@[simp] theorem State.setQp_now (s : State) (t q : Nat) (x : Qp) : (s.setQp t q x).now = s.now := rfl
@[simp] theorem State.setQp_benchBase (s : State) (t q : Nat) (x : Qp) : (s.setQp t q x).benchBase = s.benchBase := rfl
@[simp] theorem State.setQp_free (s : State) (t q : Nat) (x : Qp) : (s.setQp t q x).free = s.free := rfl
@[simp] theorem State.setQp_pending (s : State) (t q : Nat) (x : Qp) : (s.setQp t q x).pending = s.pending := rfl
@[simp] theorem State.setQp_parityLines (s : State) (t q : Nat) (x : Qp) : (s.setQp t q x).parityLines = s.parityLines := rfl
@[simp] theorem State.setQp_steps (s : State) (t q : Nat) (x : Qp) : (s.setQp t q x).steps = s.steps := rfl
@[simp] theorem State.setQp_ring (s : State) (t q : Nat) (x : Qp) : (s.setQp t q x).ring = s.ring := rfl
@[simp] theorem State.setQp_inval (s : State) (t q : Nat) (x : Qp) : (s.setQp t q x).inval = s.inval := rfl
@[simp] theorem State.setQp_storeIO (s : State) (t q : Nat) (x : Qp) : (s.setQp t q x).storeIO = s.storeIO := rfl
@[simp] theorem State.setQp_storeReads (s : State) (t q : Nat) (x : Qp) : (s.setQp t q x).storeReads = s.storeReads := rfl
@[simp] theorem State.setQp_lostFreed (s : State) (t q : Nat) (x : Qp) : (s.setQp t q x).lostFreed = s.lostFreed := rfl
@[simp] theorem State.setQp_regs (s : State) (t q : Nat) (x : Qp) : (s.setQp t q x).regs = s.regs := rfl
@[simp] theorem State.setQp_mem (s : State) (t q : Nat) (x : Qp) : (s.setQp t q x).mem = s.mem := rfl
@[simp] theorem State.setQp_bad (s : State) (t q : Nat) (x : Qp) : (s.setQp t q x).bad = s.bad := rfl
@[simp] theorem State.setQp_acts (s : State) (t q : Nat) (x : Qp) : (s.setQp t q x).acts = s.acts := rfl
@[simp] theorem State.setQp_oldPieces (s : State) (t q : Nat) (x : Qp) : (s.setQp t q x).oldPieces = s.oldPieces := rfl
@[simp] theorem State.setQp_parity (s : State) (t q : Nat) (x : Qp) : (s.setQp t q x).parity = s.parity := rfl
@[simp] theorem State.setQp_gz (s : State) (t q : Nat) (x : Qp) : (s.setQp t q x).gz = s.gz := rfl
@[simp] theorem State.setQp_blobs (s : State) (t q : Nat) (x : Qp) : (s.setQp t q x).blobs = s.blobs := rfl
@[simp] theorem State.setQp_parcels (s : State) (t q : Nat) (x : Qp) : (s.setQp t q x).parcels = s.parcels := rfl
@[simp] theorem State.setQp_ctxs (s : State) (t q : Nat) (x : Qp) : (s.setQp t q x).ctxs = s.ctxs := rfl
@[simp] theorem State.setQp_cports (s : State) (t q : Nat) (x : Qp) : (s.setQp t q x).cports = s.cports := rfl
@[simp] theorem State.setQp_members (s : State) (t q : Nat) (x : Qp) : (s.setQp t q x).members = s.members := rfl
@[simp] theorem State.setQp_routes (s : State) (t q : Nat) (x : Qp) : (s.setQp t q x).routes = s.routes := rfl
@[simp] theorem State.setQp_lends (s : State) (t q : Nat) (x : Qp) : (s.setQp t q x).lends = s.lends := rfl
@[simp] theorem State.setQp_borrows (s : State) (t q : Nat) (x : Qp) : (s.setQp t q x).borrows = s.borrows := rfl
@[simp] theorem State.setQp_relocs (s : State) (t q : Nat) (x : Qp) : (s.setQp t q x).relocs = s.relocs := rfl
@[simp] theorem State.setQp_moves (s : State) (t q : Nat) (x : Qp) : (s.setQp t q x).moves = s.moves := rfl
@[simp] theorem State.setQp_custody (s : State) (t q : Nat) (x : Qp) : (s.setQp t q x).custody = s.custody := rfl
@[simp] theorem State.setQp_atlas (s : State) (t q : Nat) (x : Qp) : (s.setQp t q x).atlas = s.atlas := rfl
@[simp] theorem State.setQp_txns (s : State) (t q : Nat) (x : Qp) : (s.setQp t q x).txns = s.txns := rfl
@[simp] theorem State.setQp_uprobes (s : State) (t q : Nat) (x : Qp) : (s.setQp t q x).uprobes = s.uprobes := rfl
@[simp] theorem State.setQp_orders (s : State) (t q : Nat) (x : Qp) : (s.setQp t q x).orders = s.orders := rfl
@[simp] theorem State.setQp_echoes (s : State) (t q : Nat) (x : Qp) : (s.setQp t q x).echoes = s.echoes := rfl
@[simp] theorem State.setQp_series (s : State) (t q : Nat) (x : Qp) : (s.setQp t q x).series = s.series := rfl
@[simp] theorem State.setQp_out (s : State) (t q : Nat) (x : Qp) : (s.setQp t q x).out = s.out := rfl
@[simp] theorem State.setQp_ans (s : State) (t q : Nat) (x : Qp) : (s.setQp t q x).ans = s.ans := rfl
@[simp] theorem State.setQp_increments (s : State) (t q : Nat) (x : Qp) : (s.setQp t q x).increments = s.increments := rfl
@[simp] theorem State.setQp_chans (s : State) (t q : Nat) (x : Qp) : (s.setQp t q x).chans = s.chans := rfl
@[simp] theorem State.setQp_stackTable (s : State) (t q : Nat) (x : Qp) : (s.setQp t q x).stackTable = s.stackTable := rfl
@[simp] theorem State.setQp_pass (s : State) (t q : Nat) (x : Qp) : (s.setQp t q x).pass = s.pass := rfl
@[simp] theorem State.setQp_ports (s : State) (t q : Nat) (x : Qp) : (s.setQp t q x).ports = s.ports := rfl
@[simp] theorem State.setQp_sluice (s : State) (t q : Nat) (x : Qp) : (s.setQp t q x).sluice = s.sluice := rfl
@[simp] theorem State.setQp_thoit (s : State) (t q : Nat) (x : Qp) : (s.setQp t q x).thoit = s.thoit := rfl
@[simp] theorem State.setQp_dies (s : State) (t q : Nat) (x : Qp) : (s.setQp t q x).dies = s.dies := rfl
@[simp] theorem State.setQp_jets (s : State) (t q : Nat) (x : Qp) : (s.setQp t q x).jets = s.jets := rfl
@[simp] theorem State.setQp_tasks (s : State) (t q : Nat) (x : Qp) : (s.setQp t q x).tasks = s.tasks := rfl
@[simp] theorem State.setQp_tables (s : State) (t q : Nat) (x : Qp) : (s.setQp t q x).tables = s.tables := rfl
@[simp] theorem State.setQp_indexes (s : State) (t q : Nat) (x : Qp) : (s.setQp t q x).indexes = s.indexes := rfl
@[simp] theorem State.setQp_drains (s : State) (t q : Nat) (x : Qp) : (s.setQp t q x).drains = s.drains := rfl
@[simp] theorem State.setQp_power (s : State) (t q : Nat) (x : Qp) : (s.setQp t q x).power = s.power := rfl
@[simp] theorem State.setQp_sec (s : State) (t q : Nat) (x : Qp) : (s.setQp t q x).sec = s.sec := rfl
@[simp] theorem State.setQp_boot (s : State) (t q : Nat) (x : Qp) : (s.setQp t q x).boot = s.boot := rfl
@[simp] theorem State.setQp_mgmt (s : State) (t q : Nat) (x : Qp) : (s.setQp t q x).mgmt = s.mgmt := rfl
@[simp] theorem State.setQp_tele (s : State) (t q : Nat) (x : Qp) : (s.setQp t q x).tele = s.tele := rfl
@[simp] theorem State.setQp_running (s : State) (t q : Nat) (x : Qp) : (s.setQp t q x).running = s.running := rfl
@[simp] theorem State.setQp_walked (s : State) (t q : Nat) (x : Qp) : (s.setQp t q x).walked = s.walked := rfl
@[simp] theorem State.setQp_wire (s : State) (t q : Nat) (x : Qp) : (s.setQp t q x).wire = s.wire := rfl

@[simp] theorem State.qp_setQp (s : State) (t q : Nat) (x : Qp) : (s.setQp t q x).qp t q = x := mget_mput_self _ _ _ _

/-! ### setReloc -/

@[simp] theorem State.setReloc_now (s : State) (p k : Nat) (x : Reloc) : (s.setReloc p k x).now = s.now := rfl
@[simp] theorem State.setReloc_benchBase (s : State) (p k : Nat) (x : Reloc) : (s.setReloc p k x).benchBase = s.benchBase := rfl
@[simp] theorem State.setReloc_free (s : State) (p k : Nat) (x : Reloc) : (s.setReloc p k x).free = s.free := rfl
@[simp] theorem State.setReloc_pending (s : State) (p k : Nat) (x : Reloc) : (s.setReloc p k x).pending = s.pending := rfl
@[simp] theorem State.setReloc_parityLines (s : State) (p k : Nat) (x : Reloc) : (s.setReloc p k x).parityLines = s.parityLines := rfl
@[simp] theorem State.setReloc_steps (s : State) (p k : Nat) (x : Reloc) : (s.setReloc p k x).steps = s.steps := rfl
@[simp] theorem State.setReloc_ring (s : State) (p k : Nat) (x : Reloc) : (s.setReloc p k x).ring = s.ring := rfl
@[simp] theorem State.setReloc_inval (s : State) (p k : Nat) (x : Reloc) : (s.setReloc p k x).inval = s.inval := rfl
@[simp] theorem State.setReloc_storeIO (s : State) (p k : Nat) (x : Reloc) : (s.setReloc p k x).storeIO = s.storeIO := rfl
@[simp] theorem State.setReloc_storeReads (s : State) (p k : Nat) (x : Reloc) : (s.setReloc p k x).storeReads = s.storeReads := rfl
@[simp] theorem State.setReloc_lostFreed (s : State) (p k : Nat) (x : Reloc) : (s.setReloc p k x).lostFreed = s.lostFreed := rfl
@[simp] theorem State.setReloc_regs (s : State) (p k : Nat) (x : Reloc) : (s.setReloc p k x).regs = s.regs := rfl
@[simp] theorem State.setReloc_mem (s : State) (p k : Nat) (x : Reloc) : (s.setReloc p k x).mem = s.mem := rfl
@[simp] theorem State.setReloc_bad (s : State) (p k : Nat) (x : Reloc) : (s.setReloc p k x).bad = s.bad := rfl
@[simp] theorem State.setReloc_acts (s : State) (p k : Nat) (x : Reloc) : (s.setReloc p k x).acts = s.acts := rfl
@[simp] theorem State.setReloc_oldPieces (s : State) (p k : Nat) (x : Reloc) : (s.setReloc p k x).oldPieces = s.oldPieces := rfl
@[simp] theorem State.setReloc_parity (s : State) (p k : Nat) (x : Reloc) : (s.setReloc p k x).parity = s.parity := rfl
@[simp] theorem State.setReloc_gz (s : State) (p k : Nat) (x : Reloc) : (s.setReloc p k x).gz = s.gz := rfl
@[simp] theorem State.setReloc_blobs (s : State) (p k : Nat) (x : Reloc) : (s.setReloc p k x).blobs = s.blobs := rfl
@[simp] theorem State.setReloc_parcels (s : State) (p k : Nat) (x : Reloc) : (s.setReloc p k x).parcels = s.parcels := rfl
@[simp] theorem State.setReloc_ctxs (s : State) (p k : Nat) (x : Reloc) : (s.setReloc p k x).ctxs = s.ctxs := rfl
@[simp] theorem State.setReloc_cports (s : State) (p k : Nat) (x : Reloc) : (s.setReloc p k x).cports = s.cports := rfl
@[simp] theorem State.setReloc_members (s : State) (p k : Nat) (x : Reloc) : (s.setReloc p k x).members = s.members := rfl
@[simp] theorem State.setReloc_routes (s : State) (p k : Nat) (x : Reloc) : (s.setReloc p k x).routes = s.routes := rfl
@[simp] theorem State.setReloc_lends (s : State) (p k : Nat) (x : Reloc) : (s.setReloc p k x).lends = s.lends := rfl
@[simp] theorem State.setReloc_borrows (s : State) (p k : Nat) (x : Reloc) : (s.setReloc p k x).borrows = s.borrows := rfl
@[simp] theorem State.setReloc_moves (s : State) (p k : Nat) (x : Reloc) : (s.setReloc p k x).moves = s.moves := rfl
@[simp] theorem State.setReloc_custody (s : State) (p k : Nat) (x : Reloc) : (s.setReloc p k x).custody = s.custody := rfl
@[simp] theorem State.setReloc_atlas (s : State) (p k : Nat) (x : Reloc) : (s.setReloc p k x).atlas = s.atlas := rfl
@[simp] theorem State.setReloc_txns (s : State) (p k : Nat) (x : Reloc) : (s.setReloc p k x).txns = s.txns := rfl
@[simp] theorem State.setReloc_uprobes (s : State) (p k : Nat) (x : Reloc) : (s.setReloc p k x).uprobes = s.uprobes := rfl
@[simp] theorem State.setReloc_orders (s : State) (p k : Nat) (x : Reloc) : (s.setReloc p k x).orders = s.orders := rfl
@[simp] theorem State.setReloc_echoes (s : State) (p k : Nat) (x : Reloc) : (s.setReloc p k x).echoes = s.echoes := rfl
@[simp] theorem State.setReloc_series (s : State) (p k : Nat) (x : Reloc) : (s.setReloc p k x).series = s.series := rfl
@[simp] theorem State.setReloc_out (s : State) (p k : Nat) (x : Reloc) : (s.setReloc p k x).out = s.out := rfl
@[simp] theorem State.setReloc_ans (s : State) (p k : Nat) (x : Reloc) : (s.setReloc p k x).ans = s.ans := rfl
@[simp] theorem State.setReloc_increments (s : State) (p k : Nat) (x : Reloc) : (s.setReloc p k x).increments = s.increments := rfl
@[simp] theorem State.setReloc_chans (s : State) (p k : Nat) (x : Reloc) : (s.setReloc p k x).chans = s.chans := rfl
@[simp] theorem State.setReloc_stackTable (s : State) (p k : Nat) (x : Reloc) : (s.setReloc p k x).stackTable = s.stackTable := rfl
@[simp] theorem State.setReloc_pass (s : State) (p k : Nat) (x : Reloc) : (s.setReloc p k x).pass = s.pass := rfl
@[simp] theorem State.setReloc_ports (s : State) (p k : Nat) (x : Reloc) : (s.setReloc p k x).ports = s.ports := rfl
@[simp] theorem State.setReloc_sluice (s : State) (p k : Nat) (x : Reloc) : (s.setReloc p k x).sluice = s.sluice := rfl
@[simp] theorem State.setReloc_thoit (s : State) (p k : Nat) (x : Reloc) : (s.setReloc p k x).thoit = s.thoit := rfl
@[simp] theorem State.setReloc_dies (s : State) (p k : Nat) (x : Reloc) : (s.setReloc p k x).dies = s.dies := rfl
@[simp] theorem State.setReloc_qps (s : State) (p k : Nat) (x : Reloc) : (s.setReloc p k x).qps = s.qps := rfl
@[simp] theorem State.setReloc_jets (s : State) (p k : Nat) (x : Reloc) : (s.setReloc p k x).jets = s.jets := rfl
@[simp] theorem State.setReloc_tasks (s : State) (p k : Nat) (x : Reloc) : (s.setReloc p k x).tasks = s.tasks := rfl
@[simp] theorem State.setReloc_tables (s : State) (p k : Nat) (x : Reloc) : (s.setReloc p k x).tables = s.tables := rfl
@[simp] theorem State.setReloc_indexes (s : State) (p k : Nat) (x : Reloc) : (s.setReloc p k x).indexes = s.indexes := rfl
@[simp] theorem State.setReloc_drains (s : State) (p k : Nat) (x : Reloc) : (s.setReloc p k x).drains = s.drains := rfl
@[simp] theorem State.setReloc_power (s : State) (p k : Nat) (x : Reloc) : (s.setReloc p k x).power = s.power := rfl
@[simp] theorem State.setReloc_sec (s : State) (p k : Nat) (x : Reloc) : (s.setReloc p k x).sec = s.sec := rfl
@[simp] theorem State.setReloc_boot (s : State) (p k : Nat) (x : Reloc) : (s.setReloc p k x).boot = s.boot := rfl
@[simp] theorem State.setReloc_mgmt (s : State) (p k : Nat) (x : Reloc) : (s.setReloc p k x).mgmt = s.mgmt := rfl
@[simp] theorem State.setReloc_tele (s : State) (p k : Nat) (x : Reloc) : (s.setReloc p k x).tele = s.tele := rfl
@[simp] theorem State.setReloc_running (s : State) (p k : Nat) (x : Reloc) : (s.setReloc p k x).running = s.running := rfl
@[simp] theorem State.setReloc_walked (s : State) (p k : Nat) (x : Reloc) : (s.setReloc p k x).walked = s.walked := rfl
@[simp] theorem State.setReloc_wire (s : State) (p k : Nat) (x : Reloc) : (s.setReloc p k x).wire = s.wire := rfl

@[simp] theorem State.reloc_setReloc (s : State) (p k : Nat) (x : Reloc) : (s.setReloc p k x).reloc p k = x := mget_mput_self _ _ _ _

/-! ### setHold -/

@[simp] theorem State.setHold_now (s : State) (t key : Nat) (x : Custody) : (s.setHold t key x).now = s.now := rfl
@[simp] theorem State.setHold_benchBase (s : State) (t key : Nat) (x : Custody) : (s.setHold t key x).benchBase = s.benchBase := rfl
@[simp] theorem State.setHold_free (s : State) (t key : Nat) (x : Custody) : (s.setHold t key x).free = s.free := rfl
@[simp] theorem State.setHold_pending (s : State) (t key : Nat) (x : Custody) : (s.setHold t key x).pending = s.pending := rfl
@[simp] theorem State.setHold_parityLines (s : State) (t key : Nat) (x : Custody) : (s.setHold t key x).parityLines = s.parityLines := rfl
@[simp] theorem State.setHold_steps (s : State) (t key : Nat) (x : Custody) : (s.setHold t key x).steps = s.steps := rfl
@[simp] theorem State.setHold_ring (s : State) (t key : Nat) (x : Custody) : (s.setHold t key x).ring = s.ring := rfl
@[simp] theorem State.setHold_inval (s : State) (t key : Nat) (x : Custody) : (s.setHold t key x).inval = s.inval := rfl
@[simp] theorem State.setHold_storeIO (s : State) (t key : Nat) (x : Custody) : (s.setHold t key x).storeIO = s.storeIO := rfl
@[simp] theorem State.setHold_storeReads (s : State) (t key : Nat) (x : Custody) : (s.setHold t key x).storeReads = s.storeReads := rfl
@[simp] theorem State.setHold_lostFreed (s : State) (t key : Nat) (x : Custody) : (s.setHold t key x).lostFreed = s.lostFreed := rfl
@[simp] theorem State.setHold_regs (s : State) (t key : Nat) (x : Custody) : (s.setHold t key x).regs = s.regs := rfl
@[simp] theorem State.setHold_mem (s : State) (t key : Nat) (x : Custody) : (s.setHold t key x).mem = s.mem := rfl
@[simp] theorem State.setHold_bad (s : State) (t key : Nat) (x : Custody) : (s.setHold t key x).bad = s.bad := rfl
@[simp] theorem State.setHold_acts (s : State) (t key : Nat) (x : Custody) : (s.setHold t key x).acts = s.acts := rfl
@[simp] theorem State.setHold_oldPieces (s : State) (t key : Nat) (x : Custody) : (s.setHold t key x).oldPieces = s.oldPieces := rfl
@[simp] theorem State.setHold_parity (s : State) (t key : Nat) (x : Custody) : (s.setHold t key x).parity = s.parity := rfl
@[simp] theorem State.setHold_gz (s : State) (t key : Nat) (x : Custody) : (s.setHold t key x).gz = s.gz := rfl
@[simp] theorem State.setHold_blobs (s : State) (t key : Nat) (x : Custody) : (s.setHold t key x).blobs = s.blobs := rfl
@[simp] theorem State.setHold_parcels (s : State) (t key : Nat) (x : Custody) : (s.setHold t key x).parcels = s.parcels := rfl
@[simp] theorem State.setHold_ctxs (s : State) (t key : Nat) (x : Custody) : (s.setHold t key x).ctxs = s.ctxs := rfl
@[simp] theorem State.setHold_cports (s : State) (t key : Nat) (x : Custody) : (s.setHold t key x).cports = s.cports := rfl
@[simp] theorem State.setHold_members (s : State) (t key : Nat) (x : Custody) : (s.setHold t key x).members = s.members := rfl
@[simp] theorem State.setHold_routes (s : State) (t key : Nat) (x : Custody) : (s.setHold t key x).routes = s.routes := rfl
@[simp] theorem State.setHold_lends (s : State) (t key : Nat) (x : Custody) : (s.setHold t key x).lends = s.lends := rfl
@[simp] theorem State.setHold_borrows (s : State) (t key : Nat) (x : Custody) : (s.setHold t key x).borrows = s.borrows := rfl
@[simp] theorem State.setHold_relocs (s : State) (t key : Nat) (x : Custody) : (s.setHold t key x).relocs = s.relocs := rfl
@[simp] theorem State.setHold_moves (s : State) (t key : Nat) (x : Custody) : (s.setHold t key x).moves = s.moves := rfl
@[simp] theorem State.setHold_atlas (s : State) (t key : Nat) (x : Custody) : (s.setHold t key x).atlas = s.atlas := rfl
@[simp] theorem State.setHold_txns (s : State) (t key : Nat) (x : Custody) : (s.setHold t key x).txns = s.txns := rfl
@[simp] theorem State.setHold_uprobes (s : State) (t key : Nat) (x : Custody) : (s.setHold t key x).uprobes = s.uprobes := rfl
@[simp] theorem State.setHold_orders (s : State) (t key : Nat) (x : Custody) : (s.setHold t key x).orders = s.orders := rfl
@[simp] theorem State.setHold_echoes (s : State) (t key : Nat) (x : Custody) : (s.setHold t key x).echoes = s.echoes := rfl
@[simp] theorem State.setHold_series (s : State) (t key : Nat) (x : Custody) : (s.setHold t key x).series = s.series := rfl
@[simp] theorem State.setHold_out (s : State) (t key : Nat) (x : Custody) : (s.setHold t key x).out = s.out := rfl
@[simp] theorem State.setHold_ans (s : State) (t key : Nat) (x : Custody) : (s.setHold t key x).ans = s.ans := rfl
@[simp] theorem State.setHold_increments (s : State) (t key : Nat) (x : Custody) : (s.setHold t key x).increments = s.increments := rfl
@[simp] theorem State.setHold_chans (s : State) (t key : Nat) (x : Custody) : (s.setHold t key x).chans = s.chans := rfl
@[simp] theorem State.setHold_stackTable (s : State) (t key : Nat) (x : Custody) : (s.setHold t key x).stackTable = s.stackTable := rfl
@[simp] theorem State.setHold_pass (s : State) (t key : Nat) (x : Custody) : (s.setHold t key x).pass = s.pass := rfl
@[simp] theorem State.setHold_ports (s : State) (t key : Nat) (x : Custody) : (s.setHold t key x).ports = s.ports := rfl
@[simp] theorem State.setHold_sluice (s : State) (t key : Nat) (x : Custody) : (s.setHold t key x).sluice = s.sluice := rfl
@[simp] theorem State.setHold_thoit (s : State) (t key : Nat) (x : Custody) : (s.setHold t key x).thoit = s.thoit := rfl
@[simp] theorem State.setHold_dies (s : State) (t key : Nat) (x : Custody) : (s.setHold t key x).dies = s.dies := rfl
@[simp] theorem State.setHold_qps (s : State) (t key : Nat) (x : Custody) : (s.setHold t key x).qps = s.qps := rfl
@[simp] theorem State.setHold_jets (s : State) (t key : Nat) (x : Custody) : (s.setHold t key x).jets = s.jets := rfl
@[simp] theorem State.setHold_tasks (s : State) (t key : Nat) (x : Custody) : (s.setHold t key x).tasks = s.tasks := rfl
@[simp] theorem State.setHold_tables (s : State) (t key : Nat) (x : Custody) : (s.setHold t key x).tables = s.tables := rfl
@[simp] theorem State.setHold_indexes (s : State) (t key : Nat) (x : Custody) : (s.setHold t key x).indexes = s.indexes := rfl
@[simp] theorem State.setHold_drains (s : State) (t key : Nat) (x : Custody) : (s.setHold t key x).drains = s.drains := rfl
@[simp] theorem State.setHold_power (s : State) (t key : Nat) (x : Custody) : (s.setHold t key x).power = s.power := rfl
@[simp] theorem State.setHold_sec (s : State) (t key : Nat) (x : Custody) : (s.setHold t key x).sec = s.sec := rfl
@[simp] theorem State.setHold_boot (s : State) (t key : Nat) (x : Custody) : (s.setHold t key x).boot = s.boot := rfl
@[simp] theorem State.setHold_mgmt (s : State) (t key : Nat) (x : Custody) : (s.setHold t key x).mgmt = s.mgmt := rfl
@[simp] theorem State.setHold_tele (s : State) (t key : Nat) (x : Custody) : (s.setHold t key x).tele = s.tele := rfl
@[simp] theorem State.setHold_running (s : State) (t key : Nat) (x : Custody) : (s.setHold t key x).running = s.running := rfl
@[simp] theorem State.setHold_walked (s : State) (t key : Nat) (x : Custody) : (s.setHold t key x).walked = s.walked := rfl
@[simp] theorem State.setHold_wire (s : State) (t key : Nat) (x : Custody) : (s.setHold t key x).wire = s.wire := rfl

@[simp] theorem State.hold_setHold (s : State) (t key : Nat) (x : Custody) : (s.setHold t key x).hold t key = x := mget_mput_self _ _ _ _

/-! ### setTable -/

@[simp] theorem State.setTable_now (s : State) (h : Nat) (x : Table) : (s.setTable h x).now = s.now := rfl
@[simp] theorem State.setTable_benchBase (s : State) (h : Nat) (x : Table) : (s.setTable h x).benchBase = s.benchBase := rfl
@[simp] theorem State.setTable_free (s : State) (h : Nat) (x : Table) : (s.setTable h x).free = s.free := rfl
@[simp] theorem State.setTable_pending (s : State) (h : Nat) (x : Table) : (s.setTable h x).pending = s.pending := rfl
@[simp] theorem State.setTable_parityLines (s : State) (h : Nat) (x : Table) : (s.setTable h x).parityLines = s.parityLines := rfl
@[simp] theorem State.setTable_steps (s : State) (h : Nat) (x : Table) : (s.setTable h x).steps = s.steps := rfl
@[simp] theorem State.setTable_ring (s : State) (h : Nat) (x : Table) : (s.setTable h x).ring = s.ring := rfl
@[simp] theorem State.setTable_inval (s : State) (h : Nat) (x : Table) : (s.setTable h x).inval = s.inval := rfl
@[simp] theorem State.setTable_storeIO (s : State) (h : Nat) (x : Table) : (s.setTable h x).storeIO = s.storeIO := rfl
@[simp] theorem State.setTable_storeReads (s : State) (h : Nat) (x : Table) : (s.setTable h x).storeReads = s.storeReads := rfl
@[simp] theorem State.setTable_lostFreed (s : State) (h : Nat) (x : Table) : (s.setTable h x).lostFreed = s.lostFreed := rfl
@[simp] theorem State.setTable_regs (s : State) (h : Nat) (x : Table) : (s.setTable h x).regs = s.regs := rfl
@[simp] theorem State.setTable_mem (s : State) (h : Nat) (x : Table) : (s.setTable h x).mem = s.mem := rfl
@[simp] theorem State.setTable_bad (s : State) (h : Nat) (x : Table) : (s.setTable h x).bad = s.bad := rfl
@[simp] theorem State.setTable_acts (s : State) (h : Nat) (x : Table) : (s.setTable h x).acts = s.acts := rfl
@[simp] theorem State.setTable_oldPieces (s : State) (h : Nat) (x : Table) : (s.setTable h x).oldPieces = s.oldPieces := rfl
@[simp] theorem State.setTable_parity (s : State) (h : Nat) (x : Table) : (s.setTable h x).parity = s.parity := rfl
@[simp] theorem State.setTable_gz (s : State) (h : Nat) (x : Table) : (s.setTable h x).gz = s.gz := rfl
@[simp] theorem State.setTable_blobs (s : State) (h : Nat) (x : Table) : (s.setTable h x).blobs = s.blobs := rfl
@[simp] theorem State.setTable_parcels (s : State) (h : Nat) (x : Table) : (s.setTable h x).parcels = s.parcels := rfl
@[simp] theorem State.setTable_ctxs (s : State) (h : Nat) (x : Table) : (s.setTable h x).ctxs = s.ctxs := rfl
@[simp] theorem State.setTable_cports (s : State) (h : Nat) (x : Table) : (s.setTable h x).cports = s.cports := rfl
@[simp] theorem State.setTable_members (s : State) (h : Nat) (x : Table) : (s.setTable h x).members = s.members := rfl
@[simp] theorem State.setTable_routes (s : State) (h : Nat) (x : Table) : (s.setTable h x).routes = s.routes := rfl
@[simp] theorem State.setTable_lends (s : State) (h : Nat) (x : Table) : (s.setTable h x).lends = s.lends := rfl
@[simp] theorem State.setTable_borrows (s : State) (h : Nat) (x : Table) : (s.setTable h x).borrows = s.borrows := rfl
@[simp] theorem State.setTable_relocs (s : State) (h : Nat) (x : Table) : (s.setTable h x).relocs = s.relocs := rfl
@[simp] theorem State.setTable_moves (s : State) (h : Nat) (x : Table) : (s.setTable h x).moves = s.moves := rfl
@[simp] theorem State.setTable_custody (s : State) (h : Nat) (x : Table) : (s.setTable h x).custody = s.custody := rfl
@[simp] theorem State.setTable_atlas (s : State) (h : Nat) (x : Table) : (s.setTable h x).atlas = s.atlas := rfl
@[simp] theorem State.setTable_txns (s : State) (h : Nat) (x : Table) : (s.setTable h x).txns = s.txns := rfl
@[simp] theorem State.setTable_uprobes (s : State) (h : Nat) (x : Table) : (s.setTable h x).uprobes = s.uprobes := rfl
@[simp] theorem State.setTable_orders (s : State) (h : Nat) (x : Table) : (s.setTable h x).orders = s.orders := rfl
@[simp] theorem State.setTable_echoes (s : State) (h : Nat) (x : Table) : (s.setTable h x).echoes = s.echoes := rfl
@[simp] theorem State.setTable_series (s : State) (h : Nat) (x : Table) : (s.setTable h x).series = s.series := rfl
@[simp] theorem State.setTable_out (s : State) (h : Nat) (x : Table) : (s.setTable h x).out = s.out := rfl
@[simp] theorem State.setTable_ans (s : State) (h : Nat) (x : Table) : (s.setTable h x).ans = s.ans := rfl
@[simp] theorem State.setTable_increments (s : State) (h : Nat) (x : Table) : (s.setTable h x).increments = s.increments := rfl
@[simp] theorem State.setTable_chans (s : State) (h : Nat) (x : Table) : (s.setTable h x).chans = s.chans := rfl
@[simp] theorem State.setTable_stackTable (s : State) (h : Nat) (x : Table) : (s.setTable h x).stackTable = s.stackTable := rfl
@[simp] theorem State.setTable_pass (s : State) (h : Nat) (x : Table) : (s.setTable h x).pass = s.pass := rfl
@[simp] theorem State.setTable_ports (s : State) (h : Nat) (x : Table) : (s.setTable h x).ports = s.ports := rfl
@[simp] theorem State.setTable_sluice (s : State) (h : Nat) (x : Table) : (s.setTable h x).sluice = s.sluice := rfl
@[simp] theorem State.setTable_thoit (s : State) (h : Nat) (x : Table) : (s.setTable h x).thoit = s.thoit := rfl
@[simp] theorem State.setTable_dies (s : State) (h : Nat) (x : Table) : (s.setTable h x).dies = s.dies := rfl
@[simp] theorem State.setTable_qps (s : State) (h : Nat) (x : Table) : (s.setTable h x).qps = s.qps := rfl
@[simp] theorem State.setTable_jets (s : State) (h : Nat) (x : Table) : (s.setTable h x).jets = s.jets := rfl
@[simp] theorem State.setTable_tasks (s : State) (h : Nat) (x : Table) : (s.setTable h x).tasks = s.tasks := rfl
@[simp] theorem State.setTable_indexes (s : State) (h : Nat) (x : Table) : (s.setTable h x).indexes = s.indexes := rfl
@[simp] theorem State.setTable_drains (s : State) (h : Nat) (x : Table) : (s.setTable h x).drains = s.drains := rfl
@[simp] theorem State.setTable_power (s : State) (h : Nat) (x : Table) : (s.setTable h x).power = s.power := rfl
@[simp] theorem State.setTable_sec (s : State) (h : Nat) (x : Table) : (s.setTable h x).sec = s.sec := rfl
@[simp] theorem State.setTable_boot (s : State) (h : Nat) (x : Table) : (s.setTable h x).boot = s.boot := rfl
@[simp] theorem State.setTable_mgmt (s : State) (h : Nat) (x : Table) : (s.setTable h x).mgmt = s.mgmt := rfl
@[simp] theorem State.setTable_tele (s : State) (h : Nat) (x : Table) : (s.setTable h x).tele = s.tele := rfl
@[simp] theorem State.setTable_running (s : State) (h : Nat) (x : Table) : (s.setTable h x).running = s.running := rfl
@[simp] theorem State.setTable_walked (s : State) (h : Nat) (x : Table) : (s.setTable h x).walked = s.walked := rfl
@[simp] theorem State.setTable_wire (s : State) (h : Nat) (x : Table) : (s.setTable h x).wire = s.wire := rfl

@[simp] theorem State.setTable_self (s : State) (h : Nat) (x : Table) : mget {} (s.setTable h x).tables h = x := mget_mput_self _ _ _ _

/-! ### setIndex -/

@[simp] theorem State.setIndex_now (s : State) (h : Nat) (x : Index) : (s.setIndex h x).now = s.now := rfl
@[simp] theorem State.setIndex_benchBase (s : State) (h : Nat) (x : Index) : (s.setIndex h x).benchBase = s.benchBase := rfl
@[simp] theorem State.setIndex_free (s : State) (h : Nat) (x : Index) : (s.setIndex h x).free = s.free := rfl
@[simp] theorem State.setIndex_pending (s : State) (h : Nat) (x : Index) : (s.setIndex h x).pending = s.pending := rfl
@[simp] theorem State.setIndex_parityLines (s : State) (h : Nat) (x : Index) : (s.setIndex h x).parityLines = s.parityLines := rfl
@[simp] theorem State.setIndex_steps (s : State) (h : Nat) (x : Index) : (s.setIndex h x).steps = s.steps := rfl
@[simp] theorem State.setIndex_ring (s : State) (h : Nat) (x : Index) : (s.setIndex h x).ring = s.ring := rfl
@[simp] theorem State.setIndex_inval (s : State) (h : Nat) (x : Index) : (s.setIndex h x).inval = s.inval := rfl
@[simp] theorem State.setIndex_storeIO (s : State) (h : Nat) (x : Index) : (s.setIndex h x).storeIO = s.storeIO := rfl
@[simp] theorem State.setIndex_storeReads (s : State) (h : Nat) (x : Index) : (s.setIndex h x).storeReads = s.storeReads := rfl
@[simp] theorem State.setIndex_lostFreed (s : State) (h : Nat) (x : Index) : (s.setIndex h x).lostFreed = s.lostFreed := rfl
@[simp] theorem State.setIndex_regs (s : State) (h : Nat) (x : Index) : (s.setIndex h x).regs = s.regs := rfl
@[simp] theorem State.setIndex_mem (s : State) (h : Nat) (x : Index) : (s.setIndex h x).mem = s.mem := rfl
@[simp] theorem State.setIndex_bad (s : State) (h : Nat) (x : Index) : (s.setIndex h x).bad = s.bad := rfl
@[simp] theorem State.setIndex_acts (s : State) (h : Nat) (x : Index) : (s.setIndex h x).acts = s.acts := rfl
@[simp] theorem State.setIndex_oldPieces (s : State) (h : Nat) (x : Index) : (s.setIndex h x).oldPieces = s.oldPieces := rfl
@[simp] theorem State.setIndex_parity (s : State) (h : Nat) (x : Index) : (s.setIndex h x).parity = s.parity := rfl
@[simp] theorem State.setIndex_gz (s : State) (h : Nat) (x : Index) : (s.setIndex h x).gz = s.gz := rfl
@[simp] theorem State.setIndex_blobs (s : State) (h : Nat) (x : Index) : (s.setIndex h x).blobs = s.blobs := rfl
@[simp] theorem State.setIndex_parcels (s : State) (h : Nat) (x : Index) : (s.setIndex h x).parcels = s.parcels := rfl
@[simp] theorem State.setIndex_ctxs (s : State) (h : Nat) (x : Index) : (s.setIndex h x).ctxs = s.ctxs := rfl
@[simp] theorem State.setIndex_cports (s : State) (h : Nat) (x : Index) : (s.setIndex h x).cports = s.cports := rfl
@[simp] theorem State.setIndex_members (s : State) (h : Nat) (x : Index) : (s.setIndex h x).members = s.members := rfl
@[simp] theorem State.setIndex_routes (s : State) (h : Nat) (x : Index) : (s.setIndex h x).routes = s.routes := rfl
@[simp] theorem State.setIndex_lends (s : State) (h : Nat) (x : Index) : (s.setIndex h x).lends = s.lends := rfl
@[simp] theorem State.setIndex_borrows (s : State) (h : Nat) (x : Index) : (s.setIndex h x).borrows = s.borrows := rfl
@[simp] theorem State.setIndex_relocs (s : State) (h : Nat) (x : Index) : (s.setIndex h x).relocs = s.relocs := rfl
@[simp] theorem State.setIndex_moves (s : State) (h : Nat) (x : Index) : (s.setIndex h x).moves = s.moves := rfl
@[simp] theorem State.setIndex_custody (s : State) (h : Nat) (x : Index) : (s.setIndex h x).custody = s.custody := rfl
@[simp] theorem State.setIndex_atlas (s : State) (h : Nat) (x : Index) : (s.setIndex h x).atlas = s.atlas := rfl
@[simp] theorem State.setIndex_txns (s : State) (h : Nat) (x : Index) : (s.setIndex h x).txns = s.txns := rfl
@[simp] theorem State.setIndex_uprobes (s : State) (h : Nat) (x : Index) : (s.setIndex h x).uprobes = s.uprobes := rfl
@[simp] theorem State.setIndex_orders (s : State) (h : Nat) (x : Index) : (s.setIndex h x).orders = s.orders := rfl
@[simp] theorem State.setIndex_echoes (s : State) (h : Nat) (x : Index) : (s.setIndex h x).echoes = s.echoes := rfl
@[simp] theorem State.setIndex_series (s : State) (h : Nat) (x : Index) : (s.setIndex h x).series = s.series := rfl
@[simp] theorem State.setIndex_out (s : State) (h : Nat) (x : Index) : (s.setIndex h x).out = s.out := rfl
@[simp] theorem State.setIndex_ans (s : State) (h : Nat) (x : Index) : (s.setIndex h x).ans = s.ans := rfl
@[simp] theorem State.setIndex_increments (s : State) (h : Nat) (x : Index) : (s.setIndex h x).increments = s.increments := rfl
@[simp] theorem State.setIndex_chans (s : State) (h : Nat) (x : Index) : (s.setIndex h x).chans = s.chans := rfl
@[simp] theorem State.setIndex_stackTable (s : State) (h : Nat) (x : Index) : (s.setIndex h x).stackTable = s.stackTable := rfl
@[simp] theorem State.setIndex_pass (s : State) (h : Nat) (x : Index) : (s.setIndex h x).pass = s.pass := rfl
@[simp] theorem State.setIndex_ports (s : State) (h : Nat) (x : Index) : (s.setIndex h x).ports = s.ports := rfl
@[simp] theorem State.setIndex_sluice (s : State) (h : Nat) (x : Index) : (s.setIndex h x).sluice = s.sluice := rfl
@[simp] theorem State.setIndex_thoit (s : State) (h : Nat) (x : Index) : (s.setIndex h x).thoit = s.thoit := rfl
@[simp] theorem State.setIndex_dies (s : State) (h : Nat) (x : Index) : (s.setIndex h x).dies = s.dies := rfl
@[simp] theorem State.setIndex_qps (s : State) (h : Nat) (x : Index) : (s.setIndex h x).qps = s.qps := rfl
@[simp] theorem State.setIndex_jets (s : State) (h : Nat) (x : Index) : (s.setIndex h x).jets = s.jets := rfl
@[simp] theorem State.setIndex_tasks (s : State) (h : Nat) (x : Index) : (s.setIndex h x).tasks = s.tasks := rfl
@[simp] theorem State.setIndex_tables (s : State) (h : Nat) (x : Index) : (s.setIndex h x).tables = s.tables := rfl
@[simp] theorem State.setIndex_drains (s : State) (h : Nat) (x : Index) : (s.setIndex h x).drains = s.drains := rfl
@[simp] theorem State.setIndex_power (s : State) (h : Nat) (x : Index) : (s.setIndex h x).power = s.power := rfl
@[simp] theorem State.setIndex_sec (s : State) (h : Nat) (x : Index) : (s.setIndex h x).sec = s.sec := rfl
@[simp] theorem State.setIndex_boot (s : State) (h : Nat) (x : Index) : (s.setIndex h x).boot = s.boot := rfl
@[simp] theorem State.setIndex_mgmt (s : State) (h : Nat) (x : Index) : (s.setIndex h x).mgmt = s.mgmt := rfl
@[simp] theorem State.setIndex_tele (s : State) (h : Nat) (x : Index) : (s.setIndex h x).tele = s.tele := rfl
@[simp] theorem State.setIndex_running (s : State) (h : Nat) (x : Index) : (s.setIndex h x).running = s.running := rfl
@[simp] theorem State.setIndex_walked (s : State) (h : Nat) (x : Index) : (s.setIndex h x).walked = s.walked := rfl
@[simp] theorem State.setIndex_wire (s : State) (h : Nat) (x : Index) : (s.setIndex h x).wire = s.wire := rfl

@[simp] theorem State.setIndex_self (s : State) (h : Nat) (x : Index) : mget {} (s.setIndex h x).indexes h = x := mget_mput_self _ _ _ _

/-! ### Registers and gazetteer numbers -/

@[simp] theorem State.reg_setReg (s : State) (off : Nat) (v : Word) : (s.setReg off v).reg off = v := mget_mput_self _ _ _ _
theorem State.reg_setReg_ne (s : State) {off k : Nat} (v : Word) (h : k ≠ off) : (s.setReg off v).reg k = s.reg k := mget_mput_ne _ _ _ _ h
@[simp] theorem State.reg_setRf (s : State) (off lo w x : Nat) : (s.setRf off lo w x).reg off = withField (s.reg off) lo w x :=
  State.reg_setReg _ _ _
theorem State.reg_setRf_ne (s : State) {off k : Nat} (lo w x : Nat) (h : k ≠ off) : (s.setRf off lo w x).reg k = s.reg k :=
  State.reg_setReg_ne _ _ h
@[simp] theorem State.gzv_setGz (s : State) (idx sub v : Nat) : (s.setGz idx sub v).gzv idx sub = v := mget_mput_self _ _ _ _

/-! ### A change made for each element -/

/-- What every step of a fold keeps, the fold keeps. -/
theorem State.forEach_keeps {α β : Type} (g : State → β) (f : State → α → State) (h : ∀ s a, g (f s a) = g s) (s : State) (l : List α) :
    g (s.forEach l f) = g s := by
  induction l generalizing s with
  | nil => rfl
  | cons a l ih => exact (ih (f s a)).trans (h s a)

/-- An invariant every step of a fold keeps, the fold keeps. -/
theorem State.forEach_inv {α : Type} (P : State → Prop) (f : State → α → State) (h : ∀ s a, P s → P (f s a)) (s : State) (l : List α)
    (hs : P s) : P (s.forEach l f) := by
  induction l generalizing s with
  | nil => exact hs
  | cons a l ih => exact ih (f s a) (h s a hs)

end Sys2Proof.Machine
end

