-- ==== Sys2Proof/Laws/Ops.lean ====
section
/-!
SUPPORT. What the operations most commands share do: a register field set or counted up, a command's end, a command that goes on, an
event raised.
-/

set_option Elab.async false

namespace Sys2Proof.Machine

/-- A register field that was set reads what was put in, cut to its width. -/
theorem rf_setRf (s : State) (off lo w x : Nat) (h : lo + w ≤ 64) : (s.setRf off lo w x).rf off lo w = x % 2 ^ w := by
  rw [State.rf, State.reg_setRf, field_withField _ _ _ _ h]

/-- A field apart from it in the same register stays. -/
theorem rf_setRf_apart (s : State) (off lo w x lo' w' : Nat) (h : lo + w ≤ 64) (ha : lo' + w' ≤ lo ∨ lo + w ≤ lo') :
    (s.setRf off lo w x).rf off lo' w' = s.rf off lo' w' := by
  rw [State.rf, State.reg_setRf, field_withField_apart _ _ _ _ _ _ h ha, State.rf]

/-- Every field of another register stays. -/
theorem rf_setRf_ne (s : State) {off k : Nat} (lo w x lo' w' : Nat) (h : k ≠ off) : (s.setRf off lo w x).rf k lo' w' = s.rf k lo' w' := by
  rw [State.rf, State.reg_setRf_ne s lo w x h, State.rf]

theorem rf_lt (s : State) (off lo w : Nat) : s.rf off lo w < 2 ^ w := Nat.mod_lt _ (by positivity)

/-- A counter advances modulo its width (R463). -/
theorem rf_bump (s : State) (off lo w n : Nat) (h : lo + w ≤ 64) : (s.bump off lo w n).rf off lo w = (s.rf off lo w + n) % 2 ^ w :=
  rf_setRf s off lo w _ h

/-! ### The end of a command (R50) -/

@[simp] theorem State.done_mem (s : State) (c : CmdRegs) (r : Nat) : (s.done c r).mem = s.mem := rfl
@[simp] theorem State.done_parcels (s : State) (c : CmdRegs) (r : Nat) : (s.done c r).parcels = s.parcels := rfl
@[simp] theorem State.done_ctxs (s : State) (c : CmdRegs) (r : Nat) : (s.done c r).ctxs = s.ctxs := rfl
@[simp] theorem State.done_atlas (s : State) (c : CmdRegs) (r : Nat) : (s.done c r).atlas = s.atlas := rfl
@[simp] theorem State.done_pending (s : State) (c : CmdRegs) (r : Nat) : (s.done c r).pending = s.pending := rfl
theorem State.done_reg_ne (s : State) (c : CmdRegs) (r : Nat) {k : Nat} (h : k ≠ c.status) : (s.done c r).reg k = s.reg k :=
  State.reg_setReg_ne s _ h

theorem done_reg (s : State) (c : CmdRegs) (r : Nat) : (s.done c r).reg c.status
    = withField (withField (withField (s.reg c.status) 0 1 0) 4 4 r) 32 32 (s.rf c.status 32 32 + 1) := State.reg_setReg _ _ _

/-- BUSY is 0 after a command. -/
theorem done_idle (s : State) (c : CmdRegs) (r : Nat) : (s.done c r).busy c = false := by
  have : (s.done c r).rf c.status 0 1 = 0 := by
    rw [State.rf, done_reg, field_withField_apart _ _ _ _ _ _ (by omega) (by omega), field_withField_apart _ _ _ _ _ _ (by omega) (by omega),
      field_withField _ _ _ _ (by omega)]
    rfl
  simp [State.busy, this]

/-- RESULT is the command's result. -/
theorem done_result (s : State) (c : CmdRegs) (r : Nat) : (s.done c r).rf c.status 4 4 = r % 16 := by
  rw [State.rf, done_reg, field_withField_apart _ _ _ _ _ _ (by omega) (by omega), field_withField _ _ _ _ (by omega)]
  rfl

/-- DONE_COUNT advances, modulo 2^32. -/
theorem done_count (s : State) (c : CmdRegs) (r : Nat) : (s.done c r).rf c.status 32 32 = (s.rf c.status 32 32 + 1) % 2 ^ 32 := by
  rw [State.rf, done_reg, field_withField _ _ _ _ (by omega)]

/-- BUSY is 1 while a command goes on, and its word is kept. -/
theorem keepBusy_busy (s : State) (c : CmdRegs) (w : Word) : (s.keepBusy c w).busy c = true := by
  have : (s.keepBusy c w).rf c.status 0 1 = 1 := rf_setRf s c.status 0 1 1 (by omega)
  simp [State.busy, this]

theorem keepBusy_word (s : State) (c : CmdRegs) (w : Word) : (s.keepBusy c w).runningWord c = w := mget_mset_self _ _ _ _

/-! ### Events (R471) -/

/-- What queues an event frame keeps. -/
theorem queueEvent_keeps {β : Type} (g : State → β) (h1 : ∀ s u x, g (State.setBus s u x) = g s) (h2 : ∀ s i k v, g (State.setGz s i k v) = g s)
    (s : State) (u : Bus) (e : Event) : g (s.queueEvent u e) = g s := by
  unfold State.queueEvent
  split
  · dsimp only
    split
    · exact h1 _ _ _
    · exact h2 _ _ _ _
  · rfl

theorem setBus_mem (s : State) (u : Bus) (x : BusState) : (s.setBus u x).mem = s.mem := by cases u <;> rfl
theorem setBus_regs (s : State) (u : Bus) (x : BusState) : (s.setBus u x).regs = s.regs := by cases u <;> rfl

theorem logEvent_mem (s : State) (e : Event) : (s.logEvent e).mem = s.mem := by unfold State.logEvent; split <;> [rfl; (split <;> rfl)]
theorem logEvent_regs (s : State) (e : Event) : (s.logEvent e).regs = s.regs := by unfold State.logEvent; split <;> [rfl; (split <;> rfl)]

/-- An event raised leaves memory as it was. -/
theorem raise_mem (s : State) (code origin : Nat) (p : List (Nat × Nat)) : (s.raise code origin p).mem = s.mem := by
  unfold State.raise State.raiseF
  dsimp only
  rw [queueEvent_keeps (·.mem) setBus_mem (fun _ _ _ _ => rfl), queueEvent_keeps (·.mem) setBus_mem (fun _ _ _ _ => rfl), logEvent_mem]

/-- An event raised leaves every register as it was. -/
theorem raise_regs (s : State) (code origin : Nat) (p : List (Nat × Nat)) : (s.raise code origin p).regs = s.regs := by
  unfold State.raise State.raiseF
  dsimp only
  rw [queueEvent_keeps (·.regs) setBus_regs (fun _ _ _ _ => rfl), queueEvent_keeps (·.regs) setBus_regs (fun _ _ _ _ => rfl), logEvent_regs]

end Sys2Proof.Machine
end

