-- ==== Sys2Proof/Machine/Wire.lean ====
section
/-!
DEFINITION. Frames on the lanes of a port, and flits and control halves on those of the Thoit link (Tables 11-2, 11-4, 11-5), bit by bit: the header of Table 9-2, MASK, LINK_INIT, LINK_ACK (R237, R241, R245, R249) and
the CRC over them (R243); what a receiver reads of them. The commands of a port name frames by their fields; these are the
bytes behind the names.
-/

namespace Sys2Proof.Machine

/-! ### CRC (R243) -/

/-- One bit of the reflected CRC-32 of IEEE 802.3: the polynomial 0x04C1_1DB7 with its bits turned round. -/
def crcBit (c : BitVec 32) : BitVec 32 := if c.getLsbD 0 then (c >>> 1) ^^^ 0xEDB88320 else c >>> 1

/-- One byte of it, bit 0 first. -/
def crcByte (c : BitVec 32) (b : Byte) : BitVec 32 := (List.range 8).foldl (fun c _ => crcBit c) (c ^^^ b.setWidth 32)

/-- The CRC of bytes: initial value all ones, final complement. -/
def crc32 (l : List Byte) : BitVec 32 := ~~~ (l.foldl crcByte 0xFFFFFFFF)

/-- The 28 bytes of a frame before its CRC, its CRC in bytes 28 to 31, and its payload. -/
def withCrc (bits : Nat) (payload : List Byte) : List Byte :=
  let head := bytesOfNat 28 bits
  head ++ bytesOfNat 4 (crc32 (head ++ payload)).toNat ++ payload

/-! ### Frames sent (Tables 9-1, 9-2, 9-6) -/

/-- Header bits 0 to 223 (Table 9-2); reserved bits are zero (R242). -/
def headerBits (f : Frame) : Nat :=
  packNat [(4, f.ver.toNat), (8, f.typ.toNat), (3, f.vc.toNat), (1, bitN f.isSeal), (16, f.ctx.toNat), (14, f.src.toNat), (1, bitN f.ord),
    (1, 0), (14, f.dst.toNat), (2, 0), (24, f.seq.toNat), (8, f.gauge.toNat), (8, f.status.toNat), (8, 0), (46, f.addr.toNat), (2, 0),
    (64, f.aux.toNat)]

/-- MASK bits 0 to 223 (R245). -/
def maskBits (f : Frame) : Nat := packNat [(4, f.ver.toNat), (8, 0x1F), (4, 0), (128, f.mask.toNat)]

/-- The bytes of a frame on the lanes: a MASK alone, or a header with its payload and, of a masked write, the MASK after it (R240, R245). -/
def frameBytes (f : Frame) : List Byte :=
  if f.typ = 0x1F then withCrc (maskBits f) []
  else withCrc (headerBits f) (if hasPayload f.typ.toNat then lineBytes f.data 0 128 else [])
    ++ (if isMasked f.typ.toNat then withCrc (maskBits f) [] else [])

/-- LINK_INIT (Table 9-1): VER is 0x1 in every generation. -/
def linkInitBytes (m : LinkInit) : List Byte :=
  withCrc (packNat ([(4, 1), (8, 0x01), (3, m.genMask.toNat), (1, bitN m.initAck), (14, m.device.toNat), (1, bitN m.deviceValid), (1, 0),
    (9, m.rxLanes.toNat), (7, 0)] ++ m.crd.toList.map (fun c => (12, c.toNat)))) []

/-- LINK_ACK (Table 9-6), in the negotiated version, 0x1 for generation 1 (R238). -/
def linkAckBytes (m : LinkAck) : List Byte :=
  withCrc (packNat ([(4, 1), (8, 0x02), (1, bitN m.nak), (3, 0), (16, m.ack.toNat)] ++ m.crd.toList.map (fun c => (12, c.toNat)))) []

/-- REPLAY: START in AUX [15:0] (Table 9-3). -/
def replayFrame (start : Nat) : Frame := { typ := 0x03, aux := BitVec.ofNat 64 (start % 65536) }

/-- LANE_SWAP: the new RX_LANES in AUX [8:0] (Table 9-3). -/
def laneSwapFrame (lanes : BitVec 9) : Frame := { typ := 0x04, aux := lanes.setWidth 64 }

/-! ### The Thoit link (Tables 11-2, 11-4, 11-5) -/

/-- The header of a Thoit message: SRC, DST and VC are sent as zero (R303). -/
def thoitHeader (f : Frame) : Nat := headerBits { f with src := 0, dst := 0, vc := 0 }

/-- The 256 bytes of a flit: M0 with its payload, then up to three messages without one; what stands empty is zero (R302). -/
def flitBytes (m : Flit) : List Byte :=
  let m0 := match m.msgs.head? with
    | some f => withCrc (thoitHeader f) (if thoitPayload f.typ.toNat then lineBytes f.data 0 128 else [])
    | none => []
  let l := m0 ++ List.replicate (160 - m0.length) 0
  let l := l ++ (m.msgs.drop 1).flatMap (fun f => withCrc (thoitHeader f) [])
  l ++ List.replicate (256 - l.length) 0

/-- The sixteen bytes of a flit that lane i of the active lanes carries (R294). -/
def laneShare (l : List Byte) (i : Nat) : List Byte := (l.drop (16 * i)).take 16

/-- A receipt entry (Table 11-5). -/
def receiptBits (r : Receipt) : Nat := packNat [(4, r.code), (2, r.state), (2, 0), (8, r.status.toNat), (16, 0)]

/-- The 128 bytes of a control half the Golik sends (Table 11-4): fields of the other direction are zero, and the usable-lane mask
stands in bytes 64 to 66 (R296, R298). -/
def controlBytes (g : Nat) (m : CtlOut) : List Byte :=
  let bits := packNat ([(16, m.cycle), (16, m.flitAck), (1, bitN m.nak), (1, bitN m.replay), (1, bitN m.swap), (1, bitN m.init), (1, g),
    (1, bitN m.rejoin), (2, 0), (24, 0)] ++ (List.range 12).map (fun i => (32, receiptBits (mget {} m.receipts i)))
    ++ [(64, 0), (17, m.lanes.toNat), (367, 0), (16, m.start), (80, 0)])
  let head := bytesOfNat 124 bits
  head ++ bytesOfNat 4 (crc32 head).toNat

/-- The control half a receiver reads: GrantAcks, or while INIT is set the usable-lane mask, stand from byte 64 on; none where its CRC
fails, for it is then ignored (R310). -/
def readControl (l : List Byte) : Option ControlHalf :=
  let h := natOfBytes (l.take 124)
  let bits (lo w : Nat) : Nat := h / 2 ^ lo % 2 ^ w
  if crc32 (l.take 124) = BitVec.ofNat 32 (natOfBytes ((l.drop 124).take 4)) then
    some { cycle := BitVec.ofNat 16 (bits 0 16), flitAck := BitVec.ofNat 16 (bits 16 16), nak := bits 32 1 == 1, replay := bits 33 1 == 1,
           swap := bits 34 1 == 1, init := bits 35 1 == 1, rejoin := bits 37 1 == 1,
           credit := Vector.ofFn (fun k : Fin 4 => BitVec.ofNat 16 (bits (448 + 16 * k.val) 16)),
           gacks := Vector.ofFn (fun k : Fin 12 =>
             if bits 35 1 = 0 ∧ bits (512 + 32 * k.val + 24) 1 = 1 then some (BitVec.ofNat 24 (bits (512 + 32 * k.val) 24)) else none),
           lanes := if bits 35 1 = 1 ∨ bits 34 1 = 1 then BitVec.ofNat 17 (bits 512 17) else 0, start := BitVec.ofNat 16 (bits 896 16) }
  else none

/-- The bytes of a flit or a control half driven outward, with its group. -/
def Sent.thoitBytes : Sent → Option (Nat × List Byte)
  | .flit g m => some (g, flitBytes m)
  | .control g m => some (g, controlBytes g m)
  | _ => none

/-- The bytes a thing driven outward puts on the lanes of a port; none for what goes to the Thoit link or a management bus. -/
def Sent.portBytes : Sent → Option (Nat × List Byte)
  | .frame p f => some (p, frameBytes f)
  | .linkInit p m => some (p, linkInitBytes m)
  | .linkAck p m => some (p, linkAckBytes m)
  | .replay p start => some (p, frameBytes (replayFrame start))
  | .laneSwap p lanes => some (p, frameBytes (laneSwapFrame lanes))
  | _ => none

/-! ### Frames received -/

/-- The CRC of a frame of 32 or 160 bytes holds; it is checked before any field is used (R243). -/
def crcGood (l : List Byte) : Bool := decide (crc32 (l.take 28 ++ l.drop 32) = BitVec.ofNat 32 (natOfBytes ((l.drop 28).take 4)))

/-- The type of a frame from its bytes. -/
def typeOfBytes (l : List Byte) : Nat := natOfBytes (l.take 4) / 2 ^ 4 % 2 ^ 8

/-- The frame a receiver reads from its bytes; reserved bits are ignored (R242). none where its CRC fails. A MASK gives its BYTE_EN alone. -/
def readFrame (l : List Byte) : Option Frame :=
  if !crcGood l then none
  else
    let h := natOfBytes (l.take 28)
    let bits (lo w : Nat) : Nat := h / 2 ^ lo % 2 ^ w
    if typeOfBytes l = 0x1F then some { ver := BitVec.ofNat 4 (bits 0 4), typ := 0x1F, mask := BitVec.ofNat 128 (bits 16 128) }
    else some {
      ver := BitVec.ofNat 4 (bits 0 4), typ := BitVec.ofNat 8 (bits 4 8), vc := BitVec.ofNat 3 (bits 12 3), isSeal := bits 15 1 == 1,
      ctx := BitVec.ofNat 16 (bits 16 16), src := BitVec.ofNat 14 (bits 32 14), ord := bits 46 1 == 1, dst := BitVec.ofNat 14 (bits 48 14),
      seq := BitVec.ofNat 24 (bits 64 24), gauge := BitVec.ofNat 8 (bits 88 8), status := BitVec.ofNat 8 (bits 96 8),
      addr := BitVec.ofNat 46 (bits 112 46), aux := BitVec.ofNat 64 (bits 160 64), data := lineOfBytes (l.drop 32) }

/-- The LINK_INIT a receiver reads; none where CRC, VER or TYPE is not a LINK_INIT's. -/
def readLinkInit (l : List Byte) : Option LinkInit :=
  let h := natOfBytes (l.take 28)
  let bits (lo w : Nat) : Nat := h / 2 ^ lo % 2 ^ w
  if crcGood l && bits 0 4 == 1 && bits 4 8 == 0x01 then
    some { genMask := BitVec.ofNat 3 (bits 12 3), initAck := bits 15 1 == 1, device := BitVec.ofNat 14 (bits 16 14),
           deviceValid := bits 30 1 == 1, rxLanes := BitVec.ofNat 9 (bits 32 9),
           crd := Vector.ofFn (fun v : Fin 8 => BitVec.ofNat 12 (bits (48 + 12 * v.val) 12)) }
  else none

/-- The LINK_ACK a receiver reads. -/
def readLinkAck (l : List Byte) : Option LinkAck :=
  let h := natOfBytes (l.take 28)
  let bits (lo w : Nat) : Nat := h / 2 ^ lo % 2 ^ w
  if crcGood l && bits 4 8 == 0x02 then
    some { nak := bits 12 1 == 1, ack := BitVec.ofNat 16 (bits 16 16),
           crd := Vector.ofFn (fun v : Fin 6 => BitVec.ofNat 12 (bits (32 + 12 * v.val) 12)) }
  else none

/-- The message a receiver reads at a position of a flit: its header, and at M0 the payload where its type has one; the CRC is over both. -/
def readMsg (l : List Byte) (i : Nat) : Option Frame :=
  let at_ := if i = 0 then l else l.drop (128 + 32 * i)
  let head := at_.take 32
  let body := if i = 0 ∧ carriesPayload (typeOfBytes head) then (l.drop 32).take 128 else []
  readFrame (head ++ body)

end Sys2Proof.Machine
end

