-- ==== Sys2Proof/WellFormed.lean ====
section
/-!
DEFINITION. Which commands are well formed: what the operand types cannot say of what arrives from outside. A bus message
carries at most the data bytes its frame holds, a flit at most four messages, and a signature has the length of an HSS
signature.
-/

namespace Sys2Proof

/-- At most 48 data bytes follow the 16-byte header of a bus message in a frame of 64 (R451). -/
def BusMsg.wf (m : BusMsg) : Bool := decide (m.data.length ≤ 48)

/-- A data flit has four message positions (R302). -/
def Flit.wf (m : Flit) : Bool := decide (m.msgs.length ≤ 4)

/-- The length of an HSS signature with the parameters of R495. -/
def signatureLength : Nat := 5396

/-- A command is well formed. -/
def Instr.wf : Instr → Bool
  | .gzBusRead _ m | .gzBusWrite _ m | .gzBusInfo _ m | .gzBusAbort _ m | .challenge _ m => m.wf
  | .thoitFlitRx _ _ m => m.wf
  | .evidenceReady signature => decide (signature.length = signatureLength)
  | _ => true

end Sys2Proof
end

