-- ==== Sys2Proof/Tests/Slice0.lean ====
section
/-!
SUPPORT. Tests: for each statement concrete states and operands that meet its hypotheses (test_w_<statement>), ill-formed commands,
and a few single effects.
-/

set_option Elab.async false

namespace Sys2Proof.Tests
open Sys2Proof Sys2Proof.Machine

/-- The Golik in a mode, joined with device ID 1, its log made, its image accepted. -/
def inMode (code : Nat) : State :=
  { State.reset.setRf Reg.GL_MODE_STATUS 8 3 code with
      boot := { powered := true, accepted := true, cleared := true, logExists := true, deviceId := some 1, svn := 3 } }

/-- In SERVICE, nothing waiting. -/
def svc : State := inMode 2

/-- In SERVICE, parcel p granted to tenant 7, broad, with every right; tag 5 is a context of tenant 7. -/
def withParcel (p : Nat) : State :=
  (svc.setParcel p { state := .granted, tenant := 7, rights := 0xF, broad := true, gen := 9 }).setCtx 0 { tag := 5, tenant := 7, valid := true }

/-- A command runs: BUSY of its registers is 1, with its word. -/
def runs (s : State) (c : CmdRegs) (w : Word) : State := s.keepBusy c w

/-- Group A of the Thoit link up. -/
def linked (s : State) : State := (s.setRf Reg.GL_THOIT_STATE 0 3 2).setRf Reg.GL_THOIT_STATE 3 3 2

/-- Port 47 up, its peer device 9 with coherence port 5; parcel 0 granted. -/
def home : State :=
  ((withParcel 0).setRf (Reg.PT_LINK_STATE 47) 0 3 2).setCport 5 { device := 9, kind := 0, valid := true }

/-- A request of device 9 for line n under tag 5, of a type. -/
def reqFor (typ n : Nat) : Frame :=
  { typ := BitVec.ofNat 8 typ, vc := 0, ctx := 5, src := 9, dst := 1, seq := 0, addr := BitVec.ofNat 46 (128 * n),
    ord := decide (0x1A ≤ typ) && decide (typ ≤ 0x1C) }

/-- An engine's operation answers. -/
def answers {α : Type} (m : EngM α) (s : State) : Bool := match (m.on s).1 with | .ok _ => true | .error _ => false

/-! ### Concrete cases that meet the hypotheses of each statement -/

theorem test_w_ParcelCommands : (withParcel 2047).quiet = true ∧ (withParcel 2047).mayWrite .companion Reg.GL_PARCEL_CMD true = true ∧
    (withParcel 2047).busy parcelRegs = false ∧ (withParcel 2047).mode = .service ∧ grantBad true 0 0 = false ∧
    ((withParcel 2047).parcel 0).state = .free ∧ (withParcel 2047).grantRoom 0 ((withParcel 2047).grantEntry { parcel := 0, broad := true }) = true ∧
    ((withParcel 2047).parcel 2047).state = .granted ∧ (withParcel 2047).trackedOf 2047 = [] := by decide +kernel

/-- SET_RIGHTS of parcel 2047 runs. -/
def settingRights : State := runs (withParcel 2047) parcelRegs (pack [(4, 3), (11, 2047), (17, 0), (4, 1)])
/-- RELEASE of parcel 2047 runs. -/
def releasing : State := runs (svc.setParcel 2047 { state := .closing, tenant := 7, broad := true }) parcelRegs (pack [(4, 2), (11, 2047)])

theorem test_w_ParcelCommands_ends : settingRights.quiet = true ∧ settingRights.serving = true ∧ settingRights.busy parcelRegs = true ∧
    field (settingRights.runningWord parcelRegs) 0 4 = 3 ∧ settingRights.legPins (field (settingRights.runningWord parcelRegs) 4 11) = false ∧
    releasing.quiet = true ∧ releasing.serving = true ∧ releasing.busy parcelRegs = true ∧ field (releasing.runningWord parcelRegs) 0 4 = 2 ∧
    (releasing.parcel (field (releasing.runningWord parcelRegs) 4 11)).state = .closing ∧
    releasing.parcelQuiet (field (releasing.runningWord parcelRegs) 4 11) = true ∧
    ((svc.setParcel 2047 { state := .clearing }).parcel 2047).state = .clearing ∧ (svc.setParcel 2047 { state := .clearing }).quiet = true := by
  decide +kernel

theorem test_w_ContextsAndInvalidations : (withParcel 0).quiet = true ∧ (withParcel 0).linesOfTag ((withParcel 0).ctxEntry 0).tag = [] ∧ (withParcel 0).mayWrite .companion Reg.GL_CTX_CMD false = true ∧
    (withParcel 0).busy ctxRegs = false ∧ (withParcel 0).isMgmt 0xFFFF = false ∧ ((withParcel 0).ctxEntry 1023).valid = false ∧
    (withParcel 0).ctxOf 0xFFFF = none ∧ ((withParcel 0).ctxEntry 0).valid = true ∧
    (withParcel 0).mayWrite .companion Reg.GL_MGMT_TAG true = true ∧ (withParcel 0).mayWrite .companion Reg.GL_XINV_CMD false = true ∧
    (withParcel 0).busy xinvRegs = false ∧ (∀ d < 4, ((withParcel 0).die d).xreqs = []) := by decide +kernel

/-- A translation request of a die, sent and unanswered. -/
def asked : XReq := { id := 4, die := 3, tag := 5, span := 0, access := 1, va := 128, sentAt := 0 }
/-- The request of die 3 outstanding. -/
def translating : State := (linked svc).setDie 3 { xreqs := [asked] }

theorem test_w_TranslationAnswers : translating.serving = true ∧ translating.groupUp translating.anyGroup = true ∧
    translating.bootMode = false ∧ translating.freeEntry translating.anyGroup < 12 ∧
    (List.range 4).findSome? (fun d => (translating.die d).xreqs.find? (fun x => x.sent && x.id == 4)) = some asked ∧
    asked.reissued = false ∧ asked.waiters = [] ∧ xansBad 25 (2 ^ 60) asked.va = false ∧ (0xF : BitVec 4).getLsbD asked.access = true ∧
    (translating.die asked.die).xlate.length < 8 ∧ (runs svc xinvRegs 1).busy xinvRegs = true ∧ (runs svc xinvRegs 1).invalWaits = false ∧
    (∀ d < 4, ∀ e ∈ ((runs svc xinvRegs 1).die d).xlate, e.drop = false) := by decide +kernel

/-- Map 7 of die 3 validated. -/
def mapped : State := svc.setRf (Reg.BS_TIDE_INFO 3 7) 0 1 1

theorem test_w_TideMapCommands : svc.quiet = true ∧ svc.mayWrite .companion (Reg.BS_TIDE_MAP 3 (1024 * 7 + 512 * 1 + 511)) false = true ∧
    svc.mapValid 3 7 = false ∧ (svc.die 3).validating = none ∧ mapped.quiet = true ∧
    mapped.mayWrite .companion (Reg.BS_TIDE_MAP 3 0) false = true ∧ mapped.mapValid 3 7 = true ∧
    svc.mayWrite .companion (Reg.BS_TIDE_CMD 3) false = true ∧ svc.busy (tideRegs 3) = false ∧ (1 ≤ (16 : BitVec 5).toNat) ∧
    ((16 : BitVec 5).toNat ≤ 16) ∧ 16 < (17 : BitVec 5).toNat := by decide +kernel

/-- VALIDATE of a map of zeros runs on die 3. -/
def validating : State := svc.setDie 3 { validating := some (7, 16, []) }

theorem test_w_TideMapCommands_ends : validating.quiet = true ∧ validating.serving = true ∧ (validating.die 3).validating = some (7, 16, []) ∧
    mapFault (wordsEntry [] 0) (wordsEntry [] 1) 16 = some (0, 2) := by decide +kernel

theorem test_w_ChannelsAndCalendars : svc.quiet = true ∧ svc.mayWrite .companion (chanCfg 191) false = true ∧
    svc.mayWrite .companion (Reg.ST_TIDE_VAR 11) false = true ∧ (svc.setDie 3 { running := true }).serving = true ∧
    ((svc.setDie 3 { running := true }).die 3).running = true := by decide +kernel

/-- SERVICE with channel 0 awake. -/
def awake : State := svc.setRf (chanCfg 0) 7 1 0
/-- A write and a read of line 0 waiting in the F queue of its channel. -/
def fWaits (wr : Bool) : State :=
  awake.setChan 0 { pos := 1, fq := [{ line := 0, use := if wr then .write else .fetch, wr := wr, data := 7, mask := BitVec.allOnes 128, bank := 60 }] }

theorem test_w_SlotClasses : awake.serving = true ∧ awake.chanAsleep 0 = false ∧ awake.stackFailed 0 = false ∧ (awake.chan 0).bound = [] ∧ (awake.chan 0).inner = [] ∧
    (awake.chan 0).ingress = [] ∧ (awake.chan 0).merge = [] ∧ awake.storeIO = [] ∧ entryClass (awake.slotEntry 0 0) = .r ∧
    (∀ wr : Bool, (fWaits wr).serving = true ∧ (fWaits wr).chanAsleep 0 = false ∧ (fWaits wr).stackFailed 0 = false ∧
      entryClass ((fWaits wr).slotEntry 0 1) = .f ∧ ((fWaits wr).chan 0).fq.length = 1 ∧ (fWaits wr).fLegal 0 60 = true) := by decide +kernel

/-- A request whose bank is busy, with the range traverse selected and no pass. -/
def fBlocked : State :=
  (awake.setRf Reg.GL_TRV_MODE 0 1 1).setChan 0 { pos := 1, fq := [{ line := 0, use := .fetch, bank := 60 }], busy := [(60, 9)] }

theorem test_w_SlotClasses_blocked : fBlocked.serving = true ∧ fBlocked.chanAsleep 0 = false ∧ fBlocked.stackFailed 0 = false ∧
    (fBlocked.chan 0).bound = [] ∧ (fBlocked.chan 0).ingress = [] ∧ (fBlocked.chan 0).merge = [] ∧
    entryClass (fBlocked.slotEntry 0 1) = .f ∧ (fBlocked.chan 0).fq = [{ line := 0, use := .fetch, bank := 60 }] ∧
    fBlocked.fLegal 0 60 = false ∧ (fBlocked.chan 0).corr = [] ∧ fBlocked.rebuilding = none ∧ fBlocked.rf Reg.GL_TRV_MODE 0 1 = 1 ∧
    fBlocked.pass = none ∧ (fBlocked.chan 0).inner = [] ∧ fBlocked.storeIO = [] ∧ (fBlocked.parcels.any (fun e => e.2.state == .clearing)) = false := by decide +kernel

/-- A fetch of line 0 in flight on channel 191 and due, a merge entry open there for 512 slots, the channel waking, a parity update of line 3 on its way. -/
def arrays : State :=
  { (svc.setChan 191 { flight := [{ due := 96, f := { line := 0, use := .fetch } }], merge := [{ line := 5, mask := 1 }], waking := true, slots := 512 }).setRf
    (chanCfg 191) 7 1 1 with parity := [{ line := 3, diff := 1 }] }

theorem test_w_ArrayReturns : arrays.serving = true ∧ (arrays.chan 191).flight = [{ due := 96, f := { line := 0, use := .fetch } }] ∧
    96 ≤ (arrays.chan 191).slots ∧ ({} : Decoded).ue = 0 ∧ ({} : Decoded).wrong = 0 ∧ arrays.badWords 0 = 0 ∧
    (arrays.chan 191).oldestOpen = some { line := 5, mask := 1 } ∧ (arrays.chan 191).entryOf 5 = some { line := 5, mask := 1 } ∧
    0 + arrays.gzv 0x5010 0x01 ≤ (arrays.chan 191).slots ∧ arrays.chanAsleep 191 = true ∧ (arrays.chan 191).waking = true ∧
    arrays.parity.find? (fun u => u.line == (3 : BitVec 39).toNat && !u.arrived) = some { line := 3, diff := 1 } ∧
    arrays.parity.find? (fun u => u.line == (4 : BitVec 39).toNat && !u.arrived) = none := by decide +kernel

/-- A position of a line's own stripe, whichever the stripe is. -/
theorem test_w_ParityWritten : arrays.parity.find? (fun u => Config.stripeOf u.line == stripeOfLine 3) = some { line := 3, diff := 1 } := by
  have h : stripeOfLine 3 = Config.stripeOf 3 := rfl
  rw [h]; exact List.find?_cons_of_pos (by exact beq_self_eq_true (Config.stripeOf 3))

/-- A read of line 0 waits for its reconstruction, whose reads are all back. -/
def rebuilding : State :=
  { (withParcel 0).setChan 0 { recon := [{ line := 0, use := .fetch }] } with steps := [{ line := 0, begun := true }] }

theorem test_w_Reconstruction : rebuilding.serving = true ∧ rebuilding.reconChan 0 = 0 ∧
    rebuilding.steps.find? (fun y => y.line == (0 : BitVec 39).toNat && y.begun && !y.writing && y.left == 0) = some { line := 0, begun := true } ∧
    (rebuilding.chan 0).recon = [{ line := 0, use := .fetch }] ∧ (rebuilding.chan 0).remake = [] ∧ rebuilding.pass = none ∧
    rebuilding.stripeBroken 0 = false := by decide +kernel

/-- The range traverse selected with a range of one line that ends the margin space. -/
def ranged : State := ((svc.setRf Reg.GL_TRV_MODE 0 1 1).setReg Reg.GL_TRV_START (BitVec.ofNat 64 (2 ^ 41 - 128))).setReg Reg.GL_TRV_LINES 1

theorem test_w_Traverse : svc.mayWrite .companion Reg.GL_TRV_MODE true = true ∧ svc.rf Reg.GL_TRV_MODE 0 1 ≠ bitN true ∧
    ranged.quiet = true ∧ ranged.mayWrite .companion Reg.GL_TRV_CMD false = true ∧ ranged.busy trvRegs = false ∧
    ranged.rf Reg.GL_TRV_MODE 0 1 = 1 ∧ ranged.reg Reg.GL_TRV_LINES ≠ 0 ∧
    (ranged.reg Reg.GL_TRV_START).toNat + 128 * (ranged.reg Reg.GL_TRV_LINES).toNat ≤ 2 ^ 41 ∧ svc.rf Reg.GL_TRV_MODE 0 1 = 0 ∧
    ranged.pass = none ∧ ({ ranged with pass := some (Pass.mk 1 0 1 0 0 0 0 0 0 0 0 none) } : State).quiet = true := by decide +kernel

theorem test_w_RequestsAtTheHome : home.takesOwn 47 (reqFor 0x10 8388607) = true ∧ home.requestVendor (reqFor 0x10 8388607) = false ∧
    requestOf (.readShared (.port 47) (reqFor 0x10 8388607)) = some (.port 47, reqFor 0x10 8388607) ∧
    (linked home).takesMsg 0 = true ∧ (∀ t ∈ [0x10, 0x11, 0x12, 0x13, 0x14, 0x15, 0x18, 0x19, 0x1A, 0x1B],
      home.unopposed (reqFor t 8388607) 47 7 = true ∧ home.untrackedLine 8388607 = true ∧ (reqFor t 8388607).line = 8388607) := by decide +kernel

/-- An atomic that adds 1 to word 0, well formed. -/
def addOne : Frame := { reqFor 0x1C 3 with data := BitVec.ofNat 1024 (1 + 2 ^ 256) }

theorem test_w_SealsAndAtomics : home.unopposed { reqFor 0x1A 3 with isSeal := true } 47 7 = true ∧ home.untrackedLine 3 = true ∧
    (0 : BitVec 24) - 1 = (home.order 9).ot ∧ home.unopposed { reqFor 0x1A 3 with isSeal := true, seq := 1 } 47 7 = true ∧
    (1 : BitVec 24) - 1 ≠ (home.order 9).ot ∧ home.sealsWaiting (home.ownerDie 3) < 256 ∧
    home.unopposed addOne 47 7 = true ∧ atomicBad addOne = false ∧ mfind home.echoes (echoKey (home.ownerDie 3) 9 0) = none ∧
    home.echoLive (home.ownerDie 3) 9 < 256 := by decide +kernel

/-- Line 3 held by port 5 alone, shared or exclusive, its entry in the atlas cache. -/
def held (x : AState) : State :=
  (home.setEntry 3 { state := x, vector := withBit 0 5, owner := 5, ownerTag := 5 }).setDie (home.dieOfKey 3) { acache := [3] }

theorem test_w_HoldersRequests : ∀ e ∈ [(0x15, AState.shared), (0x14, AState.exclusive), (0x13, AState.shared)],
    (held e.2).unopposed (reqFor e.1 3) 47 7 = true ∧ (held e.2).requester 3 (reqFor e.1 3) (.port 47) = some 5 ∧
    ((held e.2).holder 3 5).lost = false ∧ ((held e.2).entry 3).awaited = [] ∧ ((held e.2).entry 3).holders = [5] ∧
    ((held e.2).entry 3).vector = withBit 0 5 ∧ ((held e.2).entry 3).owner = 5 ∧ (held e.2).guardedLine 3 = false ∧
    (held e.2).cached 3 = true ∧ (held e.2).storeReading 3 = false := by decide +kernel

/-- Whether the entry's way reads right is open: one of the two premises of the statement's clauses holds. -/
theorem test_w_HoldersRequests_way : Config.atlasReadFails (held .shared).free = true ∨ Config.atlasReadFails (held .shared).free = false := by
  cases Config.atlasReadFails (held .shared).free <;> simp

/-- A grant of line 3 whose GrantAck is awaited from port 5 under SEQ 6. -/
def granted : State := home.setEntry 3 { state := .shared, vector := withBit 0 5, awaited := [{ port := 5, seqs := [6], typ := 0x10, granted := 0, since := 0 }] }
/-- CLEAR of port 5 recalls line 3. -/
def recalling : State := (home.setEntry 3 { state := .shared, vector := withBit 0 5 }).setTxns 3
  [{ work := .recall .cport, phase := .probe, probes := [{ port := 5, id := 77, kind := .inv, since := 0 }], looked := true }]

theorem test_w_ProbesAndGrantAcks : granted.takesOwn 47 { reqFor 0x42 3 with vc := 2, seq := 6 } = true ∧
    granted.answerPort { reqFor 0x42 3 with vc := 2, seq := 6 } (.port 47) = some 5 ∧
    ((granted.entry 3).awaited.any (fun a => a.port == 5 && a.seqs.contains 6)) = true ∧ granted.txnsOf 3 = [] ∧
    granted.answerPort { reqFor 0x42 3 with vc := 2, src := 10 } (.port 47) = none ∧
    recalling.takesOwn 47 { reqFor 0x46 3 with vc := 2, aux := 77 } = true ∧
    recalling.answerPort { reqFor 0x46 3 with vc := 2, aux := 77 } (.port 47) = some 5 ∧
    (recalling.txnsOf 3).map (fun t => (t.work, t.phase, t.data, t.lostDirty)) = [(.recall .cport, .probe, none, false)] ∧
    (recalling.txnsOf 3).flatMap (fun t => t.probes.map (fun x => (x.port, x.id))) = [(5, 77)] ∧
    (77 : BitVec 64).toNat / 2 ^ 32 % 8 ≤ 2 ∧ (recalling.entry 3).state = .shared := by decide +kernel

/-- One increment under way, a seal store waiting on line 3, an echo record completed, a grant unanswered. -/
def timed : State := { ({ granted with increments := [(7, 255, 128)], echoes := [(echoKey 3 9 0, { pending := false })] } : State).setTxns 4
    [{ work := .req { reqFor 0x1A 4 with isSeal := true, seq := 5 } (.port 47) 7 false, phase := .seal }] with now := 5 }
/-- A read for ownership of line 3 by the companion waits for the hold of port 5. -/
def holding : State := ((home.setCport 0 { kind := 1, valid := true }).setEntry 3
    { state := .exclusive, vector := withBit 0 5, owner := 5, ownerTag := 5, holdEnd := 400 }).setTxns 3
  [{ work := .req { reqFor 0x11 3 with src := 0 } (.group 0) 7 false, looked := true }]

theorem test_w_GaugesAndTimers : timed.serving = true ∧
    timed.increments.find? (fun x => x.1 == 7 && x.2.1 == 255) = some (7, 255, 128) ∧ svc.quiet = true ∧
    svc.mayWrite .companion (Reg.TN_GAUGE_COUNT 1023 255) false = true ∧ (timed.txnsOf 4).map (·.phase) = [.seal] ∧
    ((timed.txnsOf 4).all timed.sealWaits) = true ∧
    (mfind timed.echoes (echoKey 3 (sourceNumber (.device 9)) 0)).map (·.pending) = some false ∧ (timed.entry 3).awaited ≠ [] ∧
    holding.serving = true ∧ holding.keysOf 3 = [3] ∧ (holding.txnsOf 3).map (fun t => (t.phase, t.looked, t.late)) = [(.start, true, false)] ∧
    holding.requester 3 { reqFor 0x11 3 with src := 0 } (.group 0) = some 0 ∧ (0 : Nat) ≠ 5 ∧ (holding.entry 3).awaited = [] ∧
    (holding.entry 3).state = .exclusive ∧ (holding.entry 3).vector = withBit 0 5 ∧ (holding.entry 3).holders = [5] ∧
    (holding.entry 3).owner = 5 ∧ (holding.cport 5).lost = false := by decide +kernel

theorem test_w_CoherencePorts : home.quiet = true ∧ home.mayWrite .companion Reg.GL_CPORT_CMD false = true ∧ home.busy cportRegs = false ∧
    (home.cport 1023).valid = false ∧
    (home.cports.any (fun e => decide (e.1 ≠ 1023 ∧ e.1 ≠ 0) && (e.2.valid || e.2.lost) && e.2.device == 10)) = false ∧
    (home.cport 5).valid = true ∧ home.linesOf 5 = [] := by decide +kernel

/-- LOSE of port 5 has dealt with every line; parcel 2047 holds lines the loss left dirty. -/
def walking : State := runs (home.setCport 5 { device := 9, valid := true, lost := true }) cportRegs (pack [(4, 3), (10, 5)])
/-- CLEAR_LOST of parcel 2047 runs. -/
def clearing : State :=
  runs ((home.setRf (Reg.GL_PARCEL_LOSTDIRTY 31) 63 1 1).setEntry (2047 * 2 ^ 23) { state := .lost }) atlasRegs (pack [(4, 1), (11, 2047)])

theorem test_w_Walks : walking.serving = true ∧ walking.busy cportRegs = true ∧ walking.thoit.loseRunning = false ∧
    walking.walkOver (field (walking.runningWord cportRegs) 4 10) = true ∧ home.mayWrite .companion Reg.GL_ATLAS_CMD false = true ∧
    home.busy atlasRegs = false ∧ clearing.serving = true ∧ clearing.busy atlasRegs = true ∧
    ((home.setDie 3 { sweeps := [65535] }).die 3).sweeps.contains 65535 = true ∧ (home.setDie 3 { sweeps := [65535] }).censusOn 3 65535 = false := by
  decide +kernel

/-- The inset captures at level 1, with member 5. -/
def inset : State := (svc.setReg Reg.GL_INSET_CFG 3).setMember 5 { device := 9, valid := true }

theorem test_w_InsetCommands : svc.quiet = true ∧ svc.mayWrite .companion Reg.GL_INSET_CFG true = true ∧ svc.rf Reg.GL_INSET_CFG 0 1 = 0 ∧
    inset.quiet = true ∧ inset.mayWrite .companion Reg.GL_MEMBER_CMD false = true ∧ inset.busy memberRegs = false ∧ inset.insetOn = true ∧
    inset.rf Reg.GL_INSET_CFG 1 2 ≠ 2 ∧ (inset.member 1023).valid = false ∧
    (inset.members.any (fun e => decide (e.1 ≠ 1023 ∧ e.1 ≠ 0) && (e.2.valid || e.2.lost) && e.2.device == 10)) = false ∧
    (inset.member 5).valid = true ∧ inset.insetLinesOf 5 = [] ∧
    (inset.atlas.filter (fun e => isInsetKey e.1 && e.2.state == .lost && e.2.ownerTag == 5)) = [] ∧
    (runs inset memberRegs (pack [(4, 2), (10, 5)])).busy memberRegs = true ∧ (runs inset memberRegs (pack [(4, 2), (10, 5)])).memberLines
      (field ((runs inset memberRegs (pack [(4, 2), (10, 5)])).runningWord memberRegs) 0 4)
      (field ((runs inset memberRegs (pack [(4, 2), (10, 5)])).runningWord memberRegs) 4 10)
      (BitVec.ofNat 16 (field ((runs inset memberRegs (pack [(4, 2), (10, 5)])).runningWord memberRegs) 48 16)) = [] := by decide +kernel

/-- A capturing inset whose member 5, device 9, sits on port 47. -/
def capturing : State := (inset.setRf (Reg.PT_LINK_STATE 47) 0 3 2)
/-- A READ_SHARED of device 9 for line 3 of device 2. -/
def passing : Frame := { typ := 0x10, ctx := 5, src := 9, dst := 2, addr := 384 }
/-- A probe of device 2 for line 3. -/
def probing : Frame := { typ := 0x43, vc := 2, src := 2, dst := 1, addr := 384, aux := 8 }
/-- A line of device 2 that a remote-line cache has asked for. -/
def filling : State :=
  { home with dies := [(0, { rlc := [(remoteKey 2 3, { fill := 1, tag := 5 })] })], series := [(4, 6)],
              out := [{ f := { typ := 0x10, ctx := 5, src := 1, dst := 2, seq := 6, addr := 384 }, die := 0, purpose := .eng (.rlc 0 (remoteKey 2 3)), sentAt := 0 }] }
/-- Its grant. -/
def granting : Frame := { typ := 0x40, vc := 3, src := 2, dst := 1, seq := 6, addr := 384, aux := 1, data := 77 }

/-- The member's request with its store set read. -/
def lookedUp : State := capturing.setTxns (remoteKey 2 3) [{ work := .req passing (.port 5) 0 false, phase := .store, looked := true }]

theorem test_w_InsetAdvance : 2 ^ 39 ≤ remoteKey 2 3 ∧
    lookedUp.txnsOf (remoteKey 2 3) = [{ work := .req passing (.port 5) 0 false, phase := .store, looked := true }] ∧
    lookedUp.storeReading (remoteKey 2 3) = false ∧ lookedUp.entry (remoteKey 2 3) = {} ∧ lookedUp.probedUp (remoteKey 2 3) = false ∧
    lookedUp.cacheRoom (remoteKey 2 3) = true ∧ (lookedUp.storeMates (remoteKey 2 3)).length + lookedUp.storeClaims (remoteKey 2 3) < 8 := by
  decide +kernel

theorem test_w_FramesForTheCachingAgent : capturing.portTakes 47 = true ∧ capturing.boot.deviceId.isSome = true ∧
    (vcsOf 0x10).contains passing.vc.toNat = true ∧ capturing.captures passing = true ∧ capturing.entry (remoteKey 2 3) = {} ∧
    capturing.txnsOf (remoteKey 2 3) = [] ∧ capturing.wayIdle 47 (48 + passing.line % 4) passing.vc.toNat = true ∧ capturing.isSelf probing.dst = true ∧
    capturing.insetOn = true ∧ home.portTakes 47 = true ∧ home.insetOn = false ∧ home.isSelf probing.dst = true ∧
    probeType probing.typ = 0x43 ∧ filling.portTakes 47 = true ∧ filling.isSelf granting.dst = true ∧ filling.insetOn = false ∧
    (filling.matchOut granting).map (·.purpose) = some (.eng (.rlc 0 (remoteKey 2 3))) ∧ granting.aux.toNat % 4 = grS ∧
    (filling.rlcAt (remoteKey 2 3)).drop = false := by decide +kernel

/-- The home has asked device 2 for a line backed there, for the read of device 9 of line 3. -/
def forwarding : State :=
  { home.setTxns 3 [{ work := .req (reqFor 0x10 3) (.port 47) 7 false, phase := .fetch, looked := true }] with
      relocs := [(0, { place := 1, device := 2, parcel := 4, piece := 0 })], series := [(4, 6)],
      out := [{ f := { typ := 0x12, vc := 1, ctx := 5, src := 1, dst := 2, seq := 6, addr := 384 }, die := 0, purpose := .forward 3, sentAt := 0 }] }
/-- An answer of device 2 to the own request 6, with a status. -/
def answerOf (st : Nat) : Frame := { typ := 0x51, vc := 3, src := 2, dst := 1, seq := 6, status := BitVec.ofNat 8 st, data := 5 }

theorem test_w_Responses : forwarding.portTakes 47 = true ∧ forwarding.boot.deviceId.isSome = true ∧ forwarding.isSelf 1 = true ∧
    forwarding.matchOut { answerOf stOk with seq := 7 } = none ∧
    (forwarding.matchOut (answerOf stOk)).map (fun r => (r.purpose, r.f.typ)) = some (.forward 3, 0x12) ∧
    ((forwarding.txnsOf 3).head?.map (·.phase)) = some .fetch ∧ (answerOf stOk).status.toNat = stOk ∧
    (answerOf stRetry).status.toNat = stRetry ∧ BitVec.ofNat 14 (8 : BitVec 64).toNat ≠ forwarding.selfId := by decide +kernel

/-- The same request with no reissue left, and waiting after RETRY. -/
def givenUp : State := { forwarding with out := forwarding.out.map (fun r => { r with tries := 4 }) }
def retrying : State := { forwarding with out := forwarding.out.map (fun r => { r with retryAt := some 500 }) }

theorem test_w_SourceTimers : (forwarding.outAt 2 false 6).map (fun r => (r.retryAt, r.held, r.tries, r.f.dst)) = some (none, none, 0, 2) ∧
    forwarding.isSelf 2 = false ∧ 0 < forwarding.gzv 0x4030 0x02 ∧
    (givenUp.outAt 2 false 6).map (fun r => (r.tries, r.purpose, r.f.typ)) = some (4, .forward 3, 0x12) ∧ ¬ 4 < givenUp.gzv 0x4030 0x02 ∧
    (retrying.outAt 2 false 6).map (·.retryAt) = some (some 500) ∧ svc.alive = true ∧ svc.txns = [] ∧
    svc.mayWrite .companion Reg.GL_ORDER_CMD false = true ∧ svc.busy orderRegs = false := by decide +kernel

/-- Device 16383 is reached by port 0, which is up. -/
def switching : State :=
  ((home.setRoute 16383 { ports := [0, 0, 0, 0], count := 4 }).setRf (Reg.PT_LINK_STATE 0) 0 3 2).setRf (Reg.PT_CREDIT 0 0) 24 12 4095
/-- A frame on its way from device 9 to a device. -/
def transit (d : BitVec 14) : Frame := { typ := 0x10, ctx := 5, src := 9, dst := d }
/-- That frame in its on-chip queue, and as the cell that ends it. -/
def inQueue : SFrame := { f := transit 16383, input := 47, stamp := 0 }
def queued : State := switching.setVoq (voqKey 47 0 0) { chip := [inQueue] }
/-- One frame in the cistern of a queue. -/
def inCistern : State := switching.setVoq (voqKey 47 0 0) { cist := [inQueue], spilling := true }

theorem test_w_Sluice : switching.portTakes 47 = true ∧ (vcsOf (transit 16383).typ.toNat).contains (transit 16383).vc.toNat = true ∧
    knownType false (transit 16383).typ.toNat = true ∧ switching.isSelf 16383 = false ∧ switching.captures (transit 16383) = false ∧
    (switching.sluice.blocked.any (fun x => x.1 == 47 && x.2.vc == (transit 16383).vc)) = false ∧ switching.drainDst ≠ some 16383 ∧
    (switching.route 16383).output 9 47 = some 0 ∧ (switching.route 16383).lost = false ∧ switching.portUp 0 = true ∧
    (transit 16383).vc ≠ 2 ∧ switching.sharedUsed (dieOfPort 47) < 31936 ∧
    switching.voq (voqKey 47 0 0) = {} ∧ switching.gzv 0x4040 0x02 ≤ 31936 - switching.sharedUsed (dieOfPort 47) ∧
    (inCistern.voq (voqKey 47 0 0)).spilling = true ∧ switching.reserveUsed 47 < 64 ∧ switching.voq (voqKey 47 0 2) = {} ∧
    (vcsOf 0x42).contains 2 = true ∧ knownType false 0x42 = true ∧
    (switching.route 16382).output 9 47 = none ∧ (switching.route 16382).lost = false := by decide +kernel

/-- A second route whose one output is DOWN. -/
theorem test_w_Sluice_down : ((switching.setRoute 16381 { ports := [46, 46, 46, 46], count := 4 }).route 16381).output 9 47 = some 46 ∧
    switching.portUp 46 = false := by decide +kernel

theorem test_w_Sluice_cells : switching.serving = true ∧ switching.sluice.reqs = [] ∧ (inCistern.voq (voqKey 47 0 0)).cist = [inQueue] ∧
    inCistern.aged inQueue = false ∧ inQueue.left = 0 ∧ (inCistern.voq (voqKey 47 0 0)).chip = [] ∧ 0 < inCistern.gzv 0x4040 0x04 ∧
    inCistern.sharedUsed (dieOfSluice 47) < 31936 ∧ (queued.voq (voqKey 47 0 0)).chip = [inQueue] ∧ queued.chooseVc 47 0 = some 0 ∧
    queued.eligible 0 inQueue = true ∧ queued.aged inQueue = false ∧ queued.canSend 0 = true ∧ (queued.port 0).txq = [] ∧
    (queued.port 0).slq = [] ∧ queued.replayHas 0 (transit 16383) = true := by decide +kernel

/-- A SET of the route of device 0 drains. -/
def draining : State := runs svc routeRegs (pack [(4, 1), (14, 0), (24, 0), (3, 1)])

theorem test_w_RoutesAndClasses : svc.quiet = true ∧ svc.mayWrite .companion Reg.GL_ROUTE_CMD false = true ∧ svc.busy routeRegs = false ∧
    svc.isSelf 0 = false ∧ svc.heldFor 0 = false ∧ (1 ≤ (4 : BitVec 3).toNat) ∧ ((4 : BitVec 3).toNat ≤ 4) ∧
    (∀ e ∈ svc.relocs, e.2.device ≠ 0) ∧ draining.quiet = true ∧ draining.serving = true ∧ draining.busy routeRegs = true ∧
    draining.heldFor (field (draining.runningWord routeRegs) 4 14) = false ∧ draining.sluice.blocked = [] ∧
    svc.mayWrite .companion (Reg.GL_CLASS_TABLE 16383) false = true := by decide +kernel

/-- Port 47 in training, its lanes trained. -/
def training : State := (svc.setRf (Reg.PT_LINK_STATE 47) 0 3 1).setPort 47 { usable := 0x1FF, pmd := true }
/-- Port 47 disabled. -/
def disabled : State := (svc.setRf (Reg.PT_LINK_CFG 47) 0 1 0).setRf (Reg.PT_LINK_STATE 47) 0 3 4

theorem test_w_PortTraining : disabled.mayWrite .companion (Reg.PT_LINK_CFG 47) false = true ∧ disabled.rf (Reg.PT_LINK_CFG 47) 0 1 = 0 ∧
    disabled.creditSum ≤ 2048 ∧ svc.mayWrite .companion (Reg.PT_LINK_CFG 47) false = true ∧ svc.rf (Reg.PT_LINK_CFG 47) 0 1 = 1 ∧
    training.serving = true ∧ training.linkState 47 = 1 ∧ (training.port 47).pmd = true ∧ (training.linkInit 47).rxLanes ≠ 0 ∧
    popCount (0x0F : BitVec 9) = 4 ∧ popCount (0xFF : BitVec 9) = 8 ∧ (1 : BitVec 3).getLsbD 0 = true ∧ (6 : BitVec 3).getLsbD 0 = false ∧
    training.creditSum ≤ 2048 ∧ (training.port 47).fails < 2 ∧ 2 ≤ ((training.setPort 47 { fails := 2 }).port 47).fails ∧
    ((training.setPort 47 { fails := 2 }).port 47).wasUp = false := by decide +kernel

/-- Port 47 up with one frame unacknowledged. -/
def sending : State := home.setPort 47 { tx := 0, acked := 65535, replay := [transit 9] }

theorem test_w_PortFramesAndReplay : sending.serving = true ∧ sending.portUp 47 = true ∧ (sending.port 47).txq = [] ∧
    0 < ((0 : BitVec 16).toNat + 65536 - (sending.port 47).acked) % 65536 ∧
    ((0 : BitVec 16).toNat + 65536 - (sending.port 47).acked) % 65536
      ≤ ((sending.port 47).tx + 65536 - (sending.port 47).acked) % 65536 ∧
    ((home.setPort 47 { discarding := true }).port 47).discarding = true ∧ (0 : BitVec 16).toNat = ((home.setPort 47 { discarding := true }).port 47).rx ∧
    (1 : BitVec 16).toNat ≠ (sending.port 47).rx ∧ (sending.port 47).txAsleep = false ∧ (sending.port 47).replay ≠ [] ∧
    (sending.port 47).stuck < 8 ∧ (sending.port 47).rxAsleep = false ∧ sending.creditSum ≤ 2048 ∧ (sending.port 47).discarding = false ∧
    knownType (decide (sending.mode = .test)) 5 = false ∧ sending.mode ≠ .test := by decide +kernel

/-- Port 47 up on its lower eight lanes, all nine usable. -/
def laned : State := (home.setRf (Reg.PT_LINK_STATE 47) 8 9 0xFF).setPort 47 { usable := 0x1FF }

theorem test_w_PortLanes : laned.serving = true ∧ laned.portUp 47 = true ∧ popCount (0x1FE : BitVec 9) = 8 ∧ popCount (0x0F : BitVec 9) = 4 ∧
    (laned.port 47).txq = [] ∧ (laned.port 47).replay = [] ∧ (laned.port 47).txAsleep = false ∧
    laned.rf (Reg.PT_LINK_STATE 47) (8 + 0) 1 = 1 ∧ 8 ≤ (onesOf (withoutBit (laned.port 47).usable 0)).length ∧
    laned.rf (Reg.PT_LINK_STATE 47) (8 + 8) 1 = 0 ∧ ((laned.setPort 47 { swapping := true }).port 47).swapping = true ∧
    laned.creditSum ≤ 2048 ∧ (laned.port 47).rxAsleep = false ∧ laned.gzv 0x8020 0x01 ≠ 0 ∧ (laned.setGz 0x8020 0x01 0).gzv 0x8020 0x01 = 0 ∧
    ((laned.setPort 47 { txAsleep := true }).port 47).txAsleep = true := by decide +kernel

/-- In BOOT after image acceptance, with no device ID, port 47 up; a join command waits for its answer. -/
def joining : State := { (inMode 0).setRf (Reg.PT_LINK_STATE 47) 0 3 2 with boot := { powered := true, accepted := true, svn := 3 } }
def discovering : State := let s := runs home joinRegs 1; { s with boot := { s.boot with joinToken := 7 } }

theorem test_w_JoinFrames : joining.portTakes 47 = true ∧ joining.boot.deviceId = none ∧ joining.mode = .boot ∧ joining.boot.accepted = true ∧
    home.portTakes 47 = true ∧ home.boot.deviceId.isSome = true ∧ discovering.portTakes 47 = true ∧ discovering.busy joinRegs = true ∧
    (7 : BitVec 64).toNat % 2 ^ 32 = discovering.boot.joinToken.toNat ∧ (8 : BitVec 64).toNat % 2 ^ 32 ≠ discovering.boot.joinToken.toNat := by
  decide +kernel

/-- Group B of the Thoit link in a state; group A down. -/
def groupB (x : Nat) : State := svc.setRf Reg.GL_THOIT_STATE 6 3 x
def groupBWith (x : Nat) (g : Group) : State := (groupB x).setGroup 1 g

theorem test_w_ThoitTraining : (svc.setReg Reg.GL_THOIT_CFG 0).mayWrite .companion Reg.GL_THOIT_CFG false = true ∧
    (svc.setReg Reg.GL_THOIT_CFG 0).rf Reg.GL_THOIT_CFG 0 1 = 0 ∧ (svc.setReg Reg.GL_THOIT_CFG 0).thoit.loseRunning = false ∧
    (svc.setReg Reg.GL_THOIT_CFG 0).bootMode = false ∧ (svc.setReg Reg.GL_THOIT_CFG 0).groupState 1 = 0 ∧
    (groupB 1).serving = true ∧ (groupB 1).groupState 1 = 1 ∧ ((groupB 1).group 1).locked = false ∧ 16 ≤ popCount (0xFFFF : BitVec 17) ∧
    ((groupB 1).group 1).fails < 2 ∧ (groupBWith 1 { fails := 2 }).groupState 1 = 1 ∧ 2 ≤ ((groupBWith 1 { fails := 2 }).group 1).fails ∧
    (groupB 1).txns = [] ∧ (groupB 1).echoes = [] ∧ (groupBWith 1 { peerInit := true, locked := true }).groupState 1 = 1 ∧
    ((groupBWith 1 { peerInit := true, locked := true }).group 1).peerInit = true := by decide +kernel

theorem test_w_ThoitLoss : svc.serving = true ∧ svc.bootMode = false ∧ svc.groupState 0 = 0 ∧ svc.groupState 1 = 0 ∧ svc.link ≠ 4 ∧
    svc.atlas = [] ∧ svc.txns = [] ∧ svc.thoit.t2 = [] := by decide +kernel

/-- Group B up on its lower sixteen lanes, one lane spare, a receipt owed. -/
def grouped (x : Nat) : State := (groupBWith x { usable := 0x1FFFF, receipts := [(15, accepted)] }).setLanes 1 0xFFFF

theorem test_w_ThoitTraffic : (grouped 2).serving = true ∧ 2 ≤ (grouped 2).groupState 1 ∧
    (∀ i : Fin 12, (Vector.replicate 12 (none : Option (BitVec 24)))[i] = none) ∧ ((grouped 2).group 1).discarding = false ∧
    ((grouped 2).group 1).unsure = [] ∧ ((grouped 2).group 1).due 1 = [(3, accepted)] ∧
    (grouped 2).bootMode = false ∧ ((grouped 2).lanesOf 1).getLsbD 15 = true ∧ (grouped 2).groupState 1 = 2 ∧
    16 ≤ popCount (withoutBit ((grouped 2).group 1).usable 15) ∧ ((grouped 3).lanesOf 1).getLsbD 0 = true ∧ (grouped 3).groupState 1 = 3 := by
  decide +kernel

/-- A read of line 3 waits for its backing in tier T2. -/
def reading2 : State :=
  let s := (linked home).setTxns 3 [{ work := .req (reqFor 0x10 3) (.port 47) 7 false, phase := .fetch, looked := true }]
  { s with relocs := [(0, { place := 2 })], thoit := { s.thoit with t2 := [({ typ := 0xA8, seq := 6, addr := 384 }, .forward 3)] } }

theorem test_w_ThoitMessages : (linked svc).serving = true ∧ (linked svc).bootMode = false ∧
    (linked svc).groupUp ((linked svc).msgGroup { addr := BitVec.ofNat 46 (2 ^ 28 - 8) }) = true ∧
    (linked svc).freeEntry ((linked svc).msgGroup { addr := BitVec.ofNat 46 (2 ^ 28 - 8) }) < 12 ∧
    ((BitVec.ofNat 46 (2 ^ 28 - 8)).toNat < 2 ^ 28) ∧ 2 ^ 28 ≤ (BitVec.ofNat 46 (2 ^ 28)).toNat ∧
    (linked svc).messageVendor 0 { typ := 0xA4, addr := 0x2000 } = false ∧
    (reading2.thoit.t2.find? (fun x => x.1.seq == 6)).map (fun x => (x.1.typ, x.2)) = some (0xA8, .forward 3) ∧
    ((reading2.txnsOf 3).head?.map (·.phase)) = some .fetch ∧ reading2.thoit.t2.find? (fun x => x.1.seq == 7) = none := by decide +kernel

/-- Queue pair 63 of tenant 7 configured with the least rings at the bottom of parcel 0, for tag 5, eight descriptors deep. -/
def configured : State :=
  ((withParcel 0).setReg (Reg.TN_QP_CFG 7 63) (pack [(16, 5), (5, 4), (3, 0), (5, 4), (3, 0), (4, 8)])).setReg (Reg.TN_QP_CQ_BASE 7 63) 1024
/-- That queue pair running, with descriptors in flight, jets 0 and 52 (on its die) enabled, and the channels of lines 0 to 7 awake. -/
def running (l : List Desc) : State :=
  let s := (((configured.setQpState 7 63 1).setQp 7 63 { descs := l }).setReg (Reg.JT_STATE 0) 1).setReg (Reg.JT_STATE 52) 1
  (List.range 8).foldl (fun s n => s.setRf (chanCfg (s.chanOf n)) 7 1 0) s

theorem test_w_QueuePairRegisters : configured.mayWrite .companion (Reg.TN_QP_CTRL 7 63) false = true ∧ configured.qpState 7 63 = 0 ∧
    configured.qpConfigGood 7 63 = true ∧ (withParcel 0).qpConfigGood 7 63 = false ∧ (withParcel 0).qpState 7 63 = 0 ∧
    (running []).qpState 7 63 = 1 ∧ ((running []).qp 7 63).descs = [] ∧
    configured.mayWrite .companion (Reg.TN_QP_SQ_BASE 7 63 + 8 * 2) false = true ∧ (Reg.rowOf (Reg.TN_QP_SQ_BASE 7 63 + 8 * 2)).isSome = true ∧
    (running []).qpState 7 63 ≠ 0 ∧ (running []).mayWrite .companion (Reg.TN_QP_SQ_TAIL 7 63) false = true ∧
    (15 : BitVec 16).toNat < (running []).sqSize 7 63 ∧ (running []).sqSize 7 63 ≤ (16 : BitVec 16).toNat ∧
    (running []).mayWrite .companion (Reg.TN_QP_CQ_HEAD 7 63) false = true := by decide +kernel

/-- A descriptor with this OP and these fields above it. -/
def descOf (op : Nat) (l : List (Nat × Nat)) (phase : DPhase) : Desc :=
  { index := 2, body := BitVec.ofNat 512 (op + l.foldl (fun a x => a + x.2 * 2 ^ x.1) 0), phase := phase }
/-- The home's answers to reads of lines 0 to 7 by an issuer, of zeros. -/
def zerosRead (e : Eng) : List EngAns :=
  (List.range 8).map (fun n => { eng := e, f := { typ := 0x51, src := 1, addr := BitVec.ofNat 46 (128 * n) }, va := 128 * n, settled := true })
/-- Virtual addresses below 32 MiB of tag 5 map to parcel 0 on every die, with every permission; what descriptor 2 of queue pair 63 and record 0 of
jet 0 read of its first lines has been answered. -/
def mapping (s : State) : State :=
  { s with ans := zerosRead (.qp 7 63 2) ++ zerosRead (.jet 0 0), dies := (List.range 4).map (fun d => (d, { xlate := [{ die := d, tag := 5, sheet := 0, size := 25, base := 2 ^ 60 + 2 ^ 46, perm := 0xF }] })) }
/-- One line copied, one line filled. -/
def copyDesc : Desc := descOf 0x02 [(64, 0), (128, 4096), (192, 128)] .fetched
def fillDesc : Desc := descOf 0x03 [(64, 0xAB), (128, 4096), (192, 128)] .fetched
/-- A full completion ring. -/
def ringFull (d : Desc) : State := (running [d]).setReg (Reg.TN_QP_CQ_HEAD 7 63) 1

theorem test_w_Descriptors : (running []).serving = true ∧ ((running []).setReg (Reg.TN_QP_SQ_TAIL 7 63) 1).canFetch 7 63 = true ∧
    answers (engRead (fetchEng 7 63 0) (dieOfQp 7 63) 5 0 (2 ^ 60 + 2 ^ 46))
      ({ (running []).setReg (Reg.TN_QP_SQ_TAIL 7 63) 1 with ans := zerosRead (fetchEng 7 63 0) } : State) = true ∧
    (running []).descBad 1 5 = false ∧ (running [descOf 1 [] .fetched]).nextDesc 7 63 0x01 = some (descOf 1 [] .fetched) ∧
    (mapping (running [copyDesc])).nextDesc 7 63 0x02 = some copyDesc ∧ (mapping (running [copyDesc])).qpCtx 7 63 = 5 ∧
    answers (copyOp 7 63 copyDesc 5) ((mapping (running [copyDesc])).modDesc 7 63 2 (fun d => { d with phase := .working })) = true ∧
    (mapping (running [fillDesc])).nextDesc 7 63 0x03 = some fillDesc ∧
    answers (fillOp 7 63 fillDesc 5) ((mapping (running [fillDesc])).modDesc 7 63 2 (fun d => { d with phase := .working })) = true ∧
    (∀ op ∈ [0x02, 0x03], ((running [descOf op [] .writing]).qp 7 63).descs.find?
      (fun d => d.phase == .writing && !(running [descOf op [] .writing]).engBusy (qpEng 7 63 d.index)) = some (descOf op [] .writing) ∧
      (running [descOf op [] .writing]).refusedAns (qpEng 7 63 2) = none) ∧
    (ringFull (descOf 1 [] .working)).tasks = [] ∧ (ringFull (descOf 1 [] .working)).tables = [] ∧
    (ringFull (descOf 1 [] .working)).indexes = [] ∧ (ringFull (descOf 1 [] .working)).qpState 7 63 = 1 ∧
    (ringFull (descOf 1 [] .working)).cqRoom 7 63 = false := by decide +kernel

/-- The last bytes of a range that ends inside a line. -/
theorem test_w_TheMover : 128 % 128 = 0 ∧ 128 < 100 + 30 ∧ 100 < 128 + 128 ∧ (List.replicate 30 (7 : Byte)).length = 30 := by decide

/-- TASK on jet 0, and on a jet that is not enabled. -/
def taskDesc : Desc := descOf 0x08 [(64, 256), (384, 0)] .fetched
def strayDesc : Desc := descOf 0x08 [(64, 256), (384, 103)] .fetched
/-- Every record of jet 0 in use. -/
def jetFull : State := { running [taskDesc] with tasks := (List.range 17).map (fun r => (r, { state := .parked, cause := 3 })) }

theorem test_w_TaskDescriptors : (running [taskDesc]).serving = true ∧ ((running [taskDesc]).qp 7 63).descs.find?
      (fun d => opOf d.body == 0x08 && d.phase == .fetched) = some taskDesc ∧ (running [taskDesc]).qpParked 7 63 = none ∧
    bf taskDesc.body 391 391 = 0 ∧ bf taskDesc.body 390 384 = 0 ∧ (running [taskDesc]).jetEnabled 0 = true ∧
    (running [taskDesc]).freeSlot 0 = some 0 ∧ jetFull.freeSlot 0 = none ∧ jetFull.qpParked 7 63 = none ∧ jetFull.jetEnabled 0 = true ∧
    bf strayDesc.body 391 391 = 0 ∧ (running [strayDesc]).jetEnabled (bf strayDesc.body 390 384) = false := by decide +kernel

/-- Tag 5 fenced, its fence draining or drained. -/
def fenced (d : List Drain) : State := { (withParcel 0).setCtx 0 { tag := 5, tenant := 7, valid := true, fenced := true } with drains := d }

theorem test_w_FencesAndReset : (withParcel 0).mayWrite .companion (Reg.TN_FENCE_CMD 7) false = true ∧ (withParcel 0).busy (fenceRegs 7) = false ∧
    (withParcel 0).mine 7 6 = false ∧ (withParcel 0).mine 7 5 = true ∧
    (withParcel 0).ctxOf 5 = some (0, { tag := 5, tenant := 7, valid := true }) ∧ (fenced []).mine 7 5 = true ∧
    ((fenced []).drains.any (fun x => x.tag == 5)) = false ∧ (fenced []).lostDirty 7 = false ∧ (fenced []).draining 7 = [] ∧
    ((fenced []).drains.any (fun x => (((fenced []).tagsOf 7).map (·.tag)).contains x.tag)) = false ∧
    (withParcel 0).mayWrite .companion (Reg.TN_RESET_CMD 7) false = true ∧ (withParcel 0).draining 7 = [] ∧
    ((withParcel 0).tagsOf 7).any (fun c => !c.fenced) = true ∧ (fenced []).mayWrite .companion (Reg.TN_RESET_CMD 7) false = true ∧
    ((fenced []).tagsOf 7).any (fun c => !c.fenced) = false ∧ (fenced [{ tag := 5, slot := 7, applied := true }]).serving = true ∧
    (fenced [{ tag := 5, slot := 7, applied := true }]).drains.find? (fun x => x.tag == 5 && x.applied)
      = some { tag := 5, slot := 7, applied := true } ∧ (fenced [{ tag := 5, slot := 7, applied := true }]).drained 5 = true ∧
    ({ fenced [{ tag := 5, slot := 7, applied := true }] with tasks := [(0, { state := .parked, ctx := 5 })] } : State).drained 5 = false := by
  decide +kernel

/-- A bundle with one instruction, in a slot. -/
def bundleOf (slot bits : Nat) : BitVec 256 := BitVec.ofNat 256 (bits * 2 ^ ([0, 64, 128, 224].getD slot 0))
/-- The registers of the task below: X1 holds 7, X2 holds 1, X3 holds all ones. -/
def xs : JRegs := { x := [(1, 7), (2, 1), (3, BitVec.allOnes 64)] }
/-- A task in a leg of this kind whose bundle 0 is this one. -/
def inLegTask (exact : Bool) (b : BitVec 256) : Task :=
  { state := .running, tenant := 7, ctx := 5, legVa := 256, inLeg := true, regs := xs,
    leg := { exact := exact, bundles := 1, channels := BitVec.allOnes 48, sheets := [(0, 25)], code := [b] }, writable := [0] }
/-- Jet 0 runs that task from record 0; addresses below 32 MiB of its tag map to parcel 0. -/
def legState (t : Task) : State := { mapping (running []) with jets := [(0, { running := some 0 })], tasks := [(0, t)] }

/-- Every field of a scalar slot used, the second operand X2. -/
def scalarF : ScalarSlot := { d := 31, a := 1, b := 2 }

theorem test_w_ScalarInstructions : ∀ op ∈ [0x01, 0x02, 0x03, 0x04, 0x05, 0x06, 0x07, 0x08, 0x09, 0x0A, 0x0B, 0x0C, 0x0D, 0x0E, 0x10, 0x11, 0x12, 0x13,
    0x14, 0x15, 0x16],
    (legState (inLegTask false (bundleOf 1 (scalarBits op scalarF).toNat))).atSlot 0 0 (inLegTask false (bundleOf 1 (scalarBits op scalarF).toNat)) 1
      (scalarBits op scalarF).toNat = true := by decide +kernel

/-- The last eight bytes of a one-page bowl. -/
theorem test_w_ScalarBowl : bowlAddr ((inLegTask true 0).issued 1) (7 + (65528 : Word)) 8 = some 65528 ∧
    ¬ (((inLegTask true 0).issued 1).leg.exact = true ∧ ((inLegTask true 0).issued 1).bowlAt = some ((inLegTask true 0).issued 1).cycle) := by
  decide +kernel

theorem test_w_ControlInstructions : ∀ op ∈ [0x01, 0x02, 0x03, 0x04, 0x08, 0x09, 0x0A],
    (legState (inLegTask false (bundleOf 3 (controlBits op { x := 1, target := 2047, per := 1 }).toNat))).atSlot 0 0
      (inLegTask false (bundleOf 3 (controlBits op { x := 1, target := 2047, per := 1 }).toNat)) 3
      (controlBits op { x := 1, target := 2047, per := 1 }).toNat = true := by decide +kernel

/-- Vector fields every operation of Table 13-8 takes: format 1, IMM 1. -/
def vectorF : VectorSlot := { fmt := 1, vd := 31, va := 1, vb := 2, vc := 0, mask := 0, acc := 62, imm := 1 }

theorem test_w_VectorInstructions : ∀ op ∈ [0x01, 0x02, 0x03, 0x04, 0x05, 0x06, 0x07, 0x08, 0x09, 0x0A, 0x0B, 0x0C, 0x0D, 0x0E, 0x0F, 0x10, 0x11,
    0x18, 0x19, 0x1A, 0x1B],
    (legState (inLegTask true (bundleOf 2 (vectorBits op vectorF).toNat))).atSlot 0 0 (inLegTask true (bundleOf 2 (vectorBits op vectorF).toNat)) 2
      (vectorBits op vectorF).toNat = true := by decide +kernel

/-- The vector registers' own clauses: a lane at each end, formats of 32 bits, 64 lanes. -/
theorem test_w_Lanes : 0 < 2048 ∧ 2047 < 2048 ∧ elemBits (0 : BitVec 4).toNat = 32 ∧ (List.replicate 64 (2 ^ 32 - 1)).length = 64 ∧
    (∀ x ∈ List.replicate 64 (2 ^ 32 - 1), x < 2 ^ 32) ∧ (1 : Nat) ≠ 0 := by decide +kernel

/-- The bowl access at address OFF. -/
def memF (off : BitVec 32) : MemSlot := { a := 4, b := 5, c := 2, d := 6, off := off }
def bowlTask (op : Nat) (off : BitVec 32) : Task := inLegTask false (bundleOf 0 (memoryBits op (memF off)).toNat)

theorem test_w_BowlAccesses : ∀ op ∈ [0x20, 0x21, 0x22, 0x23, 0x24, 0x25, 0x26],
    (legState (bowlTask op 0)).atSlot 0 0 (bowlTask op 0) 0 (memoryBits op (memF 0)).toNat = true ∧
    (legState (bowlTask op 65536)).atSlot 0 0 (bowlTask op 65536) 0 (memoryBits op (memF 65536)).toNat = true ∧
    ((bowlTask op 65536).issued 0).leg.exact = false ∧ bowlAddr ((bowlTask op 65280).issued 0) (memAddr (memF 65280) xs) 256 = some 65280 ∧
    bowlAddr ((bowlTask op 65536).issued 0) (memAddr (memF 65536) xs) 256 = none ∧
    bowlAddr ((bowlTask op 49152).issued 0) (memAddr (memF 49152) xs) 16384 = some 49152 ∧
    gatherAddrs ((bowlTask op 0).issued 0) (memF 0) = some (List.replicate 64 0) := by decide +kernel

/-- An exact leg's task and its pinned sheet. -/
def exactTask (op : Nat) : Task := inLegTask true (bundleOf 0 (memoryBits op (memF 0)).toNat)
def sheetEntry : XEntry := { die := 0, tag := 5, sheet := 0, size := 25, base := 2 ^ 60 + 2 ^ 46, perm := 0xF, pins := [0] }
def pinnedState (t : Task) : State := (legState t).setDie 0 { xlate := [sheetEntry] }

theorem test_w_LineAccesses_exact : ∀ op ∈ [0x01, 0x02], (pinnedState (exactTask op)).atSlot 0 0 (exactTask op) 0 (memoryBits op (memF 0)).toNat = true ∧
    (pinnedState (exactTask op)).pinnedFor 0 0 ((exactTask op).issued 0) (memLine (memF 0) xs) = some (0, sheetEntry) ∧
    ((exactTask op).issued 0).writable.contains 0 = true ∧ ((exactTask op).issued 0).cycle % 7 % 2 = 0 ∧
    dieOfChan ((pinnedState (exactTask op)).homeChan ((gpaOff (sheetEntry.gpa 0)).toNat / 128)) = dieOfJet 0 ∧
    ((exactTask op).issued 0).leg.channels.getLsbD ((pinnedState (exactTask op)).homeChan ((gpaOff (sheetEntry.gpa 0)).toNat / 128) % 48) = true ∧
    (exactTask op).system ≠ 2 := by decide +kernel

theorem test_w_LineAccesses : ∀ op ∈ [0x08, 0x09, 0x0A, 0x0B, 0x0C, 0x10, 0x11, 0x12],
    (legState (bowlTask op 0)).atSlot 0 0 (bowlTask op 0) 0 (memoryBits op (memF 0)).toNat = true ∧
    (∀ a ∈ [accRead, accWrite, accAtomic], answers (translate (.jet 0 0) 5 a (memLine (memF 0) xs)) ((legState (bowlTask op 0)).issuedAt 0 0 (bowlTask op 0) 0) = true) ∧
    (∀ a ∈ [accRead, accWrite], answers (jetTranslateAll 0 0 5 a [0]) ((legState (bowlTask op 0)).issuedAt 0 0 (bowlTask op 0) 0) = true) ∧
    (xs.getX (memF 0).c.toNat).toNat = 1 ∧ (memF 0).f = 0 ∧ ((bowlTask op 0).issued 0).resumeAccess = 0 ∧
    bowlAddr ((bowlTask op 0).issued 0) (xs.getX (memF 0).b.toNat) 128 = some 0 ∧ ({ xs with x := [] } : JRegs).getX (memF 0).c.toNat = 0 := by
  decide +kernel

/-- Jet 0 with a task in its record 0, running or not. -/
def jetWith (t : Task) (run : Bool) : State := { mapping (running []) with jets := if run then [(0, { running := some 0 })] else [], tasks := [(0, t)] }
/-- A task about to be admitted; a task whose bundle fetch remains; an admitted open leg; a leg that has ended. -/
def misplaced : Task := { state := .running, tenant := 7, ctx := 5, legVa := 255 }
def fetching : Task := { state := .running, tenant := 7, ctx := 5, legVa := 0, step := 7, leg := { bundles := 4, code := [] } }
def admitted : Task := { fetching with admitted := true }
def atLegEnd : Task := { fetching with inLeg := true, ended := some (0, 0, false) }

theorem test_w_TasksAndLegs : (jetWith misplaced true).serving = true ∧ misplaced.legVa % 256 ≠ 0 ∧ (jetWith misplaced true).task 0 0 = misplaced ∧
    answers (fetchBytes (.jet 0 0) 5 256 128) ((jetWith fetching true).setRf (chanCfg ((jetWith fetching true).chanOf 2)) 7 1 0) = true ∧
    (jetWith admitted true).rf Reg.GL_PWR_STATE 0 3 < 3 ∧ (jetWith atLegEnd true).eBound 0 0 = false ∧ (jetWith atLegEnd true).readyTasks 0 = [] ∧
    atLegEnd.inLeg = true ∧ (jetWith { admitted with state := .ready } false).readyTasks 0 = [(0, { admitted with state := .ready })] ∧
    (jetWith { admitted with state := .ready } false).tagRefused 5 = none ∧ (jetWith { admitted with state := .ready } false).jetEnabled 0 = true ∧
    ((jetWith { admitted with state := .parked, cause := 3, gx := 31 } false).task 0 0).gx ≠ 0 := by decide +kernel

/-- Jet 25 of die 0 is a spare; jet 0 failed, a task waiting on it. -/
def spared : State := (jetWith { admitted with state := .parked, cause := 3, threshold := 1 } false).setReg (Reg.JT_STATE 25) 2
def failed0 : State := spared.setReg (Reg.JT_STATE 0) 4

theorem test_w_JetFailure : spared.serving = true ∧ spared.jetEnabled 0 = true ∧ (spared.jet 0).running = none ∧ spared.spareOf (dieOfJet 0) = some 25 ∧
    failed0.rf (Reg.JT_STATE 0) 2 1 = 1 ∧ dieOfJet 0 = dieOfJet 25 ∧ failed0.rf (Reg.JT_STATE 25) 1 1 = 1 ∧ failed0.rf (Reg.JT_STATE 25) 2 1 = 0 ∧
    failed0.records 0 = [(0, { admitted with state := .parked, cause := 3, threshold := 1 })] := by decide +kernel

/-- A registered operation's reference, and table 3 with one row of one element. -/
def opRef : OpRef := ⟨7, 63, 2⟩
def table3 : Table := { state := 1, ctx := 5, tenant := 7, dim := 1, rows := 1, epoch := 4, running := [opRef] }
/-- Queue pair 63 runs one descriptor of an operation on table 3, started. -/
def onTable (op : Nat) (l : List (Nat × Nat)) : State :=
  (mapping (running [descOf op ((64, 3) :: l) .fetched])).setTable 3 table3
def tableDesc (op : Nat) (l : List (Nat × Nat)) : Desc := descOf op ((64, 3) :: l) .fetched
/-- The operation's own work after its built-in task. -/
def work {α : Type} (s : State) (m : EngM α) : Bool :=
  answers (do let _ ← builtIn 7 63 2; m) (s.modDesc 7 63 2 (fun d => { d with phase := .working }))

def openDesc : Desc := descOf 0x10 [(64, 256), (288, 1), (256, 1)] .fetched
def gatherBits : List (Nat × Nat) := [(320, 1), (256, 4096), (128, 512)]
def scatterBits : List (Nat × Nat) := [(320, 1), (256, 256), (128, 512)]
def linkBits : List (Nat × Nat) := [(128, 512), (192, 4096), (256, 8192), (320, 12288), (384, 1)]
def snapBits : List (Nat × Nat) := [(76, 7), (128, 512), (192, 4096), (256, 1)]

theorem test_w_EmbeddingTables_open : (running [openDesc]).serving = true ∧ (running [openDesc]).nextDesc 7 63 0x10 = some openDesc ∧
    (running [openDesc]).freeHandle = some 0 ∧ bf openDesc.body 309 309 = 0 ∧
    (onTable 0x11 []).embDesc 7 63 0x11 = some (tableDesc 0x11 [], 3, table3) ∧ table3.state ≠ 0 ∧
    (running [descOf 0x11 [(64, 3)] .fetched]).embDesc 7 63 0x11 = some (tableDesc 0x11 [], 3, {}) := by decide +kernel

/-- Keys from k on, all keeping v. -/
def filled {α : Type} (v : α) : Nat → Nat → List (Nat × α)
  | 0, _ => []
  | n + 1, k => (k, v) :: filled v n (k + 1)

theorem mget_filled {α : Type} (d v : α) : ∀ n k h : Nat, k ≤ h → h < k + n → mget d (filled v n k) h = v
  | 0, _, _, h1, h2 => by omega
  | n + 1, k, h, h1, h2 => by
    by_cases e : k = h
    · simp [filled, mget, e]
    · simpa [filled, mget, e] using mget_filled d v n (k + 1) h (by omega) (by omega)

/-- Every handle in use. -/
theorem test_w_EmbeddingTables_full :
    ({ running [openDesc] with tables := filled { state := 1 } 4096 0 } : State).freeHandle = none := by
  apply List.find?_eq_none.mpr
  intro h hh
  have := List.mem_range.mp hh
  simp [mget_filled _ _ 4096 0 h (Nat.zero_le _) (by omega)]

theorem test_w_EmbeddingTables_reads : (onTable 0x12 gatherBits).embDesc 7 63 0x12 = some (tableDesc 0x12 gatherBits, 3, table3) ∧
    work (onTable 0x12 gatherBits) (gatherOp 7 63 (tableDesc 0x12 gatherBits) 3 table3) = true ∧
    (onTable 0x13 scatterBits).embDesc 7 63 0x13 = some (tableDesc 0x13 scatterBits, 3, table3) ∧
    work (onTable 0x13 scatterBits) (scatterOp 7 63 (tableDesc 0x13 scatterBits) 3 table3) = true := by decide +kernel

/-- A link whose rows have been written and answered. -/
def rowsIn : Desc := { tableDesc 0x15 linkBits with stage := 1 }
def onLink : State := (mapping (running [rowsIn])).setTable 3 table3

theorem test_w_EmbeddingTables_copies : onLink.embDesc 7 63 0x15 = some (rowsIn, 3, table3) ∧
    work onLink (replicaLinkOp 7 63 rowsIn 3 table3) = true ∧
    (onTable 0x16 snapBits).embDesc 7 63 0x16 = some (tableDesc 0x16 snapBits, 3, table3) ∧
    work (onTable 0x16 snapBits) (snapshotOp 7 63 (tableDesc 0x16 snapBits) 3 table3) = true := by decide +kernel

/-- Table 3 with a commit of that descriptor, nothing left to do. -/
def committing : Table := { table3 with commit := some { op := opRef, todo := [], rows := 5, sat := 70000 } }
theorem test_w_EmbeddingTables_commit : (onTable 0x14 []).embDesc 7 63 0x14 = some (tableDesc 0x14 [], 3, table3) ∧
    3 = bf (tableDesc 0x14 []).body 75 64 ∧ table3.upd = [] ∧ table3.commit = none ∧ mget {} (onTable 0x14 []).tables 3 = table3 ∧
    ((onTable 0x14 []).setTable 3 committing).embDesc 7 63 0x14 = some (tableDesc 0x14 [], 3, committing) ∧
    mget {} ((onTable 0x14 []).setTable 3 committing).tables 3 = committing ∧ committing.commit = some { op := opRef, rows := 5, sat := 70000 } := by
  decide +kernel

/-- Addends that round up, down and to even, that saturate, and that are no numbers; a slot with a lane of an accumulator. -/
theorem test_w_AccumulatorsInEveryOrder : [FV.nan true, .num false 3 0].Perm [.num false 3 0, .nan true] ∧
    roundInt false 3 (-1 - 0) = 2 ∧ ((2 : Int) < 2 ^ 127 ∧ -(2 ^ 127) < (2 : Int)) ∧ (2 : Int) ^ 127 ≤ roundInt false 1 (127 - 0) ∧
    roundInt true 1 (127 - 0) ≤ -(2 ^ 127) ∧ roundInt true 5 (-(1 : Nat)) = -2 ∧
    (slotOp (vectorBits 0x19 vectorF) = 0x19 ∧ vectorSlotBad (vectorBits 0x19 vectorF) = false) := by
  refine ⟨List.Perm.swap _ _ _, ?_⟩
  decide +kernel

/-- Index 9 with one entry node of one dimension, its annex empty or not, and an operation on it that has started. -/
def index9 : Index := { state := 1, ctx := 5, tenant := 7, dims := 1, nodes := 4, nextNode := 1, annexMax := 8, nentry := 1, epoch := 4 }
def searching : Index := { index9 with searches := [(opRef, 4, 0, 1)] }
def mutating : Index := { index9 with mutation := some opRef }
def onIndex (x : Index) (op : Nat) (l : List (Nat × Nat)) : State :=
  { mapping (running [descOf op ((64, 9) :: l) .fetched]) with indexes := [(9, x)] }
def indexDesc (op : Nat) (l : List (Nat × Nat)) : Desc := descOf op ((64, 9) :: l) .fetched
def searchBits : List (Nat × Nat) := [(76, 3), (88, 1), (192, 4096), (128, 512)]
def listBits : List (Nat × Nat) := [(80, 1), (128, 512)]

theorem test_w_SearchOperations_open : (running [descOf 0x20 [(64, 256)] .fetched]).serving = true ∧
    (running [descOf 0x20 [(64, 256)] .fetched]).nextDesc 7 63 0x20 = some (descOf 0x20 [(64, 256)] .fetched) ∧
    (List.range 1024).find? (fun h => (mget {} (running [descOf 0x20 [(64, 256)] .fetched]).indexes h).state == 0) = some 0 ∧
    (onIndex mutating 0x21 []).searchDesc 7 63 0x21 = some (indexDesc 0x21 [], 9, mutating) ∧ mutating.state ≠ 0 := by decide +kernel

theorem test_w_SearchOperations_full :
    (List.range 1024).find? (fun h => (mget {} (filled ({ state := 1 } : Index) 1024 0) h).state == 0) = none := by
  apply List.find?_eq_none.mpr
  intro h hh
  have := List.mem_range.mp hh
  simp [mget_filled _ _ 1024 0 h (Nat.zero_le _) (by omega)]

theorem test_w_SearchOperations_search : (onIndex searching 0x22 searchBits).searchDesc 7 63 0x22 = some (indexDesc 0x22 searchBits, 9, searching) ∧
    work (onIndex searching 0x22 searchBits) (searchOp 7 63 (indexDesc 0x22 searchBits) searching) = true ∧
    (resultBytes 3 []).length = 128 := by decide +kernel

theorem test_w_SearchOperations_mutate : (onIndex mutating 0x23 listBits).searchDesc 7 63 0x23 = some (indexDesc 0x23 listBits, 9, mutating) ∧
    work (onIndex mutating 0x23 listBits) (insertOp 7 63 (indexDesc 0x23 listBits) mutating) = true ∧
    (onIndex mutating 0x24 listBits).searchDesc 7 63 0x24 = some (indexDesc 0x24 listBits, 9, mutating) ∧
    work (onIndex mutating 0x24 listBits) (deleteOp 7 63 (indexDesc 0x24 listBits) mutating) = true ∧
    mget {} (onIndex mutating 0x23 listBits).indexes (bf (indexDesc 0x23 listBits).body 73 64) = mutating ∧
    opOf (indexDesc 0x23 listBits).body = 0x23 := by decide +kernel

/-- A merge with one annex entry: to start its task, and with its task ended. -/
def annexed : Index := { index9 with holding := some opRef, annexCount := 1 }
def merged : Index := { annexed with merging := true, mergeEnd := some none }
theorem test_w_SearchOperations_merge : (onIndex annexed 0x25 []).searchDesc 7 63 0x25 = some (indexDesc 0x25 [], 9, annexed) ∧
    annexed.merging = false ∧ work (onIndex annexed 0x25 []) (mergeOp 7 63 (indexDesc 0x25 []) 9 annexed) = true ∧
    (onIndex merged 0x25 []).searchDesc 7 63 0x25 = some (indexDesc 0x25 [], 9, merged) ∧ merged.merging = true ∧ merged.mergeEnd = some none ∧
    work (onIndex merged 0x25 []) (mergeBits 7 63 (indexDesc 0x25 []) merged) = true := by decide +kernel

/-- Parcel 0 with a target of a move in GL_MOVE_ARG: device 9, its last parcel and piece. -/
def aimed : State :=
  { (withParcel 0).setReg Reg.GL_MOVE_ARG (pack [(14, 9), (2, 0), (11, 2047), (5, 31), (16, 6)]) with
      borrows := [(255, { lender := 9, parcel := 2047, valid := true })] }
/-- Piece 31 of parcel 0 in a move, in a phase. -/
def moving (phase : Nat) : State :=
  { (withParcel 0).setReloc 0 31 { phase := phase, toPlace := 1 } with
      moves := [{ parcel := 0, piece := 31, toPlace := 1, device := 9, dparcel := 5, dpiece := 0, tag := 6, copied := 262144, passes := 4 }] }
theorem test_w_MovesAndLending_move : aimed.mayWrite .companion Reg.GL_MOVE_CMD false = true ∧ aimed.busy moveRegs = false ∧ aimed.mode = .service ∧
    (aimed.parcel 0).state = .granted ∧ (aimed.reloc 0 31).phase = 0 ∧ aimed.moves.length < 16 ∧ (aimed.reloc 0 31).place ≠ 3 ∧
    aimed.isSelf (BitVec.ofNat 14 (aimed.rf Reg.GL_MOVE_ARG 0 14)) = false ∧ (2 : BitVec 2).toNat ≠ (aimed.reloc 0 31).place ∧
    (aimed.freeBorrowed (BitVec.ofNat 14 (aimed.rf Reg.GL_MOVE_ARG 0 14)) (aimed.rf Reg.GL_MOVE_ARG 16 11)
      (aimed.rf Reg.GL_MOVE_ARG 27 5)).isSome = true ∧ (withParcel 0).roomForPiece 0 31 = true ∧
    ((aimed.setReloc 0 31 { place := 2 }).reloc 0 31).place ≠ 0 := by decide +kernel

theorem test_w_MovesAndLending_phases : (moving 1).serving = true ∧ (moving 1).moves.find? (fun m => m.parcel == 0 && m.piece == 31)
      = some { parcel := 0, piece := 31, toPlace := 1, device := 9, dparcel := 5, dpiece := 0, tag := 6, copied := 262144, passes := 4 } ∧
    (moving 1).copying 0 31 = false ∧ ((moving 1).reloc 0 31).phase = 1 ∧ (moving 2).copying 0 31 = false ∧
    ((moving 2).reloc 0 31).phase = 2 ∧ (moving 2).pieceQuiet 0 31 = true ∧ ((moving 2).reloc 0 31).place = 0 ∧
    (((moving 2).setReloc 0 31 { phase := 2, place := 2 }).reloc 0 31).place = 2 := by decide +kernel

theorem test_w_MovesAndLending_lend : svc.mayWrite .companion Reg.GL_LEND_CMD false = true ∧ svc.busy lendRegs = false ∧
    svc.isSelf 9 = false ∧ svc.isSelf 1 = true ∧ ((svc.setParcel 2047 { state := .granted }).parcel 2047).rights = 0 ∧
    mfind svc.lends 2047 = none ∧ ((svc.setParcel 2047 { state := .granted }).parcel 2047).state = .granted ∧
    (mfind ({ svc with lends := [(2047, 9)] } : State).lends 2047).isSome = true ∧
    (List.range 256).find? (fun i => !(svc.borrowAt i).valid) = some 0 ∧ svc.borrowOf 9 2047 = none ∧
    (aimed.borrowOf 9 2047).map (·.1) = some 255 := by decide +kernel

/-- The last key of slot 7, and a record of it in a state. -/
def lastKey : Nat := 2 ^ 64 - 1
def recordOf (st prior : Nat) : Custody := { state := st, prior := prior, ctx := 5, peer := 9, gen := 3, length := 256, offset := 1024, due := 77, retain := 2 }
def keeping (op : Nat) (st : Nat) : State :=
  (mapping (running [descOf op [(64, lastKey), (128, 4096), (192, 256), (224, 10)] .fetched])).setHold 7 lastKey (recordOf st 0)
def holdDesc (op : Nat) : Desc := descOf op [(64, lastKey), (128, 4096), (192, 256), (224, 10)] .fetched
/-- Without a record. -/
def unheld (op : Nat) : State := mapping (running [holdDesc op])
theorem test_w_CustodyRecords_ops : (unheld 0x31).serving = true ∧ (unheld 0x31).nextDesc 7 63 0x31 = some (holdDesc 0x31) ∧
    answers (createOp 7 63 (holdDesc 0x31) ((unheld 0x31).qpCtx 7 63)) ((unheld 0x31).modDesc 7 63 2 (fun d => { d with phase := .working })) = true ∧
    (∀ op ∈ [0x32, 0x33, 0x34], ((keeping op 1).hold 7 (holdKey (holdDesc op).body)).state = cuOwner ∧
      (keeping op 1).nextDesc 7 63 op = some (holdDesc op)) ∧
    ((unheld 0x33).hold 7 (holdKey (holdDesc 0x33).body)).state = cuFree ∧ (unheld 0x33).nextDesc 7 63 0x33 = some (holdDesc 0x33) ∧
    (holdDesc 0x34).stage = 0 ∧
    answers (offerOp 7 63 (holdDesc 0x34) ((keeping 0x34 1).qpCtx 7 63)) ((keeping 0x34 1).modDesc 7 63 2 (fun d => { d with phase := .working })) = true := by
  decide +kernel

/-- GL_CUSTODY_KEY names the last key, whose record is in a state. -/
def custody (st prior : Nat) : State := ((withParcel 0).setReg Reg.GL_CUSTODY_KEY (BitVec.allOnes 64)).setHold 7 lastKey (recordOf st prior)
theorem test_w_CustodyRecords_rest : (∀ st ∈ [1, 3, 4], ((custody st 0).hold 7 (BitVec.allOnes 64).toNat).state = st) ∧ (custody 1 0).serving = true ∧
    (custody 5 3).mayWrite .companion Reg.GL_CUSTODY_CMD false = true ∧ (custody 5 3).busy custodyRegs = false ∧
    ((custody 5 3).reg Reg.GL_CUSTODY_KEY).toNat = lastKey ∧ (custody 5 3).hold 7 lastKey = recordOf 5 3 ∧ (recordOf 5 3).state = cuUnresolved ∧
    (recordOf 5 3).prior = cuAccepted ∧ (custody 5 2).hold 7 lastKey = recordOf 5 2 ∧ (recordOf 5 2).prior = cuOffered ∧ (custody 2 0).hold 7 lastKey = recordOf 2 0 ∧
    ((withParcel 0).setReg Reg.GL_CUSTODY_KEY (BitVec.allOnes 64)).hold 7 lastKey = {} := by decide +kernel

/-- An OFFER of the last key from device 9 at offset 1024, its RELEASE, and the ACCEPT of one sent by queue pair 63. -/
def offerFrame (typ : Nat) : Frame :=
  { typ := BitVec.ofNat 8 typ, vc := 4, ctx := 5, src := 9, dst := 1, addr := 1024, aux := 3, data := lineOfBytes (bytesOfNat 8 lastKey ++ bytesOfNat 4 256) }
def offering : State :=
  { (home.setQp 7 63 { descs := [{ holdDesc 0x34 with phase := .working, stage := 1 }] }).setHold 7 lastKey (recordOf 2 0) with
      out := [{ die := 2, f := { offerFrame 0x60 with src := 1, dst := 9, seq := 8 }, purpose := .eng (.qp 7 63 2), sentAt := 0 }] }
def acceptFrame : Frame := { offerFrame 0x61 with seq := 8, aux := 4 }
theorem test_w_CustodyExchange : (∀ typ ∈ [0x60, 0x61, 0x62], home.takesOwn 47 (offerFrame typ) = true) ∧
    (match home.checkCustody (offerFrame 0x60) (field (lineWord (offerFrame 0x60).data 1) 0 32) true with | .allow t => t == 7 | _ => false) = true ∧
    (home.hold 7 (lineWord (offerFrame 0x60).data 0).toNat).state = cuFree ∧ home.custody.length < custodyRoom ∧
    ((home.holdsOf 7).any (fun e => e.1 != (lineWord (offerFrame 0x60).data 0).toNat && e.2.offset == (offerFrame 0x60).addr.toNat)) = false ∧
    (match ({ home with ctxs := [] } : State).checkCustody (offerFrame 0x60) (field (lineWord (offerFrame 0x60).data 1) 0 32) true with
      | .refuse st => st == stContext | _ => false) = true ∧
    (match (home.setHold 7 lastKey (recordOf 3 0)).checkCustody (offerFrame 0x62) 0 false with | .allow t => t == 7 | _ => false) = true ∧
    ((home.setHold 7 lastKey (recordOf 3 0)).holdsOf 7).find? (fun e => e.2.offset == (offerFrame 0x62).addr.toNat) = some (lastKey, recordOf 3 0) ∧
    (recordOf 3 0).state = cuAccepted ∧ (recordOf 3 0).gen = (offerFrame 0x62).aux.setWidth 32 := by decide +kernel

theorem test_w_CustodyExchange_accept : offering.takesOwn 47 acceptFrame = true ∧ (offering.matchOut acceptFrame).map (·.f.typ) = some 0x60 ∧
    ((offering.matchOut acceptFrame).bind offering.offerOf).map (fun x => (x.1, x.2.1)) = some (7, 63) ∧
    acceptFrame.aux.toNat % 2 ^ 32 = ((offering.hold 7 (holdKey (holdDesc 0x34).body)).gen + 1).toNat ∧
    (offerFrame 0x61).aux.toNat % 2 ^ 32 ≠ ((offering.hold 7 (holdKey (holdDesc 0x34).body)).gen + 1).toNat := by decide +kernel

/-- A cascade of two windows whose program lies at address 0, with a run of it. -/
def cascDesc (ph : DPhase) : Desc := descOf 0x30 [(192, 256), (224, 2), (128, 4096)] ph
def cascading (c : Casc) : State := (mapping (running [cascDesc .working])).setCasc 7 63 2 c
def windowWork : EngM Window := do let _ ← builtIn 7 63 2; readWindow (qpEng 7 63 2) 5 (cascDesc .working).body 0
theorem test_w_CascadeWindows : ((mapping (running [cascDesc .fetched])).qp 7 63).descs.find?
      (fun d => opOf d.body == 0x30 && (d.phase == .fetched || d.phase == .working)
        && (mfind ((mapping (running [cascDesc .fetched])).qp 7 63).casc d.index).isNone) = some (cascDesc .fetched) ∧
    work (mapping (running [cascDesc .fetched])) (pure ()) = true ∧
    (cascading { staging := true }).cascOf 7 63 = some (cascDesc .working, { staging := true }) ∧
    work (cascading { staging := true }) (readWindow (qpEng 7 63 2) 5 (cascDesc .working).body 0) = true ∧
    (cascading { staging := true }).refusedAns (qpEng 7 63 2) = none ∧ (({ staging := true } : Casc).stages (cascDesc .working).body) = true ∧
    (cascading { staging := true }).cascWrites (qpEng 7 63 2) false = false ∧ ({ staging := true } : Casc).outcomes.length < bf (cascDesc .working).body 236 224 := by
  decide +kernel

theorem test_w_CascadeWindows_deliver : (cascading { outcomes := [0] }).cascOf 7 63 = some (cascDesc .working, { outcomes := [0] }) ∧
    ({ outcomes := [0] } : Casc).marking = false ∧ ({ outcomes := [0] } : Casc).outcomes.drop ({ outcomes := [0] } : Casc).delivered = 0 :: [] ∧
    work (cascading { outcomes := [0] }) (deliverOp 7 (qpEng 7 63 2) 5 (cascDesc .working).body 0 0) = true ∧ 2 ^ 32 - 1 < 2 ^ 32 := by
  decide +kernel

/-- A window staged before its deadline. -/
theorem test_w_CascadeWindows_staged : (match (windowWork.on ((cascading { staging := true, start := 2 ^ 60 }).modDesc 7 63 2
    (fun d => { d with phase := .working }))) with | (.ok w, s) => decide (s.now ≤ ({ staging := true, start := 2 ^ 60 } : Casc).due w) | _ => false) = true := by
  decide +kernel

/-- A request of manager 3 for an entry on bus A, and a kept answer to it. -/
def asking (idx sub : Nat) : BusMsg := { dest := 0x23, src := 3, txn := 7, index := BitVec.ofNat 16 idx, sub := BitVec.ofNat 8 sub }
def keptOf (op : Nat) (m : BusMsg) : Kept := { op := op, msg := m, reply := { id := 0x1230307, data := [0] } }
/-- Manager 15, the register window and manager 3 hold transfers. -/
def transferring : State :=
  { svc with mgmt := { svc.mgmt with transfers := [(0, { writing := true, index := 0x1030, sub := 2, next := 1, data := [], at_ := 5 }),
                                                   (15, { writing := false, index := 0x1000, sub := 1, next := 1, data := [], at_ := 6 })] } }
theorem test_w_GazetteerMessages : svc.busOn .a = true ∧ svc.busOn .b = true ∧ (asking 0x1000 1).src ≠ svc.mgmt.address ∧ (asking 0x1000 1).dest = svc.mgmt.address ∧
    (asking 0x1000 1).src ≠ 0 ∧ (asking 0x1000 1).src.toNat ≤ 0x0F ∧ svc.gzVendor (asking 0x1000 1).index.toNat = false ∧
    (∀ op ∈ [opRead, opWrite, opInfo, opAbort], (mfind [(3, keptOf op (asking 0x1000 1))] (asking 0x1000 1).src.toNat).filter
      (fun k => k.matches op (asking 0x1000 1)) = some (keptOf op (asking 0x1000 1))) ∧
    (mfind svc.mgmt.kept (asking 0x1000 1).src.toNat).filter (fun k => k.matches opRead (asking 0x1000 1)) = none ∧
    (inMode 3).busVendor .a (asking 0xF000 1) = true ∧ (transferring.transfer 0).isSome = true ∧ (transferring.transfer 15).isSome = true ∧
    ((svc.setBus .b { off := true }).bus .b).off = true := by decide +kernel

/-- GL_GZ_SEL names an entry. -/
def selecting (code idx sub : Nat) : State := (inMode code).setReg Reg.GL_GZ_SEL (pack [(16, idx), (8, sub)])
theorem test_w_GazetteerWindow : (∀ w ∈ [Writer.companion, Writer.bus], (selecting 2 0x3010 1).mayWrite w Reg.GL_GZ_CMD true = true) ∧
    (selecting 2 0x3010 1).mayWrite .companion Reg.GL_GZ_CMD false = true ∧ (selecting 2 0x3010 1).busy gzRegs = false ∧
    (selecting 2 0x3010 1).windowVendor = false ∧ (selecting 3 0xF000 1).windowOpen .companion = true ∧ (selecting 3 0xF000 1).windowVendor = true ∧
    (∀ op ∈ [opRead, opInfo], (selecting 2 0x3010 1).gzCheck 3 { op := op, idx := 0x3010, sub := 1 } = gzOk) ∧
    (selecting 2 0x3010 1).transfer 3 = none ∧ (selecting 2 0x3010 1).gzEntry 0x3010 1 = some (gzRW tU32 64 4096 1) := by decide +kernel

/-- A survey is pending for edge 2000. -/
def surveying (a c : Bool) : State := { svc with tele := { svc.tele with survey := some { edge := 2000, number := 3, announced := a, captured := c } } }
theorem test_w_Surveys : svc.mayWrite .companion Reg.GL_SVY_CMD true = true ∧ svc.mayWrite .companion Reg.GL_SVY_CMD false = true ∧
    svc.surveyPending = false ∧ (surveying false false).mayWrite .companion Reg.GL_SVY_CMD true = true ∧ (surveying false false).surveyPending = true ∧
    svc.edges + 64 ≤ ((svc.setReg Reg.GL_SVY_AT 64).reg Reg.GL_SVY_AT).toNat ∧ ((svc.setReg Reg.GL_SVY_AT 63).reg Reg.GL_SVY_AT).toNat < svc.edges + 64 ∧
    svc.alive = true ∧ (svc.setGz 0x7010 0x02 4000).gzv 0x7010 0x02 = 4000 ∧ (surveying true true).tele.survey
      = some { edge := 2000, number := 3, announced := true, captured := true } := by decide +kernel

/-- An epoch open; and a challenge being answered. -/
def trusted : State := svc.setRf Reg.GL_SEC_STATE 4 1 1
def slotted : State := svc.setReg Reg.GL_SEC_SLOTS 0x003
theorem test_w_TrustCommands : (mfind svc.mgmt.kept 3).filter (fun k => k.matches opWrite { asking 0x9030 1 with index := 0x9030, sub := 1 }) = none ∧
    trusted.attest ≠ atBusy ∧ trusted.zeroized = false ∧ trusted.pfw = false ∧ trusted.tooSoon = false ∧ trusted.epochOpen = true ∧
    trusted.leavesUsed < 1024 ∧ (svc.setRf Reg.GL_SEC_STATE 3 1 1).zeroized = true ∧ (svc.setRf Reg.GL_SEC_STATE 3 1 1).attest ≠ atBusy ∧
    (trusted.setAttest atBusy).attest = atBusy ∧ (trusted.setAttest atBusy).sec.pulses = [] ∧ (trusted.setAttest atBusy).sec.opening = false ∧
    svc.windowOpen .companion = true ∧ svc.boot.accepted = true ∧ svc.alarm = 0 ∧ svc.pfw = false ∧ (3 : Byte).toNat = svc.boot.svn ∧
    svc.svnMin < (3 : Byte).toNat ∧ (4 : Byte).toNat ≠ svc.boot.svn ∧ (1 : Byte).toNat ≠ slotted.rf Reg.GL_SEC_SLOTS 8 2 ∧
    slotted.rf Reg.GL_SEC_SLOTS 0 1 = 1 ∧ slotted.rf Reg.GL_SEC_SLOTS 4 1 = 0 ∧ svc.policy ≤ (2 : Byte).toNat ∧
    (0 : Byte).toNat < (svc.setRf Reg.GL_SEC_STATE 35 2 1).policy ∧ State.reset.atStep 0 = true ∧ svc.boot.copies.getLsbD 0 = true ∧
    ({ svc.sec with pulses := [.zeroized true, .zeroized false] } : Sec).pulses = .zeroized true :: [.zeroized false] := by decide +kernel

/-- Port 47 up; a join command running; parcel 2047 kept or not in a mode. -/
def joinRuns : State := (svc.setRf (Reg.PT_LINK_STATE 47) 0 3 2).keepBusy joinRegs 1
def commonsOf (code keep : Nat) : State :=
  ((inMode code).setParcel 2047 { state := .commons, gen := 3, broad := true }).setReg (Reg.GL_COMMONS_KEEP 2047)
    (pack [(10, 7), (4, 0xF), (1, keep)])
theorem test_w_JoiningAndModes : svc.mayWrite .companion Reg.GL_JOIN_CMD false = true ∧ svc.busy joinRegs = false ∧
    (svc.setRf (Reg.PT_LINK_STATE 47) 0 3 2).portUp (47 : BitVec 6).toNat = true ∧ (47 : BitVec 6).toNat ≤ 47 ∧ 47 < (48 : BitVec 6).toNat ∧
    svc.portUp (47 : BitVec 6).toNat = false ∧ joinRuns.serving = true ∧ joinRuns.busy joinRegs = true ∧ Writer.companion ≠ .bus ∧
    svc.windowOpen .companion = true ∧ (0x3FFF : BitVec 16).toNat ≤ 0x3FFF ∧ ({ svc.boot with deviceId := none } : Boot).deviceId = none ∧
    svc.boot.deviceId.isSome = true ∧ (∀ c ∈ [1, 2, 3, 4], (inMode c).mayWrite .companion Reg.GL_MODE_CMD true = true ∧ (inMode c).busy modeRegs = false) ∧
    (inMode 1).mode = .commons ∧ (inMode 2).mode = .service ∧ (inMode 3).mode = .test ∧ (inMode 4).mode = .recovery ∧
    ((commonsOf 1 1).parcel 2047).state = .commons ∧ (commonsOf 1 1).rf (Reg.GL_COMMONS_KEEP 2047) 14 1 = 1 ∧
    (commonsOf 1 0).rf (Reg.GL_COMMONS_KEEP 2047) 14 1 = 0 ∧ (commonsOf 1 0).linesInUse 2047 = [] ∧
    ((inMode 1).keepBusy modeRegs 1).serving = true ∧ ((inMode 1).keepBusy modeRegs 1).busy modeRegs = true ∧
    field (((inMode 1).keepBusy modeRegs 1).runningWord modeRegs) 0 4 = 1 ∧
    (((inMode 1).keepBusy modeRegs 1).parcels.any (fun e => e.2.state == .closing || e.2.state == .commons)) = false ∧
    (commonsOf 1 1).mayWrite .companion Reg.GL_COMMONS_CMD true = true ∧ (commonsOf 1 1).busy commonsRegs = false ∧
    (commonsOf 4 1).mode = .recovery ∧ (commonsOf 2 1).mode = .service := by decide +kernel

/-- In BOOT at a step, the Thoit link's group A up. -/
def booting (n : Nat) : State := (linked State.reset).setRf Reg.GL_MODE_STATUS 12 4 n
/-- An image of one body byte in the buffer, with that SVN. -/
def imageHead : Line := lineOfBytes ([0x4D, 0x49, 0x4C, 0x45, 0x46, 0x49, 0x4D, 0x47] ++ bytesOfNat 4 1 ++ bytesOfNat 4 0x1152 ++ bytesOfNat 4 9
  ++ bytesOfNat 4 5 ++ bytesOfNat 4 0 ++ bytesOfNat 4 1)
def checking (head : Line) : State :=
  { booting 2 with boot := { State.reset.boot with
      buffer := ibChecking, owner := .thoit, length := 8193, image := (0, head) :: ([1, 2, 3] ++ (List.range 18).map (46 + ·)).map (fun i => (i, 0)) } }
theorem test_w_StartUpSteps : (booting 1).serving = true ∧ (booting 1).groupUp (booting 1).anyGroup = true ∧ (booting 1).bootMode = true ∧
    (booting 1).freeEntry (booting 1).anyGroup < 12 ∧ (booting 1).imageOpen .thoit = true ∧ (booting 1).alive = true ∧
    (BitVec.ofNat 46 (128 * (2 ^ 17 - 1))).toNat / 128 % 2 ^ 23 < 2 ^ 17 ∧ 2 ^ 17 ≤ (BitVec.ofNat 46 (128 * 2 ^ 17)).toNat / 128 % 2 ^ 23 ∧
    (booting 1).atStep 1 = true ∧ (booting 3).atStep 3 = true ∧ (booting 4).atStep 4 = true ∧ (booting 5).atStep 5 = true ∧
    (booting 6).mode = .boot ∧ popCount ((0 : BitVec 4) ||| 1) < 2 ∧ 2 ≤ popCount (3 : BitVec 12) ∧ popCount (1 : BitVec 12) < 2 ∧
    svc.boot.edges.getLsbD (Edge.code .b2b0) = false ∧ svc.boot.edges = 0 ∧ ({ svc.boot with edges := 1 } : Boot).edges ≠ 0 := by decide +kernel

theorem test_w_StartUpSteps_image : (checking imageHead).imageReason {} = 0 ∧ (checking 0).imageReason {} ≠ 0 ∧
    (checking 0).boot.buffer = ibChecking := by decide +kernel

/-- Power off; overvoltage latched; the input-power warning raised. -/
def unpowered : State := { State.reset with power := { running := false }, boot := {} }
def latched : State := { unpowered with power := { overvoltage := true } }
def warned : State := svc.setRf Reg.GL_PWR_STATE 5 1 1
theorem test_w_PowerStage : 6500 < (6501 : BitVec 16).toNat ∧ unpowered.power.running = false ∧ unpowered.power.overvoltage = false ∧
    4550 < (4551 : BitVec 16).toNat ∧ (6400 : BitVec 16).toNat ≤ 6400 ∧ 6200 ≤ (6200 : BitVec 16).toNat ∧ latched.power.overvoltage = true ∧
    (5999 : BitVec 16).toNat < 6000 ∧ svc.alive = true ∧ svc.pfw = false ∧ (4599 : BitVec 16).toNat < 4600 ∧ warned.pfw = true ∧ warned.alive = true ∧
    4600 < (4601 : BitVec 16).toNat ∧ svc.power.running = true ∧ (3999 : BitVec 16).toNat < 4000 ∧ 4000 ≤ (4000 : BitVec 16).toNat ∧
    (4449 : BitVec 16).toNat < 4450 ∧ svc.sec.pulses = [] ∧ ({ unpowered with power := { running := true } } : State).boot.powered = false ∧
    svc.boot.powered = true ∧ ({ svc.boot with inReset := true } : Boot).inReset = true ∧ jtagKnown 0xFF = true ∧ jtagKnown 0x03 = false := by decide +kernel

/-- Sensors at 40 °C but one. -/
def tempsOf (hot : Byte) : Temps := { basin := Vector.replicate 16 40, weir := Vector.replicate 12 40, stack := (Vector.replicate 12 (40 : Byte)).set 11 hot }
theorem test_w_PowerAndTemperature : svc.alive = true ∧ svc.serving = true ∧ svc.mode ≠ .halted ∧ (tripOf (tempsOf 94)).isNone = true ∧
    (tripOf (tempsOf 95)) = some (2, 11, 95) ∧ ({ capLevel := 5 } : Power).capLevel ≤ 5 ∧ ({ lowSince := some 4 } : Power).lowSince = some 4 ∧
    (3 : Nat) + 50 < 54 ∧ 4 + 1000000 ≤ 1000004 := by decide +kernel

theorem test_w_RegisterWrites : (Reg.rowOf Reg.GL_SVY_AT).isSome = true ∧ (Reg.rowOf 0xFFF_FFF8).isSome = false ∧ (Reg.rowOf (Reg.TN_CNT_DROPS 1023)).isSome = true ∧
    (withParcel 0).mayWrite .companion (BitVec.ofNat 28 Reg.GL_SVY_AT).toNat (mirrored (BitVec.ofNat 28 Reg.GL_SVY_AT).toNat) = true ∧
    (withParcel 0).registerVendor .companion (BitVec.ofNat 28 Reg.GL_SVY_AT).toNat 1 = false ∧
    ((withParcel 0).pathWorks .bus && (withParcel 0).admits .bus (BitVec.ofNat 28 Reg.GL_SVY_AT).toNat (mirrored (BitVec.ofNat 28 Reg.GL_SVY_AT).toNat)) = false ∧
    (withParcel 0).registerVendor .bus (BitVec.ofNat 28 Reg.GL_SVY_AT).toNat 1 = false ∧
    (selecting 3 0xF000 1).registerVendor .companion Reg.GL_GZ_CMD 1 = true ∧ (∀ i < 16, wordMask (BitVec.ofNat 128 0x7F) i ≠ 0xFF) := by decide +kernel

theorem test_w_PrivilegedRange : (withParcel 0).serving = true ∧ (withParcel 0).isMgmt 5 = false ∧
    (withParcel 0).admits (.tag 5) (BitVec.ofNat 28 (Reg.TN_FENCE_CMD 7)).toNat (mirrored (BitVec.ofNat 28 (Reg.TN_FENCE_CMD 7)).toNat) = true ∧
    privileged (BitVec.ofNat 28 (Reg.TN_FENCE_CMD 7)).toNat = true ∧ (withParcel 0).admits (.tag 5) (Reg.TN_FENCE_CMD 7) false = true ∧
    (withParcel 0).admits (.tag 5) (Reg.TN_RESET_CMD 7) false = true ∧ (runs (withParcel 0) (fenceRegs 1023) 1).busy (fenceRegs 1023) = true ∧
    (runs (withParcel 0) (fenceRegs 1023) 1).mayWrite .companion (Reg.TN_FENCE_CMD 1023) false = true ∧
    (runs (withParcel 0) (fenceRegs 1023) 1).mayWrite .companion (Reg.TN_RESET_CMD 1023) false = true ∧
    (withParcel 0).busy (fenceRegs 7) = false ∧ (withParcel 0).mine 7 6 = false ∧ (8 : Fin 1024) ≠ 7 := by decide +kernel

theorem test_w_LineHash : ((withParcel 2047).parcel 2047).broad = true ∧ (2047 : Nat) < 2048 ∧ 2 ^ 23 - 1 < 2 ^ 23 ∧ 2 ^ 23 - 12 + 11 < 2 ^ 23 := by decide +kernel

/-- The widest opcode the slots hold, and one above it. -/
theorem test_w_BundleRoundTrip : 255 < 256 ∧ slotOp (memoryBits 255 {}) = 255 := by decide +kernel

theorem test_w_DarkStaysDark : unpowered.dark = true ∧ (match step unpowered with | .next t => t.dark | _ => false) = true ∧
    (svc.pending.all (fun c => !isPowerOnReset c)) = true := by decide +kernel

/-- A masked data frame whose MASK failed; the reserved types; a type unknown. -/
theorem test_w_PortFramesAndReplay_pairs : isMasked 0x19 = true ∧ (vcsOf 0x19).contains 0 = true ∧ (sending.port 47).half = none ∧
    (sending.port 47).slq = [] ∧ ((1 : BitVec 16).toNat ≠ (sending.port 47).rx) ∧ (5 : Byte).toNat ≠ 0x1F ∧ 4 < (5 : Byte).toNat := by decide +kernel

theorem test_w_PortLanes_queues : (laned.port 47).slq = [] ∧ ((laned.setPort 47 { txAsleep := true }).port 47).slq = [] ∧
    ((laned.setPort 47 { txAsleep := true }).port 47).txq = [] := by decide +kernel

/-- Training finds two stacks failed, and one. -/
theorem test_w_StartUpSteps_training : 2 ≤ popCount ((booting 4).failedStacks { failed := 3 }) ∧
    popCount ((booting 4).failedStacks { failed := 1 }) < 2 := by decide +kernel

/-- The completion ring full, a record kept. -/
def keepingFull (op : Nat) : State := (keeping op 1).setReg (Reg.TN_QP_CQ_HEAD 7 63) 1
theorem test_w_CustodyRecords_owed : ∀ op ∈ [0x32, 0x33], (keepingFull op).owesAlone 7 63 (holdDesc op) = true ∧
    ((keepingFull op).hold 7 (holdKey (holdDesc op).body)).state = cuOwner ∧ opOf (holdDesc op).body = op := by decide +kernel

/-- The address of a record translates to this Golik. -/
def translated (s : State) (op acc : Nat) : Bool :=
  match (translate (qpEng 7 63 2) 5 acc (bf (holdDesc op).body 191 128)).on (s.modDesc 7 63 2 (fun d => { d with phase := .working })) with
  | (.ok g, s1) => gpaVer g == 1 && s1.isSelf (gpaDev g) && decide ((gpaOff g).toNat + bf (holdDesc op).body 223 192 ≤ 2 ^ 41)
      && decide (s1.custody.length < custodyRoom) && ((unheld op).hold 7 lastKey).state == cuFree
  | _ => false
theorem test_w_CustodyRecords_translated : translated (unheld 0x31) 0x31 accRead = true ∧ translated (keeping 0x34 1) 0x34 accWrite = true ∧
    (unheld 0x31).qpCtx 7 63 = 5 ∧ (keeping 0x34 1).qpCtx 7 63 = 5 := by decide +kernel

theorem test_w_CustodyExchange_counted : (home.counted 47 1 4).checkCustody (offerFrame 0x60) (field (lineWord (offerFrame 0x60).data 1) 0 32) true = .allow 7 ∧
    ((home.counted 47 1 4).hold 7 (lineWord (offerFrame 0x60).data 0).toNat).state = cuFree ∧ (home.counted 47 1 4).custody.length < custodyRoom ∧
    (((home.setHold 7 lastKey (recordOf 3 0)).counted 47 1 4).checkCustody (offerFrame 0x62) 0 false) = .allow 7 ∧
    (home.setHold 7 lastKey (recordOf 3 0)).takesOwn 47 (offerFrame 0x62) = true ∧
    ((offering.matchOut acceptFrame).bind offering.offerOf).map (fun x => x.2.2.phase) = some .working := by decide +kernel

theorem test_w_CascadeWindows_start : (mapping (running [cascDesc .fetched])).soleDesc 7 63 (cascDesc .fetched) = true ∧
    opOf (cascDesc .fetched).body = 0x30 ∧ mfind ((mapping (running [cascDesc .fetched])).qp 7 63).casc 2 = none ∧
    (mapping (running [cascDesc .fetched])).tasksOf 7 63 2 = [] ∧ (mapping (running [cascDesc .fetched])).anyJet (dieOfQp 7 63) = some 52 ∧
    (mapping (running [cascDesc .fetched])).freeSlot 52 = some 0 := by decide +kernel

/-- A write of 100 to entry 0x3010.01 over bus A; a read of it. -/
def writing100 : BusMsg := { asking 0x3010 1 with last := true, count := 4, data := [100, 0, 0, 0] }
theorem test_w_GazetteerMessages_run : (∀ op ∈ [opRead, opInfo, opAbort], svc.gzCheck 3 (gzMsgOf op (asking 0x3010 1)) = gzOk) ∧
    svc.gzCheck 3 (gzMsgOf opWrite writing100) = gzOk ∧ mfind svc.mgmt.kept 3 = none ∧ svc.transfer 3 = none ∧
    (gzMsgOf opRead (asking 0x3010 1)).idx = 0x3010 ∧ (gzMsgOf opRead (asking 0x3010 1)).sub = 1 ∧ (gzMsgOf opRead (asking 0x3010 1)).seg = 0 ∧
    (gzMsgOf opWrite writing100).idx = 0x3010 ∧ (gzMsgOf opWrite writing100).sub = 1 ∧ (gzMsgOf opWrite writing100).seg = 0 ∧
    (gzMsgOf opWrite writing100).last = true ∧ (gzMsgOf opWrite writing100).count = 4 ∧ svc.gzVendor 0x3010 = false ∧
    64 ≤ natOfBytes ((writing100.data ++ List.replicate 48 0).take 4) ∧ natOfBytes ((writing100.data ++ List.replicate 48 0).take 4) ≤ 4096 ∧
    svc.gzEntry 0x3010 1 = some (gzRW tU32 64 4096 1) ∧ (svc.gzValue 0x3010 1 (gzRW tU32 64 4096 1)).length ≤ 48 := by decide +kernel

/-- The window selects entry 0x3010.01, with 4096 in its data. -/
def windowed : State := (selecting 2 0x3010 1).setReg (Reg.GL_GZ_DATA 0) 4096
/-- An operation of the window on that entry is allowed. -/
def windowAllows (w : Word) : Bool :=
  let m := windowed.gzWindowMsg w
  windowed.gzCheck 0 m == gzOk && m.idx == 0x3010 && m.sub == 1 && m.seg == 0
theorem test_w_GazetteerWindow_run : windowed.mayWrite .companion Reg.GL_GZ_CMD false = true ∧ windowed.busy gzRegs = false ∧ windowed.windowVendor = false ∧
    windowed.transfer 0 = none ∧ windowAllows (pack [(4, 1)]) = true ∧ windowAllows (pack [(4, 2), (1, 1), (3, 0), (6, 4)]) = true ∧
    windowAllows (pack [(4, 3)]) = true ∧ windowed.gzEntry 0x3010 1 = some (gzRW tU32 64 4096 1) ∧
    windowed.gzValue 0x3010 1 (gzRW tU32 64 4096 1) ≠ [] ∧ (windowed.gzValue 0x3010 1 (gzRW tU32 64 4096 1)).length ≤ 48 ∧
    64 ≤ (windowed.reg (Reg.GL_GZ_DATA 0)).toNat % 2 ^ 32 ∧ (windowed.reg (Reg.GL_GZ_DATA 0)).toNat % 2 ^ 32 ≤ 4096 := by decide +kernel

/-- The completion ring of queue pair 63 full. -/
def ringless (s : State) : State := s.setReg (Reg.TN_QP_CQ_HEAD 7 63) 1
/-- The built-in task of descriptor 2 has record 0 of jet 52. -/
def tasked (s : State) : State := { s with tasks := [(32 * 52, { state := .parked, cause := 3, tenant := 7, ctx := 5, qp := 63, desc := 2, system := 1 })] }
/-- The descriptor's work under way. -/
def begun (s : State) : State := s.modDesc 7 63 2 (fun d => { d with phase := .working })

theorem test_w_EngineOperations_open : (ringless (running [openDesc])).owesAlone 7 63 openDesc = true ∧ opOf openDesc.body = 0x10 ∧
    bf openDesc.body 309 309 = 0 ∧ (ringless (running [openDesc])).freeHandle = some 0 ∧ (ringless (running [openDesc])).tables = [] ∧
    (ringless (running [descOf 0x20 [(64, 256)] .fetched])).owesAlone 7 63 (descOf 0x20 [(64, 256)] .fetched) = true ∧
    opOf (descOf 0x20 [(64, 256)] .fetched).body = 0x20 ∧ (ringless (running [descOf 0x20 [(64, 256)] .fetched])).indexes = [] ∧
    (List.range 1024).find? (fun h => (mget {} (ringless (running [descOf 0x20 [(64, 256)] .fetched])).indexes h).state == 0) = some 0 := by
  decide +kernel

theorem test_w_EngineOperations_close : (ringless (onTable 0x11 [])).owesAlone 7 63 (tableDesc 0x11 []) = true ∧
    (ringless (onTable 0x11 [])).embDesc 7 63 0x11 = some (tableDesc 0x11 [], 3, table3) ∧ table3.state ≠ 0 ∧
    (ringless (onTable 0x11 [])).tables.map (·.1) = [3] ∧ (ringless (onIndex mutating 0x21 [])).owesAlone 7 63 (indexDesc 0x21 []) = true ∧
    (ringless (onIndex mutating 0x21 [])).searchDesc 7 63 0x21 = some (indexDesc 0x21 [], 9, mutating) ∧ mutating.state ≠ 0 ∧
    (ringless (onIndex mutating 0x21 [])).indexes.map (·.1) = [9] := by decide +kernel

/-- A commit with nothing to fold in: to start, and to end. -/
theorem test_w_EngineOperations_commit : (onTable 0x14 []).soleDesc 7 63 (tableDesc 0x14 []) = true ∧ (table3.state = 1 ∨ table3.state = 2) ∧
    table3.upd = [] ∧ table3.links = [] ∧ table3.snaps = [] ∧ table3.commit = none ∧
    ((onTable 0x14 []).setTable 3 committing).soleDesc 7 63 (tableDesc 0x14 []) = true ∧
    committing.upd = [] ∧ committing.links = [] ∧ committing.snaps = [] ∧
    committing.commit = some { op := ⟨7, 63, 2⟩, running := 0, todo := [], failed := none, rows := 5, sat := 70000 } := by decide +kernel

def unlinkBits : List (Nat × Nat) := (78, 1) :: linkBits
def intervalBits : List (Nat × Nat) := (288, 2) :: snapBits
theorem test_w_EngineOperations_copies : (tasked (onTable 0x15 unlinkBits)).soleDesc 7 63 (tableDesc 0x15 unlinkBits) = true ∧
    (tasked (onTable 0x15 unlinkBits)).hasBuiltIn 7 63 2 = true ∧
    (tasked (onTable 0x15 unlinkBits)).embDesc 7 63 0x15 = some (tableDesc 0x15 unlinkBits, 3, table3) ∧ bf (tableDesc 0x15 unlinkBits).body 78 78 = 1 ∧
    (tasked (onTable 0x16 intervalBits)).embDesc 7 63 0x16 = some (tableDesc 0x16 intervalBits, 3, table3) ∧
    bf (tableDesc 0x16 intervalBits).body 79 79 = 0 ∧ bf (tableDesc 0x16 intervalBits).body 303 288 ≠ 0 := by decide +kernel

/-- What GATHER of one index does on table 3, up to its write; and what SCATTER_ADD of one index reads. -/
def gatherOne : EngM Bool := do
  let d := tableDesc 0x12 gatherBits
  let idx ← readBytes (qpEng 7 63 2) 5 (bf d.body 191 128) 4
  let row ← readBytes (qpEng 7 63 2) 5 (table3.tableVa + 128 * table3.rowLines * natOfBytes (idx.take 4)) (table3.dim * elemBytes table3.fmt)
  translateAll (qpEng 7 63 2) 5 accWrite [bf d.body 319 256]
  writeVa (qpEng 7 63 2) 5 (bf d.body 319 256) {
    typ := 0x1A, ord := true, gauge := BitVec.ofNat 8 (bf d.body 91 84),
    data := lineOfBytes ((outputBytes (bf d.body 83 80) 1 (rowFp32 table3.fmt 1 row)).take 128) }
  pure (decide (natOfBytes (idx.take 4) < table3.rows))
def scatterOne : EngM Bool := do
  let d := tableDesc 0x13 scatterBits
  let idx ← readBytes (qpEng 7 63 2) 5 (bf d.body 191 128) 4
  let _ ← readBytes (qpEng 7 63 2) 5 (bf d.body 319 256) (table3.dim * elemBytes (bf d.body 83 80))
  let s ← get
  pure (decide (natOfBytes (idx.take 4) < table3.rows) && mget {} s.tables 3 == table3 && s.reserveFails table3 1 == none)
/-- An operation answers that what it read is as wanted. -/
def confirms (m : EngM Bool) (s : State) : Bool := match (m.on s).1 with | .ok b => b | .error _ => false

theorem test_w_EngineOperations_rows : (tasked (onTable 0x12 gatherBits)).soleDesc 7 63 (tableDesc 0x12 gatherBits) = true ∧
    (tasked (onTable 0x12 gatherBits)).hasBuiltIn 7 63 2 = true ∧ confirms gatherOne (begun (tasked (onTable 0x12 gatherBits))) = true ∧
    (tasked (onTable 0x12 gatherBits)).embDesc 7 63 0x12 = some (tableDesc 0x12 gatherBits, 3, table3) ∧ (tableDesc 0x12 gatherBits).acc = [] ∧
    table3.replica = false ∧ table3.sparse = false ∧ (∀ d ∈ [tableDesc 0x12 gatherBits, tableDesc 0x13 scatterBits],
      bf d.body 77 76 = 0 ∧ bf d.body 351 320 = 1 ∧ bf d.body 78 78 = 0) ∧ outLines table3.dim (bf (tableDesc 0x12 gatherBits).body 83 80) = 1 ∧
    (tasked (onTable 0x13 scatterBits)).soleDesc 7 63 (tableDesc 0x13 scatterBits) = true ∧
    (tasked (onTable 0x13 scatterBits)).hasBuiltIn 7 63 2 = true ∧ confirms scatterOne (begun (tasked (onTable 0x13 scatterBits))) = true ∧
    (tasked (onTable 0x13 scatterBits)).embDesc 7 63 0x13 = some (tableDesc 0x13 scatterBits, 3, table3) ∧ mfind table3.upd 0 = none := by
  decide +kernel

/-- An exhaustive search of one node. -/
def allBits : List (Nat × Nat) := [(76, 3), (87, 1), (192, 4096), (128, 512)]
def searchOne : EngM Bool := do
  let d := indexDesc 0x22 allBits
  let qb ← readBytes (qpEng 7 63 2) 5 (bf d.body 191 128) (4 * searching.dims)
  let l ← readVa (qpEng 7 63 2) 5 (searching.nodeVa 0 0)
  let vec ← readBytes (qpEng 7 63 2) 5 (searching.nodeVa 0 3) (searching.dims * elemBytes searching.fmt)
  let dead ← tombBit (qpEng 7 63 2) searching 0
  translateAll (qpEng 7 63 2) 5 accWrite [bf d.body 255 192]
  let v := scoreOf searching.metric (numbersOf 4 searching.dims qb) (rowFp32 searching.fmt searching.dims vec)
  writeVa (qpEng 7 63 2) 5 (bf d.body 255 192) {
    typ := 0x1A, ord := true, gauge := BitVec.ofNat 8 (bf d.body 111 104), data := lineOfBytes ((resultBytes (bf d.body 86 76) [(v, 0)]).take 128) }
  pure (decide (natOfBytes (lineBytes l 8 8) ≤ 4) && !dead && !(valueOf 0 v).isNan)

theorem test_w_EngineOperations_search : (tasked (onIndex searching 0x22 allBits)).soleDesc 7 63 (indexDesc 0x22 allBits) = true ∧
    (tasked (onIndex searching 0x22 allBits)).hasBuiltIn 7 63 2 = true ∧
    (tasked (onIndex searching 0x22 allBits)).searchDesc 7 63 0x22 = some (indexDesc 0x22 allBits, 9, searching) ∧
    searching.searches.find? (fun y => y.1 == ⟨7, 63, 2⟩) = some (⟨7, 63, 2⟩, (4, 0, 1)) ∧ searching.pq = false ∧
    bf (indexDesc 0x22 allBits).body 87 87 = 1 ∧ 1 ≤ bf (indexDesc 0x22 allBits).body 86 76 ∧ bf (indexDesc 0x22 allBits).body 86 76 ≤ 16 ∧
    confirms searchOne (begun (tasked (onIndex searching 0x22 allBits))) = true := by decide +kernel

/-- The reads, translations and writes of an insert and of a delete of one. -/
def insertOne : EngM Bool := do
  let d := indexDesc 0x23 listBits
  let e := qpEng 7 63 2
  let vec ← readBytes e 5 (bf d.body 191 128) (128 * mutating.vecLines)
  let s ← get
  let recs := nodeRecord mutating (Config.freeLine s.free) vec
  translateAll e 5 accWrite ((List.range recs.length).map (mutating.nodeVa mutating.nextNode))
  translateAll e 5 accWrite (linesOfVa (mutating.annexVa + 16 * mutating.annexCount) 16)
  modify (fun s => { s with free := s.free + 1 }.modDesc 7 63 2 (fun d => { d with stage := 1 }))
  engEach (fun y => writeVa e 5 y.1 { typ := 0x18, ord := true, data := y.2 })
    (((List.range recs.length).zip recs).map (fun y => (mutating.nodeVa mutating.nextNode y.1, y.2)))
  appendAnnex e mutating [(mutating.nextNode, 1)]
  pure true
def deleteOne : EngM Bool := do
  let d := indexDesc 0x24 listBits
  let e := qpEng 7 63 2
  let bs ← readBytes e 5 (bf d.body 191 128) 4
  let dead ← tombBit e mutating (natOfBytes (bs.take 4))
  translateAll e 5 accWrite (linesOfVa mutating.annexVa 16)
  modify (fun s => s.modDesc 7 63 2 (fun d => { d with stage := 1 }))
  appendAnnex e mutating [(natOfBytes (bs.take 4), 2)]
  pure (!dead && decide (natOfBytes (bs.take 4) < mutating.nextNode))

theorem test_w_EngineOperations_mutate : (tasked (onIndex mutating 0x23 listBits)).soleDesc 7 63 (indexDesc 0x23 listBits) = true ∧
    (tasked (onIndex mutating 0x23 listBits)).searchDesc 7 63 0x23 = some (indexDesc 0x23 listBits, 9, mutating) ∧
    bf (indexDesc 0x23 listBits).body 96 80 = 1 ∧ mutating.nextNode < mutating.nodes ∧ mutating.annexCount < mutating.annexMax ∧
    mutating.annexCount = 0 ∧ bf (indexDesc 0x24 listBits).body 96 80 = 1 ∧
    (tasked (onIndex mutating 0x24 listBits)).soleDesc 7 63 (indexDesc 0x24 listBits) = true ∧
    (tasked (onIndex mutating 0x24 listBits)).searchDesc 7 63 0x24 = some (indexDesc 0x24 listBits, 9, mutating) ∧
    confirms deleteOne (begun (tasked (onIndex mutating 0x24 listBits))) = true := by decide +kernel

theorem test_w_EngineOperations_insert : confirms insertOne (begun (tasked (onIndex mutating 0x23 listBits))) = true := by decide +kernel

/-- A merge of an empty annex; one that starts; one that ended. -/
def emptied : Index := { index9 with holding := some opRef }
def mergedAll : Index := { emptied with merging := true, mergeEnd := some none }
theorem test_w_EngineOperations_merge : (∀ x ∈ [emptied, annexed, mergedAll], (tasked (onIndex x 0x25 [])).soleDesc 7 63 (indexDesc 0x25 []) = true ∧
      (tasked (onIndex x 0x25 [])).hasBuiltIn 7 63 2 = true ∧ (tasked (onIndex x 0x25 [])).searchDesc 7 63 0x25 = some (indexDesc 0x25 [], 9, x)) ∧
    emptied.merging = false ∧ emptied.annexCount = 0 ∧ annexed.annexCount ≠ 0 ∧ mergedAll.mergeEnd = some none ∧ mergedAll.annexCount = 0 ∧
    confirms (do let _ ← readBytes (qpEng 7 63 2) annexed.ctx annexed.annexVa (16 * annexed.annexCount)
                 let s ← get
                 pure (s.anyJet (dieOfQp 7 63) == some 52 && s.freeSlot 52 == some 1)) (begun (tasked (onIndex annexed 0x25 []))) = true := by
  decide +kernel

/-! ### Ill-formed commands are refused -/

theorem test_wf_message_too_long : Instr.wf (.gzBusRead .a { data := List.replicate 49 0 }) = false ∧
    Instr.wf (.gzBusWrite .a { data := List.replicate 48 0 }) = true ∧ Instr.wf (.challenge .b { data := List.replicate 49 0 }) = false := by decide
theorem test_wf_flit_too_long : Instr.wf (.thoitFlitRx 0 0 { msgs := List.replicate 5 {} }) = false ∧
    Instr.wf (.thoitFlitRx 0 0 { msgs := List.replicate 4 {} }) = true := by decide
theorem test_wf_signature : Instr.wf (.evidenceReady []) = false ∧ Instr.wf (.joinDiscover .bus 63) = true := by decide

/-! ### Single effects, expected values worked out by hand from the rules named -/

/-- R43 with parcel 0: the first four lines go to the first stacks of the four dies, the fifth to the second stack of die 0. -/
theorem test_line_hash : (withParcel 0).stackOf 0 = 0 ∧ (withParcel 0).stackOf 1 = 3 ∧ (withParcel 0).stackOf 3 = 9 ∧
    (withParcel 0).stackOf 4 = 1 ∧ (withParcel 0).stackOf 11 = 11 ∧ (withParcel 0).stackOf 12 = 0 := by decide +kernel

/-- The example of chapter 9: ReadShared of device 0x0123 under tag 0x2A17 for a line of device 0x0031. -/
def exampleFrame : Frame :=
  { typ := 0x10, ctx := 0x2A17, src := 0x0123, dst := 0x0031, seq := 0x420, addr := BitVec.ofNat 46 0x7A4D159E00 }
/-- Its bytes 0 to 27 are the ones written out there, 32 in all; a receiver reads the frame back, and none of it with a bit turned. -/
theorem test_example_frame : ((frameBytes exampleFrame).take 28).map BitVec.toNat = [0x01, 0x01, 0x17, 0x2A, 0x23, 0x01, 0x31, 0x00,
      0x20, 0x04, 0, 0, 0, 0, 0x00, 0x9E, 0x15, 0x4D, 0x7A, 0, 0, 0, 0, 0, 0, 0, 0, 0] ∧
    (frameBytes exampleFrame).length = 32 ∧ (readFrame (frameBytes exampleFrame) == some exampleFrame) = true ∧
    (readFrame ((frameBytes exampleFrame).set 27 1)).isNone = true := by decide +kernel

/-- Table 11-5 and the example of chapter 11: GRANT with STATE E. -/
theorem test_receipt_entry : receiptBits { code := 3, state := 2 } = 0x23 := by decide

/-- The check value of CRC-32 (IEEE 802.3): of the nine ASCII digits 1 to 9. -/
theorem test_crc : crc32 ((List.range 9).map (fun i => BitVec.ofNat 8 (0x31 + i))) = 0xCBF43926 := by decide +kernel

/-- No word of the table spells a command, so nothing is placed. -/
theorem test_decode : decodeTableWord 32 0 = none ∧ svc.withFetchWord 32 0 = svc := by
  refine ⟨rfl, ?_⟩
  rfl

/-- A write to an offset where no register stands changes none. -/
theorem test_unlisted_write : (match step { svc with pending := [.registerWrite .companion 0xFFF_FFF8 (BitVec.allOnes 64)] } with
    | .next t => t.regs == svc.regs | _ => false) = true := by decide +kernel

/-- Above 65.00 V the stage is beyond its absolute maximum (chapter 19): 65.00 V itself is not. -/
theorem test_absolute_maximum : (match step { svc with pending := [.overvoltageShutdown 6501] } with | .fault .absoluteMaximum => true | _ => false) = true ∧
    (match step { svc with pending := [.overvoltageShutdown 6500] } with | .next t => t.mem.isEmpty && t.pending.isEmpty | _ => false) = true := by
  decide +kernel

/-- An idle step is one period of the bench clock, 40 ns (R11). -/
theorem test_idle : (match step State.reset with | .next t => t.now == 40 && t.edges == 1 | _ => false) = true := by decide +kernel

end Sys2Proof.Tests
end

section
/-!
PROOF. The line hash of a broad parcel (R43): which stack a line of the memory window lies on, and that the hash takes twelve lines in a
row to twelve stacks.
-/

set_option Elab.async false

namespace Sys2Proof.Machine

/-- The parcel number of a line named by its parcel and its index in it (R38). -/
theorem parcelOf_line {p l : Nat} (hl : l < 2 ^ 23) : parcelOf (2 ^ 23 * p + l) = p := by
  rw [parcelOf, parcelLines, Nat.mul_add_div (by decide), Nat.div_eq_of_lt hl, Nat.add_zero]

/-- The index of a line named by its parcel and its index in it (R38). -/
theorem indexOf_line {p l : Nat} (hl : l < 2 ^ 23) : indexOf (2 ^ 23 * p + l) = l := by
  rw [indexOf, parcelLines, Nat.mul_add_mod, Nat.mod_eq_of_lt hl]

/-- The lines of the 2048 parcels are those of the memory window, below every line of the Golik's own. -/
theorem line_lt_window {p l : Nat} (hp : p < 2048) (hl : l < 2 ^ 23) : 2 ^ 23 * p + l < 2 ^ 34 := by omega

/-- A broad parcel is placed by the line hash, whatever else holds of it. -/
theorem hashed_of_broad {x : Parcel} (hx : x.broad = true) : x.hashed = true := by simp [Parcel.hashed, hx]

/-- Where the lines of a broad parcel lie (R43). -/
theorem stackOf_broad {s : State} {p l : Nat} (hp : p < 2048) (hl : l < 2 ^ 23) (hb : (s.parcel p).broad = true) :
    s.stackOf (2 ^ 23 * p + l) = hashStack p l := by
  have hwin : ¬ 2 ^ 34 ≤ 2 ^ 23 * p + l := Nat.not_le.mpr (line_lt_window hp hl)
  simp only [State.stackOf, parcelOf_line hl, indexOf_line hl, if_neg hwin, hashed_of_broad hb, if_true]

/-- The line hash names one of the twelve stacks. -/
theorem hashStack_lt (p l : Nat) : hashStack p l < 12 := by
  simp only [hashStack]; omega

/-- The line hash tells apart the lines whose i differs: i mod 4 is the hash's quotient by 3, and ⌊i / 4⌋ its remainder. -/
theorem hashStack_eq_iff {p l m : Nat} : hashStack p l = hashStack p m ↔ (l + p) % 12 = (m + p) % 12 := by
  simp only [hashStack]; omega

/-- Of twelve lines in a row only the first lies where the first lies. -/
theorem eq_zero_of_hashStack_add_eq {p l j : Nat} (hj : j < 12) (h : hashStack p (l + j) = hashStack p l) : j = 0 := by
  have hmod : (l + j + p) % 12 = (l + p) % 12 := hashStack_eq_iff.mp h
  omega

/-- Settles O55: a line of a broad parcel lies where the line hash says, and the hash is one-to-one on i. -/
theorem lineHash : Obligations.LineHash := by
  unfold Obligations.LineHash
  refine ⟨fun s p l hp hl hb => stackOf_broad hp hl hb, fun s p l hp hl hb => ?_⟩
  rw [stackOf_broad hp hl hb]
  refine ⟨hashStack_lt p l, fun j hj heq hlj => ?_⟩
  rw [stackOf_broad hp hlj hb] at heq
  exact eq_zero_of_hashStack_add_eq hj heq

end Sys2Proof.Machine
end

section
/-!
PROOF. Who writes the privileged registers of a tenant block (R323): the fence and reset rows as writes of one register each, and what
becomes of such a write by each writer.
-/

set_option Elab.async false

namespace Sys2Proof.Machine

/-! ### The privileged range -/

/-- The registers at 0x3000 to 0x3FFF of every tenant block are in it. -/
theorem privileged_block {t o : Nat} (ht : t < 1024) (hlo : 0x3000 ≤ o) (hhi : o < 0x4000) :
    privileged (0x100_0000 + 0x1_0000 * t + o) = true := by
  simp only [privileged, Bool.and_eq_true, decide_eq_true_eq]; omega

theorem privileged_fenceCmd (t : Fin 1024) : privileged (Reg.TN_FENCE_CMD t.val) = true :=
  privileged_block t.isLt (by decide) (by decide)

theorem privileged_resetCmd (t : Fin 1024) : privileged (Reg.TN_RESET_CMD t.val) = true :=
  privileged_block t.isLt (by decide) (by decide)

/-- The tenant block of an offset below the block's end. -/
theorem tenantBlock_div {t o : Nat} (ho : o < 0x1_0000) : (0x100_0000 + 0x1_0000 * t + o - 0x100_0000) / 0x1_0000 = t := by omega

/-- No register of the privileged range is the window command of the gazetteer. -/
theorem privileged_ne_gzCmd {off : Nat} (h : privileged off = true) : off ≠ Reg.GL_GZ_CMD := by
  rintro rfl
  exact absurd h (by decide)

/-- A write to the privileged range starts no window command. -/
theorem registerVendor_of_privileged {s : State} {w : Writer} {off : Nat} {v : Word} (h : privileged off = true) :
    s.registerVendor w off v = false := by
  simp [State.registerVendor, privileged_ne_gzCmd h]

/-- A slot's own admitted write to the privileged range is counted in the block's PRIV and does nothing else (R323). -/
theorem writeAs_of_slotTag {s : State} {tag : BitVec 16} {off : Nat} {m : Bool} (hs : s.serving = true) (ht : s.isMgmt tag = false)
    (ha : s.admits (.tag tag) off m = true) (hp : privileged off = true) (run : State → State) :
    s.writeAs (.tag tag) off m run = s.bump (Reg.TN_CNT_DROPS ((off - 0x100_0000) / 0x1_0000)) 32 32 1 := by
  have hw : s.slotWriter (.tag tag) = true := by simp [State.slotWriter, ht]
  have hr : s.pathWorks (.tag tag) = true := hs
  simp [State.writeAs, State.writeBy, hr, ha, hw, hp]

/-- The management bus reaches no register that has no gazetteer entry (R49). -/
theorem writeAs_bus_unmirrored (s : State) (off : Nat) (run : State → State) : s.writeAs .bus off false run = s :=
  writeAs_of_not (by simp [State.admits]) run

/-! ### The rows as register writes -/

/-- The four fence rows of a tenant block. -/
def fenceRows (w : Writer) (t : Fin 1024) (x : BitVec 16) : List Instr :=
  [.fenceTag w t x, .unfenceTag w t x, .fenceAll w t, .unfenceAll w t]

/-- The word that FENCE_TAG writes to TN_FENCE_CMD. -/
def fenceTagWord (x : BitVec 16) : Word := pack [(4, 1), (12, 0), (16, x.toNat)]

theorem fenceTagWord_op (x : BitVec 16) : field (fenceTagWord x) 0 4 = 1 := field_pack_head 4 1 _ (by simp [widths])

theorem fenceTagWord_tag (x : BitVec 16) : field (fenceTagWord x) 16 16 = x.toNat :=
  (field_pack [(4, 1), (12, 0)] [] 16 16 x.toNat rfl (by simp [widths])).trans (Nat.mod_eq_of_lt x.isLt)

theorem exec_fenceTag (s : State) (w : Writer) (t : Fin 1024) (x : BitVec 16) : exec (.fenceTag w t x) s =
    ends (s.writeAs w (Reg.TN_FENCE_CMD t.val) false (fun s => s.fenceCommand t.val (fenceTagWord x))) := rfl

theorem exec_tenantReset (s : State) (w : Writer) (t : Fin 1024) : exec (.tenantReset w t) s =
    ends (s.writeAs w (Reg.TN_RESET_CMD t.val) false (fun s => s.resetCommand t.val (pack [(4, 1)]))) := rfl

/-- Each fence row writes TN_FENCE_CMD, with an OP that is not 0. -/
theorem exec_fenceRow {w : Writer} {t : Fin 1024} {x : BitVec 16} {c : Instr} (hc : c ∈ fenceRows w t x) :
    ∃ v : Word, field v 0 4 ≠ 0 ∧ ∀ s : State, exec c s =
      ends (s.writeAs w (Reg.TN_FENCE_CMD t.val) false (fun s => s.fenceCommand t.val v)) := by
  simp only [fenceRows, List.mem_cons, List.not_mem_nil, or_false] at hc
  obtain rfl | rfl | rfl | rfl := hc
  · exact ⟨fenceTagWord x, by simp [fenceTagWord_op], fun s => exec_fenceTag s w t x⟩
  · exact ⟨pack [(4, 3), (12, 0), (16, x.toNat)], by simp [field_pack_head, widths], fun _ => rfl⟩
  · exact ⟨pack [(4, 2)], by decide, fun _ => rfl⟩
  · exact ⟨pack [(4, 4)], by decide, fun _ => rfl⟩

/-! ### The commands -/

/-- A fence command while BUSY is counted in the block's DROPS and does nothing else (R49). -/
theorem fenceCommand_of_busy {s : State} {t : Nat} {v : Word} (hv : field v 0 4 ≠ 0) (hb : s.busy (fenceRegs t) = true) :
    s.fenceCommand t v = s.bump (Reg.TN_CMD_DROPS t) 0 32 1 := by
  simp only [State.fenceCommand, if_neg hv]; exact command_of_busy hb _

/-- A reset command while BUSY is counted in the same DROPS and does nothing else (R49). -/
theorem resetCommand_of_busy {s : State} {t : Nat} {v : Word} (hv : field v 0 4 ≠ 0) (hb : s.busy (fenceRegs t) = true) :
    s.resetCommand t v = s.bump (Reg.TN_CMD_DROPS t) 0 32 1 := by
  simp only [State.resetCommand, if_neg hv]; exact command_of_busy hb _

/-- FENCE_TAG of a tag that is not the slot's ends at once with RESULT 1, NOT_MINE (Table 12-10). -/
theorem fenceCommand_of_foreignTag {s : State} {t : Nat} {x : BitVec 16} (hb : s.busy (fenceRegs t) = false)
    (hm : s.mine t x = false) : s.fenceCommand t (fenceTagWord x) = s.done (fenceRegs t) 1 := by
  simp [State.fenceCommand, fenceTagWord_op, fenceTagWord_tag, command_of_idle hb, hm]

/-! ### What each writer's row leaves -/

/-- A fence row of a slot's own tag is counted in PRIV. -/
theorem exec_fenceRow_of_slotTag {s : State} {tag x : BitVec 16} {t : Fin 1024} {c : Instr} (hs : s.serving = true)
    (ht : s.isMgmt tag = false) (ha : s.admits (.tag tag) (Reg.TN_FENCE_CMD t.val) false = true) (hc : c ∈ fenceRows (.tag tag) t x) :
    exec c s = .next (s.bump (Reg.TN_CNT_DROPS t.val) 32 32 1).finish := by
  obtain ⟨v, -, hexec⟩ := exec_fenceRow hc
  rw [hexec, writeAs_of_slotTag hs ht ha (privileged_fenceCmd t), Reg.TN_FENCE_CMD, tenantBlock_div (by decide), ends]

/-- A reset of a slot's own tag is counted in PRIV. -/
theorem exec_tenantReset_of_slotTag {s : State} {tag : BitVec 16} {t : Fin 1024} (hs : s.serving = true) (ht : s.isMgmt tag = false)
    (ha : s.admits (.tag tag) (Reg.TN_RESET_CMD t.val) false = true) :
    exec (.tenantReset (.tag tag) t) s = .next (s.bump (Reg.TN_CNT_DROPS t.val) 32 32 1).finish := by
  rw [exec_tenantReset, writeAs_of_slotTag hs ht ha (privileged_resetCmd t), Reg.TN_RESET_CMD, tenantBlock_div (by decide), ends]

/-- A fence row of a writer who may write, while BUSY, is counted in DROPS. -/
theorem exec_fenceRow_of_busy {s : State} {w : Writer} {x : BitVec 16} {t : Fin 1024} {c : Instr}
    (hb : s.busy (fenceRegs t.val) = true) (hw : s.mayWrite w (Reg.TN_FENCE_CMD t.val) false = true) (hc : c ∈ fenceRows w t x) :
    exec c s = .next (s.bump (Reg.TN_CMD_DROPS t.val) 0 32 1).finish := by
  obtain ⟨v, hv, hexec⟩ := exec_fenceRow hc
  rw [hexec, writeAs_of_mayWrite hw, fenceCommand_of_busy hv hb, ends]

/-- A reset by a writer who may write, while BUSY, is counted in DROPS. -/
theorem exec_tenantReset_of_busy {s : State} {w : Writer} {t : Fin 1024} (hb : s.busy (fenceRegs t.val) = true)
    (hw : s.mayWrite w (Reg.TN_RESET_CMD t.val) false = true) :
    exec (.tenantReset w t) s = .next (s.bump (Reg.TN_CMD_DROPS t.val) 0 32 1).finish := by
  rw [exec_tenantReset, writeAs_of_mayWrite hw, resetCommand_of_busy (by decide) hb, ends]

/-- The rows of the management bus leave the block as it is. -/
theorem exec_busRow {s : State} {x : BitVec 16} {t : Fin 1024} {c : Instr} (hc : c ∈ fenceRows .bus t x ∨ c = .tenantReset .bus t) :
    exec c s = .next s.finish := by
  obtain hc | rfl := hc
  · obtain ⟨v, -, hexec⟩ := exec_fenceRow hc
    rw [hexec, writeAs_bus_unmirrored, ends]
  · rw [exec_tenantReset, writeAs_bus_unmirrored, ends]

/-- A write of a register of the privileged range by one of the slot's own tags is counted in PRIV. -/
theorem exec_registerWrite_of_slotTag {s : State} {tag : BitVec 16} {off : BitVec 28} {v : Word} (hs : s.serving = true)
    (ht : s.isMgmt tag = false) (ha : s.admits (.tag tag) off.toNat (mirrored off.toNat) = true) (hp : privileged off.toNat = true) :
    exec (.registerWrite (.tag tag) off v) s =
      .next (s.bump (Reg.TN_CNT_DROPS ((off.toNat - 0x100_0000) / 0x1_0000)) 32 32 1).finish := by
  change execRegisterWrite (.tag tag) off v s = _
  rw [execRegisterWrite, registerVendor_of_privileged hp, if_neg Bool.false_ne_true, writeAs_of_slotTag hs ht ha hp, ends]

/-! ### Blocks apart -/

/-- The command registers of two blocks stand apart: the end of a command of one leaves the other's STATUS and DROPS. -/
theorem done_fenceRegs_apart (s : State) {t k : Nat} (r : Nat) (h : k ≠ t) :
    (s.done (fenceRegs t) r).reg (Reg.TN_CMD_STATUS k) = s.reg (Reg.TN_CMD_STATUS k) ∧
      (s.done (fenceRegs t) r).reg (Reg.TN_CMD_DROPS k) = s.reg (Reg.TN_CMD_DROPS k) := by
  constructor <;> apply State.done_reg_ne <;> simp only [fenceRegs, Reg.TN_CMD_STATUS, Reg.TN_CMD_DROPS] <;> omega

/-- Settles O54: a slot's own tag is stopped at the write (PRIV), the management bus before it, a command while BUSY after it (DROPS), and
a command that ends touches its own block's status alone. -/
theorem privilegedRange : Obligations.PrivilegedRange := by
  unfold Obligations.PrivilegedRange
  refine ⟨?_, ?_, ?_, ?_, ?_⟩
  · intro s tag off v hs ht ha hp
    exact exec_registerWrite_of_slotTag hs ht ha hp
  · intro s tag x t hs ht
    exact ⟨fun ha c hc => exec_fenceRow_of_slotTag hs ht ha hc, exec_tenantReset_of_slotTag hs ht⟩
  · intro s x t c hc
    exact exec_busRow (x := x) (t := t) (by simpa [fenceRows, or_assoc] using hc)
  · intro s w x t hb
    exact ⟨fun hw c hc => exec_fenceRow_of_busy hb hw hc, exec_tenantReset_of_busy hb⟩
  · intro s w x t k hkt hw hb hm
    refine ⟨s.done (fenceRegs t.val) 1, ?_, done_result s (fenceRegs t.val) 1,
      done_fenceRegs_apart s 1 (Fin.val_ne_of_ne hkt)⟩
    rw [exec_fenceTag, writeAs_of_mayWrite hw, fenceCommand_of_foreignTag hb hm, ends]

end Sys2Proof.Machine
end

section
/-!
PROOF. Exact accumulators (R343): the integer an addend becomes, its exact addition to W, and why the order of the addends is lost.
-/

set_option Elab.async false

namespace Sys2Proof.Machine

/-! ### Rounding to an integer, ties to even -/

/-- A value that is an integer already is not rounded. -/
theorem roundShift_natCast (m k : Nat) : roundShift m k = m * 2 ^ k := by simp [roundShift]

/-- What is left of m below 2^k decides the rounding of its quotient; of the quotient's last bit only a tie depends. -/
theorem roundShift_neg_succ (m k : Nat) : roundShift m (-((k + 1 : Nat) : Int)) =
    if 2 ^ k < m % 2 ^ (k + 1) ∨ (m % 2 ^ (k + 1) = 2 ^ k ∧ m / 2 ^ (k + 1) % 2 = 1)
    then m / 2 ^ (k + 1) + 1 else m / 2 ^ (k + 1) := by
  have hneg : ¬ (0 : Int) ≤ -((k + 1 : Nat) : Int) := by omega
  have hk : (-(-((k + 1 : Nat) : Int))).toNat = k + 1 := by omega
  simp only [roundShift, if_neg hneg, hk, Nat.add_sub_cancel]

/-- The rounded quotient is a nearest integer, and where two are as near it is the even one. -/
theorem roundShift_nearest_even (m k : Nat) :
    2 * ((roundShift m (-(k : Int)) : Int) * 2 ^ k - m).natAbs ≤ 2 ^ k ∧
      (2 * ((roundShift m (-(k : Int)) : Int) * 2 ^ k - m).natAbs = 2 ^ k → roundShift m (-(k : Int)) % 2 = 0) := by
  cases k with
  | zero => simp [roundShift]
  | succ k =>
    have hdouble : 2 ^ (k + 1) = 2 * 2 ^ k := by rw [pow_succ, mul_comm]
    have hdiv : (m : Int) = (m / 2 ^ (k + 1) : Nat) * 2 ^ (k + 1) + (m % 2 ^ (k + 1) : Nat) := by
      exact_mod_cast (Nat.div_add_mod' m (2 ^ (k + 1))).symm
    have hrest : m % 2 ^ (k + 1) < 2 ^ (k + 1) := Nat.mod_lt _ (Nat.two_pow_pos _)
    have hcast : ((2 ^ (k + 1) : Nat) : Int) = 2 ^ (k + 1) := by push_cast; rfl
    rw [roundShift_neg_succ]
    generalize m / 2 ^ (k + 1) = q at *
    generalize m % 2 ^ (k + 1) = r at *
    split
    · have herr : ((q + 1 : Nat) : Int) * 2 ^ (k + 1) - m = (2 ^ (k + 1) : Nat) - r := by
        rw [hdiv, hcast]; push_cast; ring
      rw [herr]; omega
    · have herr : (q : Int) * 2 ^ (k + 1) - m = -r := by rw [hdiv]; ring
      rw [herr]; omega

/-- An integer with a sign of its own. -/
theorem roundInt_eq (neg : Bool) (m : Nat) (d : Int) :
    roundInt neg m d = if neg then -(roundShift m d : Int) else roundShift m d := rfl

theorem roundInt_natCast (neg : Bool) (m k : Nat) : roundInt neg m k = (if neg then -(m : Int) else m) * 2 ^ k := by
  cases neg <;> simp [roundInt_eq, roundShift_natCast]

/-- The sign has no part in the rounding: ties go to even on both sides of zero. -/
theorem roundInt_nearest_even (neg : Bool) (m k : Nat) :
    2 * (roundInt neg m (-(k : Int)) * 2 ^ k - (if neg then -(m : Int) else m)).natAbs ≤ 2 ^ k ∧
      (2 * (roundInt neg m (-(k : Int)) * 2 ^ k - (if neg then -(m : Int) else m)).natAbs = 2 ^ k →
        roundInt neg m (-(k : Int)) % 2 = 0) := by
  have hnear := roundShift_nearest_even m k
  rw [roundInt_eq]
  cases neg with
  | false =>
    simp only [Bool.false_eq_true, if_false]
    omega
  | true =>
    have hmirror : -(roundShift m (-(k : Int)) : Int) * 2 ^ k - -(m : Int) = -((roundShift m (-(k : Int)) : Int) * 2 ^ k - m) := by ring
    simp only [if_true, hmirror, Int.natAbs_neg]
    omega

/-! ### One addend -/

theorem Acc.addValue_of_addend {a : Acc} {v : FV} {n : Int} {sat : Bool} (h : addend a.scale v = some (n, sat)) :
    a.addValue v = { a with w := wrap192 (a.w + n), sat := a.sat || sat } := by simp only [Acc.addValue, h]

theorem Acc.addValue_of_skipped {a : Acc} {v : FV} (h : addend a.scale v = none) :
    a.addValue v = { a with nonfinite := true } := by simp only [Acc.addValue, h]

/-- An addend within ±(2^127 - 1) is its rounded integer. -/
theorem addend_of_inside {neg : Bool} {m : Nat} {e scale : Int} (hlt : roundInt neg m (e - scale) < 2 ^ 127)
    (hgt : -(2 ^ 127) < roundInt neg m (e - scale)) : addend scale (.num neg m e) = some (roundInt neg m (e - scale), false) := by
  simp only [addend, if_neg (not_le.mpr hlt), if_neg (not_le.mpr hgt)]

theorem addend_of_above {neg : Bool} {m : Nat} {e scale : Int} (h : 2 ^ 127 ≤ roundInt neg m (e - scale)) :
    addend scale (.num neg m e) = some (2 ^ 127 - 1, true) := by simp only [addend, if_pos h]

theorem addend_of_below {neg : Bool} {m : Nat} {e scale : Int} (h : roundInt neg m (e - scale) ≤ -(2 ^ 127)) :
    addend scale (.num neg m e) = some (-(2 ^ 127 - 1), true) := by
  have hnot : ¬ (2 : Int) ^ 127 ≤ roundInt neg m (e - scale) := by omega
  simp only [addend, if_neg hnot, if_pos h]

/-! ### The order of the addends -/

/-- W is a balanced residue modulo 2^192. -/
theorem wrap192_eq_bmod (w : Int) : wrap192 w = w.bmod (2 ^ 192) := rfl

theorem wrap192_wrap192_add (w n : Int) : wrap192 (wrap192 w + n) = wrap192 (w + n) := by
  simp only [wrap192_eq_bmod, Int.bmod_add_bmod]

/-- Two addends may change places: their integers depend on the scale alone, and are added exactly. -/
theorem Acc.addValue_right_comm (a : Acc) (x y : FV) : (a.addValue x).addValue y = (a.addValue y).addValue x := by
  cases hx : addend a.scale x with
  | none =>
    cases hy : addend a.scale y with
    | none => simp only [Acc.addValue, hx, hy]
    | some q => simp only [Acc.addValue, hx, hy]
  | some p =>
    cases hy : addend a.scale y with
    | none => simp only [Acc.addValue, hx, hy]
    | some q => simp only [Acc.addValue, hx, hy, wrap192_wrap192_add, add_right_comm, Bool.or_right_comm]

theorem foldl_addValue_perm (a : Acc) {l₁ l₂ : List FV} (h : l₁.Perm l₂) :
    l₁.foldl Acc.addValue a = l₂.foldl Acc.addValue a :=
  h.foldl_eq' (fun x _ y _ b => b.addValue_right_comm x y) a

/-! ### The addends of ACCADD and ACCSUM -/

/-- ACCADD writes the accumulators of its active lanes below 64, each with its own lane added. -/
theorem mem_accAdd_dests {f : VectorSlot} {g : JRegs} {i : Nat} {a : Acc} : ((.ac i a : JDest), 3) ∈ (accAdd f g).dests ↔
    i < 64 ∧ laneActive f g i = true ∧
      a = (g.getAc i).addValue (valueOf f.fmt.toNat ((lanes (elemBits f.fmt.toNat) (g.getV f.va.toNat)).getD i 0)) := by
  simp only [accAdd, List.mem_map, List.mem_filter, List.mem_range, Prod.mk.injEq, JDest.ac.injEq, and_true]
  constructor
  · rintro ⟨j, ⟨hj, hact⟩, rfl, rfl⟩
    exact ⟨hj, hact, rfl⟩
  · rintro ⟨hi, hact, rfl⟩
    exact ⟨i, ⟨hi, hact⟩, rfl, rfl⟩

/-- A list beside its indexes is the list read at each index. -/
theorem range_zip_eq_map_getD (l : List Nat) :
    (List.range l.length).zip l = (List.range l.length).map (fun i => (i, l.getD i 0)) :=
  List.ext_getElem (by simp) (fun i _ h => by
    have hi : i < l.length := by simpa using h
    simp [hi])

/-- ACCSUM adds the values of its active lanes, one after the other, to its one accumulator. -/
theorem accSum_dests (f : VectorSlot) (g : JRegs) : (accSum f g).dests = [(.ac f.acc.toNat ((((List.range (lanes
    (elemBits f.fmt.toNat) (g.getV f.va.toNat)).length).filter (laneActive f g)).map (fun i => valueOf f.fmt.toNat
      ((lanes (elemBits f.fmt.toNat) (g.getV f.va.toNat)).getD i 0))).foldl Acc.addValue (g.getAc f.acc.toNat)), 8)] := by
  simp only [accSum, range_zip_eq_map_getD, List.foldl_map, List.foldl_filter]

/-- A vector slot whose format its operation does not take is refused. -/
theorem fmtBad_eq_false_of_vectorSlotBad {v : BitVec 96} (hop : slotOp v ≠ 0) (h : vectorSlotBad v = false) :
    fmtBad (slotOp v) (vectorFields v).fmt.toNat = false := by
  cases hbad : fmtBad (slotOp v) (vectorFields v).fmt.toNat with
  | false => rfl
  | true => simp [vectorSlotBad, hbad, hop] at h

/-- The formats of ACCADD and ACCSUM are FP32, BF16, FP16 and INT32. -/
theorem fmtBad_acc {op : Nat} (hop : op = 0x19 ∨ op = 0x1A) (fmt : BitVec 4) (h : fmtBad op fmt.toNat = false) :
    fmt = 0 ∨ fmt = 1 ∨ fmt = 2 ∨ fmt = 5 := by
  obtain rfl | rfl := hop <;> revert fmt <;> decide

/-- Settles O39: two addends of an accumulator may change places, so any order of them may be taken for any other. -/
theorem accumulatorsInEveryOrder : Obligations.AccumulatorsInEveryOrder := by
  unfold Obligations.AccumulatorsInEveryOrder
  refine ⟨fun a _ _ h => foldl_addValue_perm a h, ?_, roundInt_natCast, ?_, ?_, fun f g i a => mem_accAdd_dests, accSum_dests, ?_⟩
  · rintro neg m e _ a rfl
    refine ⟨?_, ?_, ?_⟩ <;> rintro _ rfl
    · intro hlt hgt
      rw [Acc.addValue_of_addend (addend_of_inside hlt hgt), Bool.or_false]
    · intro h
      rw [Acc.addValue_of_addend (addend_of_above h), Bool.or_true]
    · intro h
      rw [Acc.addValue_of_addend (addend_of_below h), Bool.or_true, ← sub_eq_add_neg]
  · rintro neg m k _ rfl
    exact roundInt_nearest_even neg m k
  · exact fun a b => ⟨Acc.addValue_of_skipped rfl, Acc.addValue_of_skipped rfl⟩
  · intro v hop h
    have hne : slotOp v ≠ 0 := by omega
    exact fmtBad_acc hop _ (fmtBad_eq_false_of_vectorSlotBad hne h)

end Sys2Proof.Machine
end
